-- ==== Sys2Proof/Word.lean ====
section
/-! DEFINITION. The word types of the TR8 and `Bank`, a fixed number of like things (nests, channels, slots). -/

namespace Sys2Proof

/-- A byte of exchange memory or of the panel link. -/
abbrev Byte := BitVec 8

/-- A 16-bit field, such as a sequence number. -/
abbrev W16 := BitVec 16

/-- A word of exchange memory or of the register block. -/
abbrev W32 := BitVec 32

/-- A nest of the station, 0 to 7. -/
abbrev NestId := Fin 8

/-- `k` like things, one for each index below `k`. -/
structure Bank (k : Nat) (α : Type) where
  cells : Vector α k
  deriving DecidableEq, Repr

namespace Bank

variable {k : Nat} {α : Type}

/-- The thing at index `i`. -/
def get (b : Bank k α) (i : Fin k) : α := b.cells[i.val]

/-- The bank with `x` at index `i`. -/
def put (b : Bank k α) (i : Fin k) (x : α) : Bank k α := ⟨b.cells.set i.val x⟩

/-- The bank with the thing at index `i` changed by `f`. -/
def modify (b : Bank k α) (i : Fin k) (f : α → α) : Bank k α := b.put i (f (b.get i))

/-- The bank that holds `x` at every index. -/
def fill (x : α) : Bank k α := ⟨Vector.replicate k x⟩

/-- The bank that holds `f i` at each index `i`. -/
def build (f : Fin k → α) : Bank k α := ⟨⟨⟨List.ofFn f⟩, by simp⟩⟩

end Bank

end Sys2Proof
end

