-- ==== Sys2Proof/Syntax.lean ====
section
/-! DEFINITION. The commands of the TR8: one constructor of `Instr` for each row of spec/opcode_table.json,
with what the command names (a nest, a channel, a slot) and what it brings from outside (a word, a reading,
a code, a frame). -/

namespace Sys2Proof

/-- The verdicts of a retired step (R29). -/
inductive Verdict where
  | pass | fail | timeout | refused | skipped | aborted
  deriving DecidableEq, Repr

/-- The details that qualify a verdict (step record table of chapter 1). -/
inductive Detail where
  | none | badKind | badOperand | badState | badTable | noUnit | deviation | saturated | notSettled
  | mismatch | outOfWindow | overrange | noEdges | noMatch | operator | noAnswer | supplyLow | supplyTrip
  | contactOpen | clampTimeout | lidOpened | abortRequest | stationStop | busMute | deadline
  deriving DecidableEq, Repr

/-- The five result words of a step, w11 to w15 (R14). -/
structure Results where
  w11 : W32
  w12 : W32
  w13 : W32
  w14 : W32
  w15 : W32
  deriving DecidableEq, Repr

/-- Result words all 0. -/
def Results.zero : Results := ⟨0, 0, 0, 0, 0⟩

/-- The 17 words the XPT watches (section 1.3). -/
inductive Watched where
  | post (n : NestId) | abort (n : NestId) | faultRelease
  deriving DecidableEq, Repr

/-- The four registers of the register block (R17). -/
inductive Register where
  | ident | control | factor | mask
  deriving DecidableEq, Repr

/-- A change of one sensor of a nest (section 3.1), with the new reading. -/
inductive SensorChange where
  | clampClosed (active : Bool)
  | clampOpen (active : Bool)
  | lidClosed (closed : Bool)
  | contact (line : Fin 16) (closed : Bool)
  | supply (above : Bool)
  | fuse (tripped : Bool)
  deriving DecidableEq, Repr

/-- Why the NSQ tells an owner to end an operation: its end request at a deadline, or its stop request at a nest
abort or a supply trip (R33, R44, R46). -/
inductive EndCause where
  | deadline | stop
  deriving DecidableEq, Repr

/-- A data frame of the vehicle bus: identifier, length and payload, byte 0 lowest. -/
structure Frame where
  extended : Bool
  ident : BitVec 29
  length : Fin 9
  payload : BitVec 64
  deriving DecidableEq, Repr

/-- The three ends of a transmission (R102). At lost arbitration the nest port's IL0-IL3 levels come with it,
since the receiver latches them at that event (R109). -/
inductive TransmissionEnd where
  | acknowledged
  | notAcknowledged
  | arbitrationLost (il : BitVec 4)
  deriving DecidableEq, Repr

/-- The ends of a reception (R109): a data frame, a remote frame, or an error. -/
inductive ReceptionEnd where
  | data (f : Frame)
  | remote
  | error
  deriving DecidableEq, Repr

/-- What one coil of a gauge reads (section 6.1). -/
inductive Sense where
  | plus | zero | minus
  deriving DecidableEq, Repr

/-- A coil-pair image: coil A and coil B (section 6.1). -/
structure CoilPair where
  a : Sense
  b : Sense
  deriving DecidableEq, Repr

/-- An owner's outcome (R28): the nest and the step it names, the verdict, the detail and the result words. -/
structure OwnerOutcome where
  nest : NestId
  sequence : W16
  verdict : Verdict
  detail : Detail
  results : Results
  deriving DecidableEq, Repr

/-- The commands, in the order of the table. -/
inductive Instr where
  /-- POWER_ON_RESET (R2). -/
  | powerOnReset
  /-- RESET (R18): a host write of 1 to CONTROL. -/
  | reset
  /-- RESUME (R19): a host write of 2 to CONTROL. -/
  | resume
  /-- FACTOR_CLEAR (R20): a whole-word host write to FACTOR. -/
  | factorClear (value : W32)
  /-- MASK_WRITE (R21): a whole-word host write to MASK. -/
  | maskWrite (value : W32)
  /-- REGISTER_WRITE_DISCARDED (R17): byte `k` of the register is written where bit `k` of `bytes` is 1. -/
  | registerWriteDiscarded (register : Register) (bytes : BitVec 4) (value : W32)
  /-- HOST_WRITE (R1): a host write to the word with index `word`; byte `k` is written where bit `k` of `bytes` is 1. -/
  | hostWrite (word : W16) (bytes : BitVec 4) (value : W32)
  /-- WATCH_REQUEST (R5). -/
  | watchRequest (word : Watched)
  /-- POST_EVENT (R7). -/
  | postEvent (n : NestId)
  /-- WAIT_EXPIRY (R36). -/
  | waitExpiry (n : NestId)
  /-- FAULT_RELEASE_EVENT (R24). -/
  | faultReleaseEvent
  /-- OWNER_OUTCOME (R28). -/
  | ownerOutcome (outcome : OwnerOutcome)
  /-- DEADLINE_EXPIRY (R33). -/
  | deadlineExpiry (n : NestId)
  /-- ABORT_EVENT (R46). -/
  | abortEvent (n : NestId)
  /-- LID_ABORT (R60). -/
  | lidAbort (n : NestId)
  /-- SUPPLY_TRIP_NOTICE (R44). -/
  | supplyTripNotice (n : NestId)
  /-- STATION_STOP_NOTICE (R51). -/
  | stationStopNotice (n : NestId)
  /-- CLAMP_CLOSED_SENSOR (R56): the sensor becomes active. -/
  | clampClosedSensor (n : NestId)
  /-- CLAMP_OPEN_SENSOR (R57): the sensor becomes active. -/
  | clampOpenSensor (n : NestId)
  /-- MOTION_TIMER_EXPIRY (R56). -/
  | motionTimerExpiry (n : NestId)
  /-- LID_OPENING (R59): the lid-closed sensor becomes open. -/
  | lidOpening (n : NestId)
  /-- SENSOR_IMAGE_CHANGE (R53). -/
  | sensorImageChange (n : NestId) (change : SensorChange)
  /-- FUSE_TRIP (R70): the fuse-trip sensor becomes tripped. -/
  | fuseTrip (n : NestId)
  /-- INRUSH_TIMER_EXPIRY (R65). -/
  | inrushTimerExpiry (n : NestId)
  /-- POWER_ON_END_REQUEST (R66). -/
  | powerOnEndRequest (n : NestId)
  /-- POWER_OFF_REQUEST (R68). -/
  | powerOffRequest (n : NestId)
  /-- POWER_QUEUE_WITHDRAWAL (R64). -/
  | powerQueueWithdrawal (n : NestId) (cause : EndCause)
  /-- DISCHARGE_TIMER_EXPIRY (R68). -/
  | dischargeTimerExpiry (n : NestId)
  /-- STATION_STOP (R71): the STOP input becomes pressed. -/
  | stationStop
  /-- STOP_LEVEL_CHANGE (R72): the STOP input changes to `pressed`. -/
  | stopLevelChange (pressed : Bool)
  /-- IDLE_ENFORCEMENT (R86). -/
  | idleEnforcement (n : NestId)
  /-- ACTIVE_PHASE_END (R79). -/
  | activePhaseEnd (n : NestId) (channel : Fin 4)
  /-- PERIOD_BOUNDARY (R76). -/
  | periodBoundary (n : NestId) (channel : Fin 4)
  /-- BURST_STOP_REQUEST (R80). -/
  | burstStopRequest (n : NestId) (channel : Fin 4)
  /-- SENDER_SETTLE_EXPIRY (R82). -/
  | senderSettleExpiry (n : NestId) (sender : Fin 2)
  /-- SENDER_SETTLE_STOP_REQUEST (R82). -/
  | senderSettleStopRequest (n : NestId) (sender : Fin 2)
  /-- GAP_EXPIRY (R89). -/
  | gapExpiry (n : NestId)
  /-- RESTORE_SETTLE_EXPIRY (R89). -/
  | restoreSettleExpiry (n : NestId)
  /-- END_REPLAY_REQUEST (R91). -/
  | endReplayRequest (n : NestId)
  /-- BUS_START (R94). -/
  | busStart (n : NestId)
  /-- URGENT_STOP (R95). -/
  | urgentStop (n : NestId)
  /-- FRAME_LOAD_STOP_REQUEST (R108). -/
  | frameLoadStopRequest (n : NestId) (cause : EndCause)
  /-- CHECK_FRAME_END_REQUEST (R114). -/
  | checkFrameEndRequest (n : NestId)
  /-- SLOT_DUE (R99). -/
  | slotDue (n : NestId) (slot : Fin 16)
  /-- TRANSMISSION_END (R102). -/
  | transmissionEnd (n : NestId) (how : TransmissionEnd)
  /-- RECEPTION_START (R109), with the IL0-IL3 levels of the nest port. -/
  | receptionStart (n : NestId) (il : BitVec 4)
  /-- RECEPTION_END (R109). -/
  | receptionEnd (n : NestId) (how : ReceptionEnd)
  /-- MONITOR_START (R117). -/
  | monitorStart (n : NestId)
  /-- MONITOR_FREEZE (R118). -/
  | monitorFreeze (n : NestId)
  /-- COIL_EVENT (R119). -/
  | coilEvent (n : NestId) (gauge : Fin 4) (pair : CoilPair)
  /-- GAUGE_SETTLE_EXPIRY (R126). -/
  | gaugeSettleExpiry (n : NestId)
  /-- SETTLE_WATCH_END_REQUEST (R127). -/
  | settleWatchEndRequest (n : NestId)
  /-- LAMP_EVENT (R133): a new current of the lamp, in microamperes. -/
  | lampEvent (n : NestId) (lamp : Fin 16) (current : W32)
  /-- STABLE_TIMER_EXPIRY (R134). -/
  | stableTimerExpiry (n : NestId)
  /-- LAMP_WATCH_END_REQUEST (R136). -/
  | lampWatchEndRequest (n : NestId)
  /-- LPC_POWER_DEPARTURE (R136). -/
  | lpcPowerDeparture (n : NestId)
  /-- PULSE_EDGE (R137): the input changes to `high`. -/
  | pulseEdge (n : NestId) (input : Fin 4) (high : Bool)
  /-- CAPTURE_END_REQUEST (R142). -/
  | captureEndRequest (n : NestId)
  /-- CONVERTER_SETTLE_EXPIRY (R149). -/
  | converterSettleExpiry
  /-- SAMPLE (R149): the converter delivers `code`, signed. -/
  | sample (code : W16)
  /-- CONVERTER_WITHDRAWAL (R153). -/
  | converterWithdrawal (n : NestId)
  /-- CONVERTER_END_REQUEST (R154). -/
  | converterEndRequest (n : NestId)
  /-- CONVERTER_POWER_DEPARTURE (R155). -/
  | converterPowerDeparture (n : NestId)
  /-- POLL_DUE (R175). -/
  | pollDue
  /-- BYTE_END (R173): the panel returned `returned` with the byte sent. -/
  | byteEnd (returned : Byte)
  /-- ANSWER_TIMER_EXPIRY (R185). -/
  | answerTimerExpiry
  /-- REPLAY_ENDED_REPORT (R187). -/
  | replayEndedReport (n : NestId)
  /-- REPLAY_CUT_REPORT (R187). -/
  | replayCutReport (n : NestId)
  /-- PROMPT_WITHDRAWAL (R188). -/
  | promptWithdrawal (n : NestId)
  /-- PANEL_STATION_STOP (R189). -/
  | panelStationStop
  deriving DecidableEq, Repr

end Sys2Proof
end

