-- ==== Sys2Proof/Decode.lean ====
section
/-! DEFINITION. Reading a command from a word. The TR8 is a block: no row of spec/opcode_table.json gives its command
any bits ("fields" is empty in every row and no row has a "fixed"), so no word spells a command. -/

namespace Sys2Proof

/-- The command that the `nbits` bits of `w` spell by the table: none, since no row of the table has bits. -/
def decodeTableWord (_nbits _w : Nat) : Option Instr := none

end Sys2Proof
end

