-- ==== Sys2Proof/Config.lean ====
section
/-! DEFINITION. What the TR8's data sheet fixes as numbers, and the free values of the model. -/

namespace Sys2Proof.Config

/-- Ticks of 100 ns in one microsecond of the timebase (00_scope, time). -/
def ticksPerMicrosecond : Nat := 10

/-- Step slots in the pool (R2, Layout word). -/
def slotCount : Nat := 2048

/-- The largest distance from RETIRED to a posted limit (R7, R9). -/
def postWindow : Nat := 2048

/-- A deadline field of 0 means this many milliseconds (R32). -/
def defaultDeadlineMs : Nat := 30000

/-- The motion timer of a timed clamp motion, in milliseconds (section 3.2). -/
def motionMs : Nat := 2000

/-- The discharge timer, in milliseconds (R68). -/
def dischargeMs : Nat := 20

/-- Nests that may be POWERING at once (R62). -/
def powerBudget : Nat := 2

/-- A sender's settle and a replay's restore settle, in microseconds (R81, R89). -/
def senderSettleUs : Nat := 5000

/-- The consecutive nacks that mute a bus (R103). -/
def muteNacks : Nat := 16

/-- The converter's settle at a route point, in microseconds (R148). -/
def converterSettleUs : Nat := 3000

/-- The time from one converter sample to the next, in microseconds (R149). -/
def sampleUs : Nat := 20

/-- The shift time of one panel byte, in microseconds (R173). -/
def byteUs : Nat := 32

/-- The schedule of the panel polls, in microseconds (R175). -/
def pollUs : Nat := 10000

/-- Pulse frequency of one tick per period, in microhertz: 10^7 ticks a second times 10^6 (R158). -/
def tickMicrohertz : Nat := 10000000000000

/-- The longest pulse period, in ticks (R159). -/
def maxPeriod : Nat := 16777216

/-- The shortest pulse period, in ticks (R159). -/
def minPeriod : Nat := 2

/-- The largest lamp current and threshold, in microamperes (R129, R131). -/
def maxMicroamps : Nat := 1000000

/-- FREE VALUE (log entry 4): which of several internal events that wait at once is taken first.
The argument is the number of such choices made so far. The spec lets either come first, so nothing is
known of this function. -/
opaque takenFirst : Nat → Nat

/-- FREE VALUE (log entry 20): the frequency of a capture whose samples have the sum `sum` and the mean 0. By R137 no such
capture arises from the part's inputs, and R141 states no frequency for it. -/
opaque frequencyOfNoTicks (sum samples : Nat) : W32

end Sys2Proof.Config
end

