-- ==== Sys2Proof/Machine/Bits.lean ====
section
/-! DEFINITION. Bit fields of words, and the two roundings of the data sheet (00_scope, rounding). -/

namespace Sys2Proof.Machine

/-- The `len` bits of `w` from bit `lo` up. -/
def field (w : W32) (lo len : Nat) : BitVec len := w.extractLsb' lo len

/-- Bit `i` of `w`. -/
def bitAt (w : W32) (i : Nat) : Bool := w.getLsbD i

/-- `x` placed with its lowest bit at bit `lo` of a word. -/
def place {k : Nat} (x : BitVec k) (lo : Nat) : W32 := x.setWidth 32 <<< lo

/-- A flag at bit `i` of a word. -/
def flag (b : Bool) (i : Nat) : W32 := if b then 1#32 <<< i else 0#32

/-- A natural number as a word. -/
def wordOf (x : Nat) : W32 := BitVec.ofNat 32 x

/-- A quotient rounded to nearest, halves up (00_scope, rounding). -/
def halfUp (n d : Nat) : Nat := (n + d / 2) / d

/-- A signed quotient rounded to nearest, halves away from zero (00_scope, rounding). -/
def halfAway (n : Int) (d : Nat) : Int :=
  if n < 0 then -(halfUp n.natAbs d : Int) else (halfUp n.natAbs d : Int)

/-- `x` replaced by the nearer bound where it lies outside `lo` to `hi`, and whether it did (R31). -/
def clampTo (lo hi x : Nat) : Nat × Bool :=
  if x < lo then (lo, true) else if hi < x then (hi, true) else (x, false)

/-- The distance from sequence `a` to sequence `b` (00_scope, sequence numbers; R190). -/
def seqDistance (a b : W16) : Nat := (b - a).toNat

/-- The whole milliseconds from timestamp `a` to timestamp `b` (R61, R126, R184). -/
def msBetween (a b : W32) : Nat := (b - a).toNat / 1000

/-- A count that stays at its largest value (R39, R120). -/
def bumpSaturating (x : W16) : W16 := if x = 0xFFFF#16 then x else x + 1

/-- The sequence form of a part-owned word: the sequence in bits 15:0, or the absent marker (R3). -/
def seqWord : Option W16 → W32
  | some q => q.setWidth 32
  | none => 0xFFFFFFFF#32

end Sys2Proof.Machine
end

