-- ==== Sys2Proof/Machine/Memory.lean ====
section
/-! DEFINITION. Exchange memory as a list of (address, byte) cells in one canonical form, read and written as
little-endian 32-bit words (00_scope, exchange memory; R1). -/

namespace Sys2Proof.Machine

/-- The cells of exchange memory that do not read as an unlisted byte does. -/
abbrev Memory := List Host.Cell

/-- What a byte that no cell lists reads as. DESIGN CHOICE, unsafe (log entry 6): the spec leaves the content of
exchange memory undefined after a power-on reset (R2). -/
def Memory.unlisted : Byte := 0

/-- The bytes of the exchange memory window (section 1.1). -/
def Memory.size : Nat := 0x40000

/-- The byte at address `a`. -/
def Memory.byte : Memory → Nat → Byte
  | [], _ => Memory.unlisted
  | (b, v) :: m, a => if b = a then v else Memory.byte m a

/-- A cell put before the first cell of a higher address. -/
def Memory.insertCell (c : Host.Cell) : Memory → Memory
  | [] => [c]
  | d :: m => if c.1 < d.1 then c :: d :: m else d :: Memory.insertCell c m

/-- Memory without a cell for address `a`. -/
def Memory.dropCell (a : Nat) : Memory → Memory
  | [] => []
  | d :: m => if d.1 = a then Memory.dropCell a m else d :: Memory.dropCell a m

/-- Memory with the byte `v` at address `a`; the byte an unlisted address reads as leaves no cell. -/
def Memory.setByte (m : Memory) (a : Nat) (v : Byte) : Memory :=
  if v = Memory.unlisted then Memory.dropCell a m else Memory.insertCell (a, v) (Memory.dropCell a m)

/-- The canonical form: addresses strictly rising and inside the window, no cell that reads as an unlisted byte. -/
def Memory.wf : Memory → Bool
  | [] => true
  | c :: m => decide (c.1 < Memory.size) && decide (c.2 ≠ Memory.unlisted) &&
      m.all (fun d => decide (c.1 < d.1)) && Memory.wf m

/-- The word with index `i`: the byte at the lowest address is its lowest byte. -/
def Memory.word (m : Memory) (i : Nat) : W32 :=
  m.byte (4 * i + 3) ++ m.byte (4 * i + 2) ++ m.byte (4 * i + 1) ++ m.byte (4 * i)

/-- Memory with byte `k` of word `i` set to byte `k` of `v`. -/
def Memory.setWordByte (m : Memory) (i k : Nat) (v : W32) : Memory :=
  m.setByte (4 * i + k) (v.extractLsb' (8 * k) 8)

/-- Memory with the whole word `i` set to `v`. -/
def Memory.setWord (m : Memory) (i : Nat) (v : W32) : Memory :=
  (((m.setWordByte i 0 v).setWordByte i 1 v).setWordByte i 2 v).setWordByte i 3 v

/-- A host write: byte `k` of word `i` is written where bit `k` of `bytes` is 1 (R1). -/
def Memory.hostWrite (m : Memory) (i : Nat) (bytes : BitVec 4) (v : W32) : Memory :=
  let put (k : Nat) (m : Memory) : Memory := if bytes.getLsbD k then m.setWordByte i k v else m
  put 3 (put 2 (put 1 (put 0 m)))

/-- Memory with every word whose index `p` names set to 0. -/
def Memory.clearWords (m : Memory) (p : Nat → Bool) : Memory := m.filter fun c => !p (c.1 / 4)

end Sys2Proof.Machine
end

