-- ==== Sys2Proof/Machine/Layout.lean ====
section
/-! DEFINITION. Where each word of chapter 1's layouts lies, as a word index (byte offset divided by 4). -/

namespace Sys2Proof.Machine

/-- Directory words (section 1.2). -/
def layoutAt : Nat := 0
def stationAt : Nat := 1
def faultReleaseAt : Nat := 2
def ffStateAt : Nat := 4
def ffStepAt : Nat := 5
def ffTimeAt : Nat := 6

/-- Word `k` of the block of nest `n` (0x00100 + n × 0x100). -/
def nestAt (n : NestId) (k : Nat) : Nat := 0x40 + n.val * 0x40 + k

/-- Word `k` of step slot `s` (0x01000 + s × 64). -/
def slotAt (s k : Nat) : Nat := 0x400 + s * 16 + k

/-- Word `k` of gauge characteristic table `t` (0x21000 + t × 0x100). -/
def tableAt (t k : Nat) : Nat := 0x8400 + t * 0x40 + k

/-- Word `k` of frame slot `f` of nest `n` (0x23000 + n × 0x200 + f × 0x20). -/
def frameAt (n : NestId) (f : Fin 16) (k : Nat) : Nat := 0x8C00 + n.val * 0x80 + f.val * 8 + k

/-- Word `k` of the capture slot of filter `f` of nest `n` (0x24000 + n × 0x100 + f × 0x20). -/
def captureAt (n : NestId) (f : Fin 8) (k : Nat) : Nat := 0x9000 + n.val * 0x40 + f.val * 8 + k

/-- Lamp threshold entry `i` (0x24800 + 4 × i). -/
def thresholdAt (i : Nat) : Nat := 0x9200 + i

/-- Supply criteria entry `i` (0x24840 + 4 × i). -/
def criteriaAt (i : Nat) : Nat := 0x9210 + i

/-- Word `k` of the route scaling entry of route point `r` (0x24880 + r × 8). -/
def scalingAt (r k : Nat) : Nat := 0x9220 + r * 2 + k

/-- The address of byte `k` of prompt text `i` (0x25000 + i × 64). -/
def textByteAt (i k : Nat) : Nat := 0x25000 + i * 64 + k

/-- The word the XPT watches (section 1.3). -/
def watchedIndex : Watched → Nat
  | .post n => nestAt n 1
  | .abort n => nestAt n 2
  | .faultRelease => faultReleaseAt

/-- The watched word with index `i`, if there is one (section 1.3). -/
def watchedAt (i : Nat) : Option Watched :=
  if i = faultReleaseAt then some .faultRelease
  else if h : 0x40 ≤ i ∧ i < 0x240 then
    let n : NestId := ⟨(i - 0x40) / 0x40, by omega⟩
    if (i - 0x40) % 0x40 = 1 then some (.post n)
    else if (i - 0x40) % 0x40 = 2 then some (.abort n) else none
  else none

/-- The part-owned words that a reset writes (R2): the directory's, the nest blocks' from RETIRED on, the status
words of the frame slots and the part words of the capture slots. The step pool is not among them. -/
def isResetWord (i : Nat) : Bool :=
  i = layoutAt || i = stationAt || i = ffStateAt || i = ffStepAt || i = ffTimeAt ||
  (decide (0x40 ≤ i) && decide (i < 0x240) && decide (4 ≤ i % 0x40) && decide (i % 0x40 < 0x10)) ||
  (decide (0x8C00 ≤ i) && decide (i < 0x9000) && decide (6 ≤ i % 8)) ||
  (decide (0x9000 ≤ i) && decide (i < 0x9200) && decide (2 ≤ i % 8))

end Sys2Proof.Machine
end

