-- ==== Sys2Proof/Machine/State.lean ====
section
/-! DEFINITION. The state of the TR8, as plain data: `Part` holds every piece of state the spec gives the part, block by
block, and `State` adds the queue of waiting commands. Times are microseconds since the last reset, as natural
numbers; a running timer holds the time at which it is due (log entry 5). -/

namespace Sys2Proof.Machine

/-! ### Exchange port -/

/-- The nest fault kinds (nest block note 2). -/
inductive FaultKind where
  | none | chainBroken | supplyTrip | lidOpened | clampTimeout | busMute | stationStop | abortRequest
  deriving DecidableEq, Repr

/-- A VALID first-fault record (R23): the source nest, or 8 for the station. -/
structure FirstFault where
  source : Fin 9
  kind : FaultKind
  sequence : Option W16
  time : W32
  deriving DecidableEq, Repr

/-! ### Nest sequencer -/

/-- Sequencer states (section 2.1). -/
inductive SeqState where
  | stopped | waiting | running | held | faulted
  deriving DecidableEq, Repr

/-- Hold reasons (R27). -/
inductive HoldReason where
  | none | converter | power | panel | fixture
  deriving DecidableEq, Repr

/-- Unit states (R37). -/
inductive UnitState where
  | none | opened | pass | fail | error | aborted
  deriving DecidableEq, Repr

/-- The unit record of a nest (section 2.6). -/
structure UnitRecord where
  tag : W32
  state : UnitState
  pass : W16
  fail : W16
  error : W16
  skip : W16
  firstFail : Option W16
  openedAt : W32
  closedAt : W32
  deriving DecidableEq, Repr

/-- The step in execution: its slot, the snapshot of its sixteen words and its accepted timestamp (R12). -/
structure Step where
  slot : W16
  words : Bank 16 W32
  accepted : W32
  deriving DecidableEq, Repr

/-- A nest sequencer's context (R25). `report` holds the result words that the step's owner keeps once it has stopped
or completed the step's operation, until the step retires (R45). `unhanded` is the model's own: the step in execution
belongs to the fixture or the panel controller and has not been handed over, because station STOP was latched at its
acceptance (R72, R189; log entry 19). -/
structure Nsq where
  state : SeqState
  retired : Option W16
  limit : Option W16
  position : Option W16
  step : Option Step
  deadline : Option Nat
  waitTimer : Option Nat
  hold : HoldReason
  skipping : Bool
  unit : UnitRecord
  fault : FaultKind
  faultSeq : Option W16
  report : Option Results
  unhanded : Bool
  deriving DecidableEq, Repr

/-! ### Fixture controller -/

/-- Fixture states (section 3.1). -/
inductive FixtureState where
  | opened | clamping | clamped | contactOk | powering | powered | discharging | unclamping
  deriving DecidableEq, Repr

/-- What the clamp drive does (section 3.1); after a reset it holds where it stands (R73). -/
inductive Drive where
  | holdingOpen | closing | holdingClosed | opening | holdingStill
  deriving DecidableEq, Repr

/-- What the FXC keeps of a POWER_ON in execution for its results (R61): the two clamp marks, and the milliseconds
from its acceptance to its switch closing or its withdrawal, once one of them has come. -/
structure PowerOnRecord where
  windowClamped : Bool
  fuseClamped : Bool
  heldMs : Option Nat
  deriving DecidableEq, Repr

/-- The FXC's part for one nest. -/
structure Fixture where
  state : FixtureState
  drive : Drive
  clampClosed : Bool
  clampOpen : Bool
  lidClosed : Bool
  contacts : BitVec 16
  supplyAbove : Bool
  fuseTripped : Bool
  switchClosed : Bool
  comparator : Option W32
  fuseLimit : W16
  tripArmed : Bool
  motionTimer : Option Nat
  inrushTimer : Option Nat
  dischargeTimer : Option Nat
  heldStep : Bool
  powerOn : Option PowerOnRecord
  deriving DecidableEq, Repr

/-- Station states (R71). -/
inductive Station where
  | run | stopped
  deriving DecidableEq, Repr

/-- An entry of the power queue (R62). -/
structure PowerEntry where
  nest : NestId
  sequence : W16
  windowMs : Nat
  criteria : BitVec 8
  fuseLimit : W16
  accepted : W32
  deriving DecidableEq, Repr

/-! ### Stimulus unit -/

/-- Pulse channel modes (R75). -/
inductive PulseMode where
  | off | continuous | narrow | count
  deriving DecidableEq, Repr

/-- The setting of a pulse channel (section 4.1). -/
structure PulseSetting where
  mode : PulseMode
  activeLow : Bool
  target : W16
  gain : BitVec 24
  period : Nat
  width : Nat
  count : Nat
  deriving DecidableEq, Repr

/-- The wire period of a pulse channel: what is in force on the output, the tick at which it began, and whether it is
past its active phase (section 4.1). The tick within it is the distance from `start` to the present tick. -/
structure Wire where
  mode : PulseMode
  activeLow : Bool
  period : Nat
  active : Nat
  start : Nat
  inactive : Bool
  deriving DecidableEq, Repr

/-- A burst record (R79), with the P and the E word computed at acceptance. -/
structure Burst where
  sequence : W16
  emitted : Nat
  left : Nat
  periodWord : W32
  effectWord : W32
  deriving DecidableEq, Repr

/-- A pulse channel. `e` is the effective input that R92 answers; `settingE` is the setting's, which a replay
restores. -/
structure Channel where
  setting : PulseSetting
  settingE : W16
  e : W16
  restHigh : Bool
  wire : Option Wire
  pending : Option PulseSetting
  burst : Option Burst
  deriving DecidableEq, Repr

/-- A running settle timer of a sender: when it is due, and result word w11 of its SET_SENDER (R81). -/
structure SenderSettle where
  due : Nat
  w11 : W32
  deriving DecidableEq, Repr

/-- A sender emulator: its code setting, and its effective input, the code that stands at the nest port. -/
structure Sender where
  code : W16
  e : W16
  settle : Option SenderSettle
  deriving DecidableEq, Repr

/-- The state of a discrete line (section 4.4). -/
inductive Line where
  | released | low | high
  deriving DecidableEq, Repr

/-- The replay of a nest (section 4.6): in GAP or in RESTORE, with its mask and when its timer is due. -/
inductive Replay where
  | none
  | gap (mask : BitVec 6) (due : Nat)
  | restore (mask : BitVec 6) (due : Nat)
  deriving DecidableEq, Repr

/-- The STU's part for one nest. -/
structure Stimulus where
  channels : Bank 4 Channel
  senders : Bank 2 Sender
  lines : Bank 8 Line
  replay : Replay
  deriving DecidableEq, Repr

/-! ### Bus controllers -/

/-- The bit rates of a bus controller (section 5.1). -/
inductive BitRate where
  | kbit125 | kbit250 | kbit500 | kbit1000
  deriving DecidableEq, Repr

/-- Frame slot states (section 5.1). -/
inductive SlotState where
  | stopped | running | muted
  deriving DecidableEq, Repr

/-- The latched definition of a frame slot (R96). -/
structure FrameDef where
  extended : Bool
  ident : BitVec 29
  length : Fin 9
  periodMs : Nat
  phaseMs : Nat
  deriving DecidableEq, Repr

/-- A frame slot (section 5.1). -/
structure FrameSlot where
  state : SlotState
  frameDef : Option FrameDef
  payload : BitVec 64
  preload : Bool
  due : Option Nat
  pendingDue : Option Nat
  stagedPayload : Option (BitVec 64)
  stagedLines : Option (Byte × Byte)
  sent : W16
  nack : W16
  deriving DecidableEq, Repr

/-- A transmission in progress: its slot, the due time its pending transmission carried, whether a FRAME_RUN has
stopped the slot since (R97, R102), and the frame on the wire. -/
structure Transmission where
  slot : Fin 16
  due : Nat
  stopped : Bool
  frame : Frame
  deriving DecidableEq, Repr

/-- The latched definition of an ARMED receive filter (R111). -/
structure FilterDef where
  extended : Bool
  ident : BitVec 29
  mask : BitVec 29
  deriving DecidableEq, Repr

/-- The capture record of a receive filter (section 5.1). -/
structure Capture where
  payload : BitVec 64
  length : Fin 9
  arrival : W32
  count : W32
  ident : BitVec 29
  extended : Bool
  il : BitVec 4
  fresh : Bool
  overrun : Bool
  deriving DecidableEq, Repr

/-- A receive filter: DISARMED (none) or ARMED, and its capture record. -/
structure Filter where
  armed : Option FilterDef
  record : Capture
  deriving DecidableEq, Repr

/-- A FRAME_LOAD with WAIT that waits for its slot's transmission start, with its w11 (R107). -/
structure LoadWait where
  slot : Fin 16
  w11 : W32
  deriving DecidableEq, Repr

/-- A running CHECK_FRAME (R112, R113). -/
structure CheckFrame where
  filter : Fin 8
  mask : BitVec 64
  expected : BitVec 64
  examined : W16
  unequal : W16
  last : Option Capture
  deriving DecidableEq, Repr

/-- Bus controller n. -/
structure Bus where
  on : Bool
  rate : Option BitRate
  mute : Bool
  nacks : Nat
  tx : Option Transmission
  rx : Option (BitVec 4)
  slots : Bank 16 FrameSlot
  filters : Bank 8 Filter
  loadWait : Option LoadWait
  check : Option CheckFrame
  deriving DecidableEq, Repr

/-! ### Gauge monitors -/

/-- A gauge monitor (section 6.1). -/
structure Gauge where
  image : CoilPair
  phase : Option (Fin 8)
  position : W16
  sat : Bool
  skips : W16
  ambiguous : W16
  lastChange : W32
  deriving DecidableEq, Repr

/-- The table mark of an expected position (R164). -/
inductive TableMark where
  | none | below | above
  deriving DecidableEq, Repr

/-- A point of a characteristic table (section 9.3). -/
structure TablePoint where
  x : Nat
  y : Int
  deriving DecidableEq, Repr

/-- The check record of a CHECK_GAUGE (section 9.4), with the points read for it (R163) and its settle watch (R124). -/
structure GaugeCheck where
  gauge : Fin 4
  source : Fin 6
  points : List TablePoint
  e : W16
  mark : TableMark
  expected : W16
  tolerance : Nat
  windowMs : Nat
  windowClamped : Bool
  accepted : W32
  due : Nat
  lastStep : Option W32
  deriving DecidableEq, Repr

/-- The GMN's part for one nest. -/
structure Gauges where
  running : Bool
  gauges : Bank 4 Gauge
  check : Option GaugeCheck
  deriving DecidableEq, Repr

/-! ### Lamps and pulse capture -/

/-- A lamp watch (section 7.1): MATCHING or MISMATCHED. -/
structure LampWatch where
  matching : Bool
  threshold : Nat
  mask : W16
  expected : W16
  windowMs : Nat
  windowClamped : Bool
  stableTimer : Option Nat
  pattern : W16
  deriving DecidableEq, Repr

/-- A capture out of IDLE (section 7.3): ARMED, or SAMPLING where `sampling` holds, with what its CHECK_FREQ latched. -/
structure PulseCapture where
  sampling : Bool
  width : Bool
  falling : Bool
  target : Nat
  targetClamped : Bool
  windowLow : W32
  windowHigh : W32
  deriving DecidableEq, Repr

/-- A pulse input (section 7.3): its level image, its capture (none in IDLE), the tick from which its interval counter
counts (none while the counter stands at 0), the samples collected and their sum S. -/
structure PulseInput where
  level : Bool
  capture : Option PulseCapture
  start : Option Nat
  collected : Nat
  sum : BitVec 64
  deriving DecidableEq, Repr

/-- The LPC's part for one nest. -/
structure Watcher where
  currents : Bank 16 Nat
  watch : Option LampWatch
  inputs : Bank 4 PulseInput
  deriving DecidableEq, Repr

/-! ### Precision converter and routing matrix -/

/-- A point of a sweep, with the scaling latched for it (R146). -/
structure SweepPoint where
  point : Fin 8
  offset : W16
  gain : W32
  deriving DecidableEq, Repr

/-- A completed point (R150). -/
structure PointValue where
  value : W32
  passed : Bool
  overrange : Bool
  deriving DecidableEq, Repr

/-- A measurement record (R146). -/
structure Measurement where
  sweep : List SweepPoint
  samples : Nat
  samplesClamped : Bool
  windowLow : W32
  windowHigh : W32
  done : List PointValue
  deriving DecidableEq, Repr

/-- The grant of the converter (section 8.1): phase SETTLING, or SAMPLING where `sampling` holds. -/
structure Grant where
  nest : NestId
  sequence : W16
  position : Nat
  sampling : Bool
  settleTimer : Option Nat
  sampleTimer : Option Nat
  taken : Nat
  sum : Int
  overrange : Bool
  deriving DecidableEq, Repr

/-- The PCV and the RMX. Bit r of `relays` is 1 while route point r is CLOSED. -/
structure Converter where
  relays : BitVec 64
  grant : Option Grant
  queue : List (NestId × W16)
  records : Bank 8 (Option Measurement)
  deriving DecidableEq, Repr

/-! ### Operator panel controller -/

/-- The transfer in progress on the panel link (section 10.1). -/
inductive Link where
  | idle | poll | text | clear
  deriving DecidableEq, Repr

/-- The text cursor of a TEXT transfer (section 10.1). -/
structure TextCursor where
  nest : NestId
  text : Byte
  loaded : Nat
  deriving DecidableEq, Repr

/-- Button acceptance states (R176). -/
inductive Button where
  | idle | pending | latched
  deriving DecidableEq, Repr

/-- Lamp states (R178). -/
inductive Lamp where
  | off | amber | green | red
  deriving DecidableEq, Repr

/-- Prompt entry states (section 10.4). -/
inductive PromptState where
  | queued | sending | shown | replaying
  deriving DecidableEq, Repr

/-- An entry of the prompt queue (section 10.4). -/
structure PromptEntry where
  nest : NestId
  sequence : W16
  state : PromptState
  text : Byte
  timeoutS : Nat
  repeatLimit : Nat
  replayMask : BitVec 6
  gapMs : Nat
  code : W16
  repeats : Nat
  firstShown : Option W32
  answerTimer : Option Nat
  marks : W32
  deriving DecidableEq, Repr

/-- The OPC. `rest` holds the bytes of a poll or a clear not yet loaded; `index` is the number of the byte in shift. -/
structure Panel where
  link : Link
  shift : Option Byte
  buffered : Option Byte
  rest : List Byte
  cursor : Option TextCursor
  index : Nat
  cut : Bool
  byteTimer : Option Nat
  pollTimer : Nat
  pollPending : Bool
  clearPending : Bool
  buttonPass : Button
  buttonFail : Button
  buttonRepeat : Button
  lamps : Bank 8 Lamp
  prompts : List PromptEntry
  deriving DecidableEq, Repr

/-! ### Messages between blocks -/

/-- A message that one block has sent and the other has not yet taken (00_scope, paths through the part; R54; log entry
12). A `late` one tells of work that has ended since it was sent: a step that has retired, a prompt entry that has been
withdrawn, or work begun before a device reset. It is discarded when it arrives (R25, R28, R179, R187). -/
inductive Notice where
  | watchRequest (word : Watched)
  | ownerOutcome (outcome : OwnerOutcome)
  | lidAbort (n : NestId)
  | supplyTrip (n : NestId)
  | stationStop (n : NestId)
  | replayEnded (n : NestId)
  | replayCut (n : NestId)
  | panelStop
  | late (notice : Notice)
  deriving DecidableEq, Repr

/-! ### The whole part -/

/-- The TR8. -/
structure Part where
  ticks : Nat
  mem : Memory
  watchQueue : List Watched
  factor : BitVec 19
  mask : BitVec 19
  firstFault : Option FirstFault
  station : Station
  stopPressed : Bool
  nsq : Bank 8 Nsq
  fxc : Bank 8 Fixture
  powerQueue : List PowerEntry
  stu : Bank 8 Stimulus
  buc : Bank 8 Bus
  gmn : Bank 8 Gauges
  lpc : Bank 8 Watcher
  pcv : Converter
  opc : Panel
  sent : List Notice
  choices : Nat
  deriving DecidableEq, Repr

/-- The machine: the part, and the commands that wait, first in, first out. -/
structure State where
  part : Part
  pending : List Instr
  deriving DecidableEq, Repr

/-- Why the machine stops with a fault: never. No rule of the spec stops the part, so there is no constructor. -/
inductive Fault where
  deriving DecidableEq, Repr

/-- Why a command has no meaning. -/
inductive Refusal where
  /-- Raised by an arm of `exec` whose command has no meaning yet. Safe: nothing follows from a refused command. -/
  | notModelled (mnemonic : String)
  deriving DecidableEq, Repr

/-! ### Reset values -/

namespace Reset

/-- An unopened unit record (R2, R25). -/
def unit : UnitRecord := ⟨0, .none, 0, 0, 0, 0, none, 0, 0⟩

/-- A nest sequencer after either reset (R25). -/
def nsq : Nsq :=
  { state := .stopped, retired := none, limit := none, position := none, step := none, deadline := none,
    waitTimer := none, hold := .none, skipping := false, unit := unit, fault := .none, faultSeq := none,
    report := none, unhanded := false }

/-- A fixture whose sensors all read inactive (R73; log entries 7 and 8). -/
def fixture : Fixture :=
  { state := .opened, drive := .holdingStill, clampClosed := false, clampOpen := false, lidClosed := false,
    contacts := 0, supplyAbove := false, fuseTripped := false, switchClosed := false, comparator := none,
    fuseLimit := 0, tripArmed := false, motionTimer := none, inrushTimer := none, dischargeTimer := none,
    heldStep := false, powerOn := none }

/-- A pulse setting of mode OFF with everything else 0 (section 4.1). -/
def setting : PulseSetting := ⟨.off, false, 0, 0, 0, 0, 0⟩

/-- A pulse channel after either reset (section 4.1). -/
def channel : Channel := ⟨setting, 0, 0, false, none, none, none⟩

/-- An open sender (section 4.1). -/
def sender : Sender := ⟨0, 0, none⟩

/-- The stimulus of a nest after either reset (R74). -/
def stimulus : Stimulus := ⟨.fill channel, .fill sender, .fill .released, .none⟩

/-- A frame slot after either reset (section 5.1). -/
def frameSlot : FrameSlot :=
  { state := .stopped, frameDef := none, payload := 0, preload := false, due := none, pendingDue := none,
    stagedPayload := none, stagedLines := none, sent := 0, nack := 0 }

/-- An empty capture record (section 5.1). -/
def capture : Capture := ⟨0, 0, 0, 0, 0, false, 0, false, false⟩

/-- A bus controller after either reset (R93). -/
def bus : Bus :=
  { on := false, rate := none, mute := false, nacks := 0, tx := none, rx := none, slots := .fill frameSlot,
    filters := .fill ⟨none, capture⟩, loadWait := none, check := none }

/-- A gauge after either reset, with its coil-pair image (R116). -/
def gauge (image : CoilPair) : Gauge := ⟨image, none, 0, false, 0, 0, 0⟩

/-- The gauges of a nest with no coil driven (R116; log entry 7). -/
def gauges : Gauges := ⟨false, .fill (gauge ⟨.zero, .zero⟩), none⟩

/-- A pulse input after either reset, with its level image (section 7.3, R130). -/
def pulseInput (level : Bool) : PulseInput := ⟨level, none, none, 0, 0⟩

/-- The LPC of a nest with every image at 0 (R130; log entry 7). -/
def watcher : Watcher := ⟨.fill 0, none, .fill (pulseInput false)⟩

/-- The converter after either reset (R144). -/
def converter : Converter := ⟨0, none, [], .fill none⟩

/-- The panel controller after either reset (R179): IDLE, with a CLEAR pending and the first poll due after 10 ms. -/
def panel : Panel :=
  { link := .idle, shift := none, buffered := none, rest := [], cursor := none, index := 0, cut := false,
    byteTimer := none, pollTimer := Config.pollUs, pollPending := false, clearPending := true,
    buttonPass := .latched, buttonFail := .latched, buttonRepeat := .latched, lamps := .fill .off, prompts := [] }

/-- The nest block words that are not 0 after a reset, for a nest in fixture state code `fixtureCode` (R2). -/
def nestWords (m : Memory) (n : NestId) (fixtureCode : W32) : Memory :=
  let absent := seqWord none
  ((((m.setWord (nestAt n 4) absent).setWord (nestAt n 5) absent).setWord (nestAt n 6) absent).setWord (nestAt n 7)
    (fixtureCode <<< 4)).setWord (nestAt n 13) absent

/-- Exchange memory after a reset (R2): every part-owned word at its value, the Layout word last. `fixtureCode`
gives the fixture state of each nest, and `level` the sampled level of the STOP input. -/
def memory (m : Memory) (fixtureCode : NestId → W32) (level : Bool) : Memory :=
  let m := m.clearWords isResetWord
  let m := m.setWord stationAt (flag level 1)
  let m := m.setWord ffStepAt (seqWord none)
  let m := (List.finRange 8).foldl (fun m n => nestWords m n (fixtureCode n)) m
  m.setWord layoutAt 0x08000801#32

/-- The part right after a power-on reset with every input at rest (log entry 7). -/
def part : Part :=
  { ticks := 0, mem := memory [] (fun _ => 0) false, watchQueue := [], factor := 0, mask := 0, firstFault := none,
    station := .run, stopPressed := false, nsq := .fill nsq, fxc := .fill fixture, powerQueue := [],
    stu := .fill stimulus, buc := .fill bus, gmn := .fill gauges, lpc := .fill watcher, pcv := converter,
    opc := panel, sent := [], choices := 0 }

end Reset

/-- The machine right after reset: every field at the value the spec states for reset, or at the value a log entry
names (entries 6, 7 and 8); no command waits. -/
def State.reset : State := ⟨Reset.part, []⟩

end Sys2Proof.Machine
end

