-- ==== Sys2Proof/Machine/Flags.lean ====
section
/-! DEFINITION. The codes and the status words of chapter 1's layouts, the factor flags and INTREQ. -/

namespace Sys2Proof.Machine

/-! ### Codes -/

/-- Verdict codes (step record table). -/
def verdictCode : Verdict → W32
  | .pass => 1 | .fail => 2 | .timeout => 3 | .refused => 4 | .skipped => 5 | .aborted => 6

/-- Detail codes (step record table). -/
def detailCode : Detail → W32
  | .none => 0 | .badKind => 1 | .badOperand => 2 | .badState => 3 | .badTable => 4 | .noUnit => 5 | .deviation => 6
  | .saturated => 7 | .notSettled => 8 | .mismatch => 9 | .outOfWindow => 10 | .overrange => 11 | .noEdges => 12
  | .noMatch => 13 | .operator => 14 | .noAnswer => 15 | .supplyLow => 16 | .supplyTrip => 17 | .contactOpen => 18
  | .clampTimeout => 19 | .lidOpened => 20 | .abortRequest => 21 | .stationStop => 22 | .busMute => 23
  | .deadline => 24

/-- Fault kind codes (nest block note 2). -/
def faultCode : FaultKind → W32
  | .none => 0 | .chainBroken => 1 | .supplyTrip => 2 | .lidOpened => 3 | .clampTimeout => 4 | .busMute => 5
  | .stationStop => 6 | .abortRequest => 7

/-- Sequencer state codes (NEST_STATE table). -/
def seqStateCode : SeqState → W32
  | .stopped => 0 | .waiting => 1 | .running => 2 | .held => 3 | .faulted => 4

/-- Fixture state codes (NEST_STATE table). -/
def fixtureCode : FixtureState → W32
  | .opened => 0 | .clamping => 1 | .clamped => 2 | .contactOk => 3 | .powering => 4 | .powered => 5
  | .discharging => 6 | .unclamping => 7

/-- Hold reason codes (NEST_STATE table). -/
def holdCode : HoldReason → W32
  | .none => 0 | .converter => 1 | .power => 2 | .panel => 3 | .fixture => 4

/-- Unit state codes (UNIT_STATE). -/
def unitCode : UnitState → W32
  | .none => 0 | .opened => 1 | .pass => 2 | .fail => 3 | .error => 4 | .aborted => 5

/-- Frame slot state codes (frame slot table). -/
def slotStateCode : SlotState → W32
  | .stopped => 0 | .running => 1 | .muted => 2

/-- Lamp codes (panel link bytes, note; R178). -/
def lampCode : Lamp → Byte
  | .off => 0 | .amber => 1 | .green => 2 | .red => 3

/-- The lamp that a unit state shows (R178). -/
def lampOf : UnitState → Lamp
  | .none => .off | .opened => .amber | .pass => .green | .fail => .red | .error => .red | .aborted => .red

/-! ### Status words -/

/-- NEST_STATE of nest `n` (nest block table). -/
def Part.nestStateWord (s : Part) (n : NestId) : W32 :=
  let q := s.nsq.get n
  seqStateCode q.state ||| fixtureCode (s.fxc.get n).state <<< 4 ||| holdCode q.hold <<< 8 |||
    flag q.skipping 12 ||| flag (s.buc.get n).mute 13

/-- STATION (directory table). -/
def Part.stationWord (s : Part) : W32 := flag (s.station = .stopped) 0 ||| flag s.stopPressed 1

/-- NEST_FAULT: the kind, and the sequence with its presence bit (nest block table). -/
def nestFaultWord (kind : FaultKind) : Option W16 → W32
  | some q => faultCode kind ||| flag true 8 ||| place q 16
  | none => faultCode kind

/-- FF_STATE of a VALID record (directory table). -/
def ffStateWord (f : FirstFault) : W32 := 1#32 ||| wordOf f.source.val <<< 8 ||| faultCode f.kind <<< 16

/-- w8 of an ACCEPTED step: verdict 0 and detail NONE (R12). -/
def acceptedWord : W32 := 1

/-- w8 of a FINAL step (R14). -/
def finalWord (v : Verdict) (d : Detail) : W32 := 2#32 ||| verdictCode v <<< 8 ||| detailCode d <<< 16

/-- UNIT_COUNTS_A and w12 of UNIT_END: pass and fail counts. -/
def UnitRecord.countsA (u : UnitRecord) : W32 := place u.pass 0 ||| place u.fail 16

/-- UNIT_COUNTS_B and w13 of UNIT_END: error and skip counts. -/
def UnitRecord.countsB (u : UnitRecord) : W32 := place u.error 0 ||| place u.skip 16

/-- w6 of a frame slot (R104). -/
def FrameSlot.statusWord (f : FrameSlot) : W32 :=
  slotStateCode f.state ||| flag (f.stagedPayload.isSome || f.stagedLines.isSome) 8 ||| place f.sent 16

/-- w4 of a capture slot (frame and capture slot table). -/
def Capture.flagsWord (c : Capture) : W32 :=
  wordOf c.length.val ||| flag c.fresh 8 ||| flag c.overrun 9 ||| place c.il 16

/-- w7 of a capture slot (frame and capture slot table). -/
def Capture.identWord (c : Capture) : W32 := place c.ident 0 ||| flag c.extended 31

/-! ### Factor flags -/

/-- The bits of FACTOR (register block table; R20). -/
def factorNotify (n : NestId) : Nat := n.val
def factorFault (n : NestId) : Nat := 8 + n.val
def factorStop : Nat := 16
def factorPostRange : Nat := 17
def factorFirstFault : Nat := 18

/-- INTREQ, a level: some factor flag is set whose MASK bit is 1 (R21). -/
def Part.intreq (s : Part) : Bool := s.factor &&& s.mask ≠ 0

/-- IDENT (R17). -/
def identWord : W32 := 0x81283B5A

/-- What a host read of a register returns (R17, R20, R21). -/
def Part.readRegister (s : Part) : Register → W32
  | .ident => identWord
  | .control => 0
  | .factor => place s.factor 0
  | .mask => place s.mask 0

/-! ### What the front-end boards and the panel see -/

/-- The level of a pulse output: the active level during the active phase, the other one during the inactive phase,
the rest level without a period (R75). -/
def Channel.level (c : Channel) : Bool :=
  match c.wire with
  | none => c.restHigh
  | some w => xor w.activeLow (!w.inactive)

/-- The panel select line is active while a transfer runs (R173). -/
def Panel.select (p : Panel) : Bool := p.link ≠ .idle

end Sys2Proof.Machine
end

