-- ==== Sys2Proof/Machine/Operands.lean ====
section
/-! DEFINITION. The step kinds, and the operands of each kind as its snapshot holds them, with the clamps of R31. -/

namespace Sys2Proof.Machine

/-- The 21 step kinds (section 2.2). -/
inductive Kind where
  | unitBegin | unitEnd | wait | clamp | contact | powerOn | powerOff | unclamp | setPulse | setSender | setLines
  | frameRun | frameLoad | captureArm | checkFrame | gaugeZero | checkGauge | checkLamps | checkFreq | measure
  | prompt
  deriving DecidableEq, Repr

/-- The kinds that are not handed over while station STOP is latched: the fixture steps and PROMPT (R72, R189). -/
def Kind.barredByStop : Kind → Bool
  | .clamp | .contact | .powerOn | .powerOff | .unclamp | .prompt => true
  | .unitBegin | .unitEnd | .wait | .setPulse | .setSender | .setLines | .frameRun | .frameLoad | .captureArm
  | .checkFrame | .gaugeZero | .checkGauge | .checkLamps | .checkFreq | .measure => false

/-- The kind with a code, if there is one (section 2.2). -/
def kindOf (code : BitVec 8) : Option Kind :=
  match code.toNat with
  | 0x01 => some .unitBegin
  | 0x02 => some .unitEnd
  | 0x03 => some .wait
  | 0x10 => some .clamp
  | 0x11 => some .contact
  | 0x12 => some .powerOn
  | 0x13 => some .powerOff
  | 0x14 => some .unclamp
  | 0x20 => some .setPulse
  | 0x21 => some .setSender
  | 0x22 => some .setLines
  | 0x30 => some .frameRun
  | 0x31 => some .frameLoad
  | 0x32 => some .captureArm
  | 0x33 => some .checkFrame
  | 0x40 => some .gaugeZero
  | 0x41 => some .checkGauge
  | 0x50 => some .checkLamps
  | 0x51 => some .checkFreq
  | 0x60 => some .measure
  | 0x70 => some .prompt
  | _ => none

/-- Word `k` of the snapshot (R12). -/
def Step.w (st : Step) (k : Fin 16) : W32 := st.words.get k

/-- The step's sequence, w0 15:0. -/
def Step.sequence (st : Step) : W16 := field (st.w 0) 0 16

/-- The step's kind, w0 23:16, if its code is known (R26). -/
def Step.kind (st : Step) : Option Kind := kindOf (field (st.w 0) 16 8)

/-- The CRITICAL flag, w0 24. -/
def Step.critical (st : Step) : Bool := bitAt (st.w 0) 24

/-- The ALWAYS flag, w0 25. -/
def Step.always (st : Step) : Bool := bitAt (st.w 0) 25

/-- The NOTIFY flag, w0 26. -/
def Step.notify (st : Step) : Bool := bitAt (st.w 0) 26

/-- The next slot field, w1 15:0. -/
def Step.nextSlot (st : Step) : W16 := field (st.w 1) 0 16

/-- The deadline in milliseconds, w1 31:16; 0 means 30,000 (R32). -/
def Step.deadlineMs (st : Step) : Nat :=
  let d := (field (st.w 1) 16 16).toNat
  if d = 0 then Config.defaultDeadlineMs else d

/-- Whether the step has kind `k`. -/
def Step.isKind (st : Step) (k : Kind) : Bool := st.kind = some k

/-- An index operand below `k`, if it is one (R30, BAD_OPERAND). -/
def indexBelow (k : Nat) {w : Nat} (x : BitVec w) : Option (Fin k) :=
  if h : x.toNat < k then some ⟨x.toNat, h⟩ else none

/-! ### POWER_ON (R61) -/

def Step.criteria (st : Step) : BitVec 8 := field (st.w 2) 16 8
/-- The inrush window, clamped to 10–500 ms. -/
def Step.inrushWindow (st : Step) : Nat × Bool := clampTo 10 500 (field (st.w 2) 0 16).toNat
/-- The fuse limit, clamped to 100–5,000 mA. -/
def Step.fuseLimit (st : Step) : Nat × Bool := clampTo 100 5000 (field (st.w 3) 0 16).toNat

/-! ### SET_PULSE (R77, R158 to R160) -/

/-- The mode with a code, if there is one. -/
def pulseModeOf (code : BitVec 8) : Option PulseMode :=
  match code.toNat with
  | 0 => some .off
  | 1 => some .continuous
  | 2 => some .narrow
  | 3 => some .count
  | _ => none

/-- The period that a target and a gain demand, before its clamp (R158). -/
def formPeriod (target gain : Nat) : Nat := halfUp Config.tickMicrohertz (target * gain)

/-- A clamped period with the marks CLAMPED_LOW and CLAMPED_HIGH (R159). -/
def clampPeriod (p : Nat) : Nat × Bool × Bool :=
  if Config.maxPeriod < p then (Config.maxPeriod, true, false)
  else if p < Config.minPeriod then (Config.minPeriod, false, true) else (p, false, false)

/-- The effective input that a period and a gain represent, at most 65,535 (R160). -/
def effectiveInput (period gain : Nat) : W16 :=
  BitVec.ofNat 16 (min (halfUp Config.tickMicrohertz (period * gain)) 65535)

/-- The width of a NARROW setting, clamped against its period (R78). -/
def clampWidth (period w : Nat) : Nat × Bool := clampTo 1 (period - 1) w

/-- The count of a COUNT setting: 0 means 65,536 (R77). -/
def burstCount (n : W16) : Nat := if n = 0 then 65536 else n.toNat

/-- The active phase of a setting's period (R75). -/
def PulseSetting.active (p : PulseSetting) : Nat :=
  if p.mode = .narrow then p.width else p.period / 2

/-! ### SET_SENDER (R81) and the replay code (R88) -/

/-- An applied code with its clamp mark. -/
def clampCode (code : W16) : W16 × Bool :=
  if code = 0 then (0, false)
  else
    let c := clampTo 200 60000 code.toNat
    (BitVec.ofNat 16 c.1, c.2)

/-! ### PROMPT (R182) -/

def Step.answerTimeout (st : Step) : Nat × Bool := clampTo 1 65 (field (st.w 3) 0 16).toNat
def Step.replayGap (st : Step) : Nat × Bool := clampTo 100 5000 (field (st.w 3) 16 16).toNat
def Step.repeatLimit (st : Step) : Nat × Bool := clampTo 0 3 (field (st.w 2) 8 8).toNat

/-! ### CHECK_GAUGE (R167), CHECK_LAMPS (R132), CHECK_FREQ (R138), MEASURE (R146) -/

def Step.settleWindow (st : Step) : Nat × Bool := clampTo 10 5000 (field (st.w 3) 16 16).toNat
def Step.tolerance (st : Step) : Nat := min (field (st.w 3) 0 16).toNat 32767
def Step.stableWindow (st : Step) : Nat × Bool := clampTo 0 5000 (field (st.w 3) 16 16).toNat
def Step.sampleTarget (st : Step) : Nat × Bool := clampTo 1 64 (field (st.w 2) 16 8).toNat
def Step.sampleCount (st : Step) : Nat × Bool := clampTo 1 256 (field (st.w 2) 16 16).toNat

/-- The points of a MEASURE in sweep order: p, then p xor 1, p xor 2, p xor 3, as many as C says (R146). -/
def sweepOf (p : Fin 8) (c : Nat) : List (Fin 8) :=
  ([0, 1, 2, 3].map fun k => (⟨(p.val ^^^ k) % 8, Nat.mod_lt _ (by decide)⟩ : Fin 8)).take c

/-! ### Characteristic tables (R163 to R165) -/

/-- The points that table `t` of exchange memory holds, one for each of its `m` words (R163). -/
def readTable (mem : Memory) (t : Nat) : List TablePoint :=
  let m := (field (mem.word (tableAt t 0)) 0 8).toNat
  if m ≤ 16 then
    (List.range m).map fun i =>
      let w := mem.word (tableAt t (1 + i))
      ⟨(field w 0 16).toNat, (field w 16 16).toInt⟩
  else []

/-- The x of a table's points are strictly increasing (R163). -/
def increasing : List TablePoint → Bool
  | a :: b :: ps => decide (a.x < b.x) && increasing (b :: ps)
  | _ => true

/-- A table is valid: 2 to 16 points, x strictly increasing (R163). A table that names more than 16 points reads as
no points here. -/
def tableValid (ps : List TablePoint) : Bool := decide (2 ≤ ps.length) && decide (ps.length ≤ 16) && increasing ps

/-- The interpolation term between two points (R165). -/
def interpolate (a b : TablePoint) (e : Nat) : Int :=
  halfAway ((b.y - a.y) * ((e : Int) - (a.x : Int))) (b.x - a.x)

/-- Y on the segment that holds `e`, or at the last point (R164). -/
def segmentY (e : Nat) : List TablePoint → Int
  | a :: b :: ps => if e < b.x then a.y + interpolate a b e else segmentY e (b :: ps)
  | [a] => a.y
  | [] => 0

/-- The expected position and the table mark for an effective input (R164). -/
def expectedPosition (e : Nat) (ps : List TablePoint) : Int × TableMark :=
  match ps.head?, ps.getLast? with
  | some a, some z =>
    if e ≤ a.x then (a.y, .below) else if z.x ≤ e then (z.y, .above) else (segmentY e ps, .none)
  | _, _ => (0, .none)

end Sys2Proof.Machine
end

