-- ==== Sys2Proof/Machine/Ops.lean ====
section
/-! DEFINITION. The operations the blocks share: time, exchange memory words, messages, factor flags, nest faults, the
unit record, outcomes, holds and the publication of a fixture state. -/

namespace Sys2Proof.Machine

/-! ### Changing one block's part -/

def Part.modNsq (n : NestId) (f : Nsq → Nsq) (s : Part) : Part := { s with nsq := s.nsq.modify n f }
def Part.modFxc (n : NestId) (f : Fixture → Fixture) (s : Part) : Part := { s with fxc := s.fxc.modify n f }
def Part.modStu (n : NestId) (f : Stimulus → Stimulus) (s : Part) : Part := { s with stu := s.stu.modify n f }
def Part.modBuc (n : NestId) (f : Bus → Bus) (s : Part) : Part := { s with buc := s.buc.modify n f }
def Part.modGmn (n : NestId) (f : Gauges → Gauges) (s : Part) : Part := { s with gmn := s.gmn.modify n f }
def Part.modLpc (n : NestId) (f : Watcher → Watcher) (s : Part) : Part := { s with lpc := s.lpc.modify n f }
def Part.modPcv (f : Converter → Converter) (s : Part) : Part := { s with pcv := f s.pcv }
def Part.modOpc (f : Panel → Panel) (s : Part) : Part := { s with opc := f s.opc }

/-! ### Time -/

/-- The microseconds since the last reset. -/
def Part.now (s : Part) : Nat := s.ticks / Config.ticksPerMicrosecond

/-- The timebase: a 32-bit microsecond counter (00_scope, time). -/
def Part.timebase (s : Part) : W32 := wordOf s.now

/-- When a timer of `us` microseconds that starts now is due. -/
def Part.dueIn (s : Part) (us : Nat) : Nat := s.now + us

/-- When a timer of `ms` milliseconds that starts now is due. -/
def Part.dueInMs (s : Part) (ms : Nat) : Nat := s.now + 1000 * ms

/-- Whether a due time is reached. -/
def Part.reached (s : Part) (due : Nat) : Bool := decide (due ≤ s.now)

/-- Whether a timer runs and is due, which is when its expiry is taken. Any other expiry is of a timer that has stopped,
or has started again since, and is discarded (R25, R32, R35, R36; log entry 10). -/
def Part.expired (s : Part) (timer : Option Nat) : Bool := timer.any s.reached

/-! ### Exchange memory -/

/-- The word of exchange memory with index `i`. -/
def Part.word (s : Part) (i : Nat) : W32 := s.mem.word i

/-- A part's write of a whole word (R1). -/
def Part.put (i : Nat) (v : W32) (s : Part) : Part := { s with mem := s.mem.setWord i v }

/-- A part's write of word `k` of a nest block. -/
def Part.putNest (n : NestId) (k : Nat) (v : W32) (s : Part) : Part := s.put (nestAt n k) v

/-- A change of a nest's state with NEST_STATE written if any of its fields changed (R4). -/
def Part.track (n : NestId) (f : Part → Part) (s : Part) : Part :=
  let t := f s
  if t.nestStateWord n = s.nestStateWord n then t else t.putNest n 7 (t.nestStateWord n)

/-- NEST_STATE written whatever it showed (R26). -/
def Part.writeNestState (n : NestId) (s : Part) : Part := s.putNest n 7 (s.nestStateWord n)

/-! ### Messages between blocks -/

/-- A message sent behind those not yet taken. -/
def Part.send (m : Notice) (s : Part) : Part := { s with sent := s.sent ++ [m] }

/-- A message taken: the oldest equal one leaves the list, if there is one. -/
def Part.took (m : Notice) (s : Part) : Part := { s with sent := s.sent.erase m }

/-- An outcome from an owner of nest `n`'s step. -/
def Notice.isOutcomeOf (n : NestId) : Notice → Bool
  | .ownerOutcome o => decide (o.nest = n)
  | _ => false

/-- A report of the STU on nest `n`'s replay. -/
def Notice.isReplayReportOf (n : NestId) : Notice → Bool
  | .replayEnded k | .replayCut k => decide (k = n)
  | _ => false

/-- The messages on their way that `ended` names tell of work that has ended: they are late (R25, R28, R179, R187). -/
def Part.markLate (ended : Notice → Bool) (s : Part) : Part :=
  { s with sent := s.sent.map fun m => if ended m then .late m else m }

/-- Whether the message that arrives as `m` is a late one: the oldest on its way is (log entry 12). -/
def Part.arrivesLate (m : Notice) (s : Part) : Bool :=
  decide (s.sent.find? (fun x => decide (x = m) || decide (x = .late m)) = some (.late m))

/-- A message arrives. It leaves the list and is taken by `f`, but a late one is discarded (R25, R28, R179, R187). -/
def Part.receive (m : Notice) (f : Part → Part) (s : Part) : Part :=
  if s.arrivesLate m then s.took (.late m) else f (s.took m)

/-! ### Factor flags, nest faults and the first-fault record -/

/-- A factor flag set (R20). -/
def Part.setFactor (i : Nat) (s : Part) : Part := { s with factor := s.factor ||| 1#19 <<< i }

/-- A fault offered to the first-fault record: captured if the record is invalid (R23). -/
def Part.offerFault (source : Fin 9) (kind : FaultKind) (sequence : Option W16) (s : Part) : Part :=
  match s.firstFault with
  | some _ => s
  | none =>
    let f : FirstFault := ⟨source, kind, sequence, s.timebase⟩
    let s := { s with firstFault := some f }
    let s := (s.put ffStepAt (seqWord sequence)).put ffTimeAt f.time
    (s.put ffStateAt (ffStateWord f)).setFactor factorFirstFault

/-- The sequence of the step in execution, if any. -/
def Nsq.sequence (q : Nsq) : Option W16 := q.step.map Step.sequence

/-- A nest fault recorded (R22): NEST_FAULT with the sequence of the step in execution, FAULT[n], and the offer to the
first-fault record, except for STATION_STOP. -/
def Part.recordFault (n : NestId) (kind : FaultKind) (s : Part) : Part :=
  let seq := (s.nsq.get n).sequence
  let s := s.modNsq n fun q => { q with fault := kind, faultSeq := seq }
  let s := s.putNest n 8 (nestFaultWord kind seq)
  let s := s.setFactor (factorFault n)
  if kind = .stationStop then s else s.offerFault n.castSucc kind seq

/-! ### The unit record and the lamps -/

/-- A write of UNIT_STATE, which sets the nest's lamp state (R37, R178). -/
def Part.writeUnitState (n : NestId) (u : UnitState) (s : Part) : Part :=
  let s := s.modNsq n fun q => { q with unit := { q.unit with state := u } }
  let s := s.putNest n 10 (unitCode u)
  s.modOpc fun o => { o with lamps := o.lamps.put n (lampOf u) }

/-- A unit opened with a tag (R37, R38). -/
def Part.openUnit (n : NestId) (tag : W32) (s : Part) : Part :=
  let at_ := s.timebase
  let s := s.modNsq n fun q => { q with unit := { Reset.unit with tag := tag, openedAt := at_ } }
  let s := ((s.putNest n 11 0).putNest n 12 0).putNest n 13 (seqWord none)
  let s := ((s.putNest n 15 0).putNest n 9 tag).putNest n 14 at_
  s.writeUnitState n .opened

/-- A unit closed with a state (R37). -/
def Part.closeUnit (n : NestId) (u : UnitState) (s : Part) : Part :=
  let at_ := s.timebase
  let s := s.modNsq n fun q => { q with unit := { q.unit with closedAt := at_ } }
  (s.putNest n 15 at_).writeUnitState n u

/-- An OPEN unit closed ABORTED; any other unit is left as it stands (R46, R47, R50). -/
def Part.abortUnit (n : NestId) (s : Part) : Part :=
  if (s.nsq.get n).unit.state = .opened then s.closeUnit n .aborted else s

/-- The unit record with a retired step counted (R39). -/
def UnitRecord.count (u : UnitRecord) (sequence : W16) (v : Verdict) : UnitRecord :=
  match v with
  | .pass => { u with pass := bumpSaturating u.pass }
  | .fail | .timeout =>
    { u with fail := bumpSaturating u.fail, firstFail := if u.firstFail.isNone then some sequence else u.firstFail }
  | .refused | .aborted => { u with error := bumpSaturating u.error }
  | .skipped => { u with skip := bumpSaturating u.skip }

/-- A retired step counted in an OPEN unit, with the count words written, and the first-fail word at the first failure
alone (R39). -/
def Part.countStep (n : NestId) (st : Step) (v : Verdict) (s : Part) : Part :=
  let u := (s.nsq.get n).unit
  if u.state = .opened ∧ st.kind ≠ some .unitBegin ∧ st.kind ≠ some .unitEnd then
    let t := u.count st.sequence v
    let s := s.modNsq n fun q => { q with unit := t }
    let s := (s.putNest n 11 t.countsA).putNest n 12 t.countsB
    if t.firstFail = u.firstFail then s else s.putNest n 13 (seqWord t.firstFail)
  else s

/-! ### Steps, outcomes and holds -/

/-- Whether nest `n` is POWERED, as the FXC publishes it (R54). -/
def Part.powered (s : Part) (n : NestId) : Bool := (s.fxc.get n).state = .powered

/-- Whether the step in execution on nest `n` has kind `k`. -/
def Part.executing (s : Part) (n : NestId) (k : Kind) : Bool :=
  match (s.nsq.get n).step with
  | some st => st.isKind k
  | none => false

/-- The result words that the step's owner now holds for the step (R45). -/
def Part.keepReport (n : NestId) (r : Results) (s : Part) : Part := s.modNsq n fun q => { q with report := some r }

/-- An owner's outcome for the step in execution, sent to the NSQ (R28). -/
def Part.sendOutcome (n : NestId) (v : Verdict) (d : Detail) (r : Results) (s : Part) : Part :=
  match (s.nsq.get n).step with
  | some st => (s.keepReport n r).send (.ownerOutcome ⟨n, st.sequence, v, d, r⟩)
  | none => s

/-- The step in execution on nest `n` has not been handed to the owner of its kind `k` (R72, R189; log entry 19). -/
def Part.keptBack (s : Part) (n : NestId) (k : Kind) : Bool := k.barredByStop && (s.nsq.get n).unhanded

/-- Station STOP stands against a nest: it is latched, or its notice has not reached the sequencer yet (R51, R72). DESIGN
CHOICE: a STOP on its way to the panel controller alone does not stand against the nest, so after a RESUME a PROMPT is
handed over before that STOP is taken (R189; log entry 19). -/
def Part.underStop (s : Part) (n : NestId) : Bool := decide (s.station = .stopped) || s.sent.contains (.stationStop n)

/-- The outcome of a step of kind `k`, if one is in execution on the nest and its owner has it. -/
def Part.completeStep (n : NestId) (k : Kind) (v : Verdict) (d : Detail) (r : Results) (s : Part) : Part :=
  if s.executing n k && !s.keptBack n k then s.sendOutcome n v d r else s

/-- The end of a hold: a HELD step becomes RUNNING and NEST_STATE is written afresh (R27). -/
def Part.holdEnd (n : NestId) (s : Part) : Part :=
  if (s.nsq.get n).state = .held then
    s.track n fun s => s.modNsq n fun q => { q with state := .running, hold := .none }
  else s

/-- A step in execution becomes HELD for a reason (R26). -/
def Part.holdFor (n : NestId) (why : HoldReason) (s : Part) : Part :=
  s.track n fun s => s.modNsq n fun q => { q with state := .held, hold := why }

/-- An owner's answer to a hand-off (R26): an end at once, with a verdict, a detail and results; the step started; or
the step held. -/
inductive Answer where
  | done (v : Verdict) (d : Detail) (r : Results)
  | started
  | held (why : HoldReason)
  deriving DecidableEq, Repr

/-- A refusal: result words 0 (R29). -/
def Answer.refuse (d : Detail) : Answer := .done .refused d .zero

/-- A PASS with its results. -/
def Answer.pass (r : Results) : Answer := .done .pass .none r

/-! ### Fixture states -/

/-- The fixture states in which the supply switch is closed (R59). -/
def FixtureState.supplied : FixtureState → Bool
  | .powering | .powered => true
  | _ => false

/-- A fixture state set and shown in NEST_STATE (R54). -/
def Part.publish (n : NestId) (new : FixtureState) (s : Part) : Part :=
  s.track n fun s => s.modFxc n fun f => { f with state := new }

/-! ### Commands -/

/-- What a command answers: the next state, with the part changed by `f` and the queue of commands as it stands. -/
def State.act (f : Part → Part) (s : State) : Host.Outcome State Fault Refusal := .next { s with part := f s.part }

end Sys2Proof.Machine
end

