-- ==== Sys2Proof/Machine/Stimulus.lean ====
section
/-! DEFINITION. The stimulus unit (chapter 4): pulse channels, senders, discrete lines, idle enforcement and replay. -/

namespace Sys2Proof.Machine

def Part.modChannel (n : NestId) (c : Fin 4) (f : Channel → Channel) (s : Part) : Part :=
  s.modStu n fun u => { u with channels := u.channels.modify c f }
def Part.modSender (n : NestId) (e : Fin 2) (f : Sender → Sender) (s : Part) : Part :=
  s.modStu n fun u => { u with senders := u.senders.modify e f }
def Part.channel (s : Part) (n : NestId) (c : Fin 4) : Channel := (s.stu.get n).channels.get c
def Part.sender (s : Part) (n : NestId) (e : Fin 2) : Sender := (s.stu.get n).senders.get e

/-! ### Pulse channels -/

/-- A setting's first period, begun at tick `t` (R75, R76). -/
def PulseSetting.begin (p : PulseSetting) (t : Nat) : Wire :=
  ⟨p.mode, p.activeLow, p.period, p.active, t, false⟩

/-- A setting of mode OFF with a polarity; its other fields are read by nothing (log entry 16). -/
def PulseSetting.offWith (activeLow : Bool) : PulseSetting := { Reset.setting with activeLow := activeLow }

/-- A setting reaches the wire: its first period begins and its polarity fixes the rest level (R76). -/
def Channel.reach (p : PulseSetting) (t : Nat) (c : Channel) : Channel :=
  { c with wire := some (p.begin t), pending := none, restHigh := p.activeLow }

/-- A setting of mode OFF takes effect at once (R76, R78). -/
def Channel.setOff (activeLow : Bool) (c : Channel) : Channel :=
  { c with setting := .offWith activeLow, settingE := 0, e := 0, restHigh := activeLow, wire := none,
           pending := none }

/-- An accepted setting and its E are stored, and it reaches the wire at once on a channel that is OFF or waits for
the next boundary of a running one (R76). -/
def Channel.accept (p : PulseSetting) (e : W16) (t : Nat) (c : Channel) : Channel :=
  let c := { c with setting := p, settingE := e, e := e }
  if c.wire.isNone then c.reach p t else { c with pending := some p }

/-- A COUNT burst ends or is stopped: the channel turns OFF and keeps its rest level (R79, R80). -/
def Channel.endBurst (c : Channel) : Channel :=
  { c with setting := .offWith c.setting.activeLow, settingE := 0, e := 0, wire := none, pending := none,
           burst := none }

/-- The results of a COUNT step (R79, R80). -/
def Burst.results (b : Burst) : Results :=
  { Results.zero with w11 := b.periodWord, w12 := b.effectWord, w13 := wordOf b.emitted }

/-- SET_PULSE (R77 to R79, R158 to R160). R78 stores W in NARROW and N in COUNT (R79); the model keeps 0 for W and for N
in the other modes (log entry 16). -/
def Part.handSetPulse (n : NestId) (st : Step) (s : Part) : Part × Answer :=
  let gain : BitVec 24 := field (st.w 4) 0 24
  let target : W16 := field (st.w 3) 0 16
  let activeLow := bitAt (st.w 2) 16
  match indexBelow 4 (field (st.w 2) 0 8), pulseModeOf (field (st.w 2) 8 8) with
  | some c, some mode =>
    if mode ≠ .off ∧ gain = 0 then (s, .refuse .badOperand)
    else if !s.powered n then (s, .refuse .badState)
    else if mode = .off ∨ target = 0 then (s.modChannel n c (·.setOff activeLow), .pass .zero)
    else
      let p := clampPeriod (formPeriod target.toNat gain.toNat)
      let e := effectiveInput p.1 gain.toNat
      let w := clampWidth p.1 (field (st.w 6) 0 24).toNat
      let count := burstCount (field (st.w 5) 0 16)
      let setting : PulseSetting :=
        { mode := mode, activeLow := activeLow, target := target, gain := gain, period := p.1,
          width := if mode = .narrow then w.1 else 0, count := if mode = .count then count else 0 }
      let s := s.modChannel n c (·.accept setting e s.ticks)
      let w11 := wordOf p.1
      let w12 := place e 0 ||| flag p.2.1 16 ||| flag p.2.2 17 ||| flag (decide (mode = .narrow) && w.2) 18
      if mode = .count then
        (s.modChannel n c fun c => { c with burst := some ⟨st.sequence, 0, count, w11, w12⟩ }, .started)
      else (s, .pass { Results.zero with w11 := w11, w12 := w12 })
  | _, _ => (s, .refuse .badOperand)

/-- Whether the active phase of the period on the wire has run at tick `t` (R75). -/
def Wire.activeRun (t : Nat) (w : Wire) : Bool := !w.inactive && decide (w.start + w.active ≤ t)

/-- Whether the period on the wire has run at tick `t` (R76). -/
def Wire.periodRun (t : Nat) (w : Wire) : Bool := w.inactive && decide (w.start + w.period ≤ t)

/-- The end of an active phase at tick `t`: the output goes inactive, and a burst has emitted one more pulse (R75,
R79). -/
def Channel.endActive (t : Nat) (c : Channel) : Channel :=
  match c.wire with
  | none => c
  | some w =>
    if !w.activeRun t then c
    else
      { c with wire := some { w with inactive := true }
               burst := if w.mode = .count then c.burst.map fun b => { b with emitted := b.emitted + 1,
                                                                              left := b.left - 1 }
                        else c.burst }

/-- A period boundary (R76, R79): the end of a burst's last period, the pending setting reaching the wire, or the next
period. -/
def Part.endPeriod (n : NestId) (i : Fin 4) (s : Part) : Part :=
  let c := s.channel n i
  match c.wire with
  | none => s
  | some w =>
    if !w.periodRun s.ticks then s
    else
      match w.mode, c.burst with
      | .count, some b =>
        if b.left = 0 then
          (s.modChannel n i Channel.endBurst).completeStep n .setPulse .pass .none b.results
        else s.modChannel n i fun c => { c with wire := some { w with start := s.ticks, inactive := false } }
      | _, _ =>
        match c.pending with
        | some p => s.modChannel n i (·.reach p s.ticks)
        | none => s.modChannel n i fun c => { c with wire := some { w with start := s.ticks, inactive := false } }

/-- A COUNT burst stopped for the NSQ, with its results kept (R80). -/
def Part.stopBurst (n : NestId) (i : Fin 4) (s : Part) : Part :=
  match (s.channel n i).burst with
  | none => s
  | some b => (s.modChannel n i Channel.endBurst).keepReport n b.results

/-! ### Senders -/

/-- SET_SENDER (R81). -/
def Part.handSetSender (n : NestId) (st : Step) (s : Part) : Part × Answer :=
  match indexBelow 2 (field (st.w 2) 0 8) with
  | none => (s, .refuse .badOperand)
  | some e =>
    if !s.powered n then (s, .refuse .badState)
    else
      let code := clampCode (field (st.w 3) 0 16)
      let w11 := place code.1 0 ||| flag code.2 16
      let due := s.dueIn Config.senderSettleUs
      (s.modSender n e fun _ => ⟨code.1, code.1, some ⟨due, w11⟩⟩, .started)

/-- The settle timer of a sender expires (R82). -/
def Part.senderSettles (n : NestId) (e : Fin 2) (s : Part) : Part :=
  match (s.sender n e).settle with
  | none => s
  | some t =>
    if !s.reached t.due then s
    else
      (s.modSender n e fun x => { x with settle := none }).completeStep n .setSender .pass .none
        { Results.zero with w11 := t.w11 }

/-- A settle timer stopped for the NSQ, with the results of R81 kept; the code stays applied (R82). -/
def Part.stopSenderSettle (n : NestId) (e : Fin 2) (s : Part) : Part :=
  match (s.sender n e).settle with
  | none => s
  | some t =>
    (s.modSender n e fun x => { x with settle := none }).keepReport n { Results.zero with w11 := t.w11 }

/-! ### Discrete lines -/

/-- The lines of a mask driven to the bits of a value; the others keep their state (R83). -/
def driveLines (mask value : Byte) (l : Bank 8 Line) : Bank 8 Line :=
  Bank.build fun i => if mask.getLsbD i.val then (if value.getLsbD i.val then .high else .low) else l.get i

/-- A line change applied, or discarded while the nest is not POWERED (R83, R85). -/
def Part.applyLines (n : NestId) (mask value : Byte) (s : Part) : Part :=
  if s.powered n then s.modStu n fun u => { u with lines := driveLines mask value u.lines } else s

/-- The levels of the lines: 1 for HIGH, 0 for LOW or RELEASED (R83). -/
def lineLevels (l : Bank 8 Line) : Byte :=
  (List.finRange 8).foldl (fun b i => if l.get i = .high then b ||| 1#8 <<< i.val else b) 0

/-! ### Replay -/

/-- A replay's restore: named channels that are not OFF begin a fresh period, named senders return to their codes
(R89, R91). -/
def Stimulus.restore (mask : BitVec 6) (t : Nat) (u : Stimulus) : Stimulus :=
  { u with
    channels := Bank.build fun i =>
      let c := u.channels.get i
      if mask.getLsbD i.val ∧ c.setting.mode ≠ .off then
        { c with wire := some (c.setting.begin t), e := c.settingE }
      else c
    senders := Bank.build fun i =>
      let e := u.senders.get i
      if mask.getLsbD (4 + i.val) then { e with e := e.code } else e }

/-- The channels and senders of a mask driven to their replay values (R88). -/
def Stimulus.drive (mask : BitVec 6) (code : W16) (u : Stimulus) : Stimulus :=
  { u with
    channels := Bank.build fun i =>
      let c := u.channels.get i
      if mask.getLsbD i.val ∧ c.setting.mode ≠ .off then { c with wire := none, pending := none, e := 0 } else c
    senders := Bank.build fun i =>
      let e := u.senders.get i
      if mask.getLsbD (4 + i.val) then { e with e := (clampCode code).1 } else e }

/-- Whether a replay mask names a sender (R89). -/
def namesSender (mask : BitVec 6) : Bool := mask.getLsbD 4 || mask.getLsbD 5

/-- The OPC's replay request, and whether it is answered as started (R88). -/
def Part.startReplay (n : NestId) (mask : BitVec 6) (gapMs : Nat) (code : W16) (s : Part) : Part × Bool :=
  if s.powered n ∧ (s.stu.get n).replay = .none then
    let due := s.dueInMs gapMs
    (s.modStu n fun u => { u.drive mask code with replay := .gap mask due }, true)
  else (s, false)

/-- The gap timer expires (R89). -/
def Part.gapExpires (n : NestId) (s : Part) : Part :=
  match (s.stu.get n).replay with
  | .gap mask due =>
    if !s.reached due then s
    else
      let s := s.modStu n (·.restore mask s.ticks)
      if namesSender mask then
        let due := s.dueIn Config.senderSettleUs
        s.modStu n fun u => { u with replay := .restore mask due }
      else (s.modStu n fun u => { u with replay := .none }).send (.replayEnded n)
  | _ => s

/-- The restore settle timer expires (R89). -/
def Part.restoreSettles (n : NestId) (s : Part) : Part :=
  match (s.stu.get n).replay with
  | .restore _ due =>
    if !s.reached due then s else (s.modStu n fun u => { u with replay := .none }).send (.replayEnded n)
  | _ => s

/-- The OPC's end-replay request (R91). -/
def Part.endReplay (n : NestId) (s : Part) : Part :=
  if !s.powered n then s
  else
    match (s.stu.get n).replay with
    | .gap mask _ => s.modStu n fun u => { u.restore mask s.ticks with replay := .none }
    | .restore _ _ => s.modStu n fun u => { u with replay := .none }
    | .none => s

/-! ### Idle enforcement -/

/-- A pulse channel after idle enforcement: OFF with its setting cleared, its rest level kept (R86). -/
def Channel.idle (c : Channel) : Channel := { Reset.channel with restHigh := c.restHigh }

/-- The results that the STU holds for a step whose operation idle enforcement stops (R80, R82). -/
def Stimulus.heldResults (u : Stimulus) : Option Results :=
  match (List.finRange 4).findSome? fun i => (u.channels.get i).burst with
  | some b => some b.results
  | none =>
    match (List.finRange 2).findSome? fun i => (u.senders.get i).settle with
    | some t => some { Results.zero with w11 := t.w11 }
    | none => none

/-- Idle enforcement (R86, R90): everything at rest, results kept for the step, a replay reported as cut. -/
def Part.enforceIdle (n : NestId) (s : Part) : Part :=
  let u := s.stu.get n
  let s := match u.heldResults with
    | some r => s.keepReport n r
    | none => s
  let s := s.modStu n fun u =>
    { channels := Bank.build fun i => (u.channels.get i).idle
      senders := .fill Reset.sender, lines := .fill .released, replay := .none }
  if u.replay = .none then s else s.send (.replayCut n)

/-- The effective input of a CHECK_GAUGE source: 0–3 the pulse channels, 4–5 the senders (R92, R162). -/
def Part.sourceInput (s : Part) (n : NestId) (source : Fin 6) : W16 :=
  if h : source.val < 4 then (s.channel n ⟨source.val, h⟩).e
  else (s.sender n ⟨source.val - 4, by omega⟩).e

/-! ### Commands -/

/-- IDLE_ENFORCEMENT (R86, R90). -/
def execIdleEnforcement (n : NestId) (s : State) : Host.Outcome State Fault Refusal :=
  s.act (·.enforceIdle n)

/-- ACTIVE_PHASE_END (R75, R79). -/
def execActivePhaseEnd (n : NestId) (channel : Fin 4) (s : State) : Host.Outcome State Fault Refusal :=
  s.act fun s => s.modChannel n channel (·.endActive s.ticks)

/-- PERIOD_BOUNDARY (R76, R79). -/
def execPeriodBoundary (n : NestId) (channel : Fin 4) (s : State) : Host.Outcome State Fault Refusal :=
  s.act (·.endPeriod n channel)

/-- BURST_STOP_REQUEST (R80). -/
def execBurstStopRequest (n : NestId) (channel : Fin 4) (s : State) : Host.Outcome State Fault Refusal :=
  s.act (·.stopBurst n channel)

/-- SENDER_SETTLE_EXPIRY (R82). -/
def execSenderSettleExpiry (n : NestId) (sender : Fin 2) (s : State) : Host.Outcome State Fault Refusal :=
  s.act (·.senderSettles n sender)

/-- SENDER_SETTLE_STOP_REQUEST (R82). -/
def execSenderSettleStopRequest (n : NestId) (sender : Fin 2) (s : State) : Host.Outcome State Fault Refusal :=
  s.act (·.stopSenderSettle n sender)

/-- GAP_EXPIRY (R89). -/
def execGapExpiry (n : NestId) (s : State) : Host.Outcome State Fault Refusal :=
  s.act (·.gapExpires n)

/-- RESTORE_SETTLE_EXPIRY (R89). -/
def execRestoreSettleExpiry (n : NestId) (s : State) : Host.Outcome State Fault Refusal :=
  s.act (·.restoreSettles n)

/-- END_REPLAY_REQUEST (R91). -/
def execEndReplayRequest (n : NestId) (s : State) : Host.Outcome State Fault Refusal :=
  s.act (·.endReplay n)

end Sys2Proof.Machine
end

