-- ==== Sys2Proof/Machine/Bus.lean ====
section
/-! DEFINITION. The bus controllers (chapter 5): frame slots, the transmitter arbiter, staged changes, receive filters
and CHECK_FRAME; and SET_LINES, which stages with them (R83, R84). -/

namespace Sys2Proof.Machine

def Part.modSlot (n : NestId) (k : Fin 16) (f : FrameSlot → FrameSlot) (s : Part) : Part :=
  s.modBuc n fun b => { b with slots := b.slots.modify k f }
def Part.modFilter (n : NestId) (k : Fin 8) (f : Filter → Filter) (s : Part) : Part :=
  s.modBuc n fun b => { b with filters := b.filters.modify k f }
def Part.slot (s : Part) (n : NestId) (k : Fin 16) : FrameSlot := (s.buc.get n).slots.get k
def Part.filter (s : Part) (n : NestId) (k : Fin 8) : Filter := (s.buc.get n).filters.get k

/-- The slots of a 16-bit mask, lowest first. -/
def slotsOf (mask : W16) : List (Fin 16) := (List.finRange 16).filter fun k => mask.getLsbD k.val

/-- The filters of an 8-bit mask, lowest first. -/
def filtersOf (mask : Byte) : List (Fin 8) := (List.finRange 8).filter fun k => mask.getLsbD k.val

/-- w6 of a frame slot written (R104). -/
def Part.writeSlotStatus (n : NestId) (k : Fin 16) (s : Part) : Part :=
  s.put (frameAt n k 6) (s.slot n k).statusWord

/-- w7 of a frame slot written (R104). -/
def Part.writeSlotNacks (n : NestId) (k : Fin 16) (s : Part) : Part :=
  s.put (frameAt n k 7) (place (s.slot n k).nack 0)

/-- A frame slot changed, with w6 written if its state, its staged mark or its sent count changed, and w7 if its nack
count changed (R104). -/
def Part.changeSlot (n : NestId) (k : Fin 16) (f : FrameSlot → FrameSlot) (s : Part) : Part :=
  let old := s.slot n k
  let new := f old
  let s := s.modSlot n k fun _ => new
  let s := if new.statusWord = old.statusWord then s else s.writeSlotStatus n k
  if new.nack = old.nack then s else s.writeSlotNacks n k

/-- The first `length` bytes of a payload, the rest 0 (R96, R110). -/
def payloadPrefix (length : Fin 9) (p : BitVec 64) : BitVec 64 :=
  BitVec.ofNat 64 (p.toNat % 2 ^ (8 * length.val))

/-- An identifier as its format takes it: 29 bits, or bits 10:0 (R96, R110). -/
def identOf (extended : Bool) (ident : BitVec 29) : BitVec 29 := if extended then ident else ident &&& 0x7FF#29

/-- A 4-bit length, 9–15 clamped to 8 (R96). -/
def frameLength (x : BitVec 4) : Fin 9 := ⟨min x.toNat 8, by omega⟩

/-- An 8-byte payload from its two words, byte 0 lowest (frame slot table, note 2). -/
def payloadOf (low high : W32) : BitVec 64 := high ++ low

/-! ### Transmitter -/

/-- The definition a slot's entry of the frame table holds (R96). -/
def Part.readFrameDef (s : Part) (n : NestId) (k : Fin 16) : FrameDef :=
  let w0 := s.word (frameAt n k 0)
  let w1 := s.word (frameAt n k 1)
  let w2 := s.word (frameAt n k 2)
  let extended := bitAt w0 31
  { extended := extended, ident := identOf extended (field w0 0 29), length := frameLength (field w1 0 4),
    periodMs := (field w1 16 16).toNat, phaseMs := (field w2 0 16).toNat }

/-- The frame a slot sends (R96). -/
def FrameSlot.frame (f : FrameSlot) : Frame :=
  match f.frameDef with
  | some d => ⟨d.extended, d.ident, d.length, payloadPrefix d.length f.payload⟩
  | none => ⟨false, 0, 0, 0⟩

/-- The pending transmission that is due furthest back, the lower slot first (R100). -/
def Bus.oldestPending (b : Bus) : Option (Fin 16 × Nat) :=
  (List.finRange 16).foldl
    (fun best k =>
      match (b.slots.get k).pendingDue, best with
      | none, _ => best
      | some d, none => some (k, d)
      | some d, some (_, d') => if d < d' then some (k, d) else best) none

/-- The start of a slot's transmission (R101): the staged parts are applied, a waiting FRAME_LOAD completes, and the
pending transmission is consumed. -/
def Part.startTransmission (n : NestId) (k : Fin 16) (due : Nat) (s : Part) : Part :=
  let f := s.slot n k
  let s := s.modSlot n k fun f =>
    { f with payload := f.stagedPayload.getD f.payload, stagedPayload := none, stagedLines := none,
             pendingDue := none }
  let s := match f.stagedLines with
    | some (mask, value) => s.applyLines n mask value
    | none => s
  let s := if f.stagedPayload.isSome || f.stagedLines.isSome then s.writeSlotStatus n k else s
  let frame := (s.slot n k).frame
  let s := s.modBuc n fun b => { b with tx := some ⟨k, due, false, frame⟩ }
  match (s.buc.get n).loadWait with
  | some w =>
    if w.slot = k then
      (s.modBuc n fun b => { b with loadWait := none }).completeStep n .frameLoad .pass .none
        { Results.zero with w11 := w.w11, w12 := s.timebase }
    else s
  | none => s

/-- The transmitter arbiter (R100): with transmitter and receiver IDLE, the oldest pending transmission starts. -/
def Part.arbitrate (n : NestId) (s : Part) : Part :=
  let b := s.buc.get n
  if b.on && b.tx.isNone && b.rx.isNone then
    match b.oldestPending with
    | some (k, due) => s.startTransmission n k due
    | none => s
  else s

/-- A RUNNING slot falls due at `d` (R99): a pending transmission is created or merged, and the next due time set. -/
def FrameSlot.fallDue (d : Nat) (f : FrameSlot) : FrameSlot :=
  if f.state = .running ∧ f.due = some d then
    let period := (f.frameDef.map FrameDef.periodMs).getD 0
    { f with pendingDue := some (f.pendingDue.getD d)
             due := if period = 0 then none else some (d + 1000 * period) }
  else f

/-- The timebase reaches `d`: every RUNNING slot of the nest that is due at `d` falls due, and the arbiter runs
(R99, R100). -/
def Part.reachDue (n : NestId) (d : Nat) (s : Part) : Part :=
  (s.modBuc n fun b => { b with slots := Bank.build fun k => (b.slots.get k).fallDue d }).arbitrate n

/-- A slot's due time is reached (R99); a due time of a slot that is not RUNNING is discarded. -/
def Part.slotFallsDue (n : NestId) (k : Fin 16) (s : Part) : Part :=
  match (s.slot n k).due with
  | none => s
  | some d =>
    if !s.reached d then s
    else if (s.slot n k).state = .running then s.reachDue n d
    else s.modSlot n k fun f => { f with due := none }

/-- A slot's staged change dropped, both parts (R103, R108). -/
def FrameSlot.dropStaged (f : FrameSlot) : FrameSlot := { f with stagedPayload := none, stagedLines := none }

/-- The bus goes MUTE (R103). A waiting FRAME_LOAD ends with its staged change dropped, also where its slot is STOPPED
(R108; log entry 13). -/
def Part.muteBus (n : NestId) (s : Part) : Part :=
  let before := (s.buc.get n).slots
  let s := s.track n fun s => s.modBuc n fun b =>
    { b with mute := true
             slots := Bank.build fun k =>
               let f := b.slots.get k
               if f.state = .running then
                 { f.dropStaged with state := .muted, pendingDue := none, due := none }
               else f }
  let s := (List.finRange 16).foldl
    (fun s k => if (before.get k).state = .running then s.writeSlotStatus n k else s) s
  let s := s.recordFault n .busMute
  match (s.buc.get n).loadWait with
  | some w =>
    let s := s.changeSlot n w.slot FrameSlot.dropStaged
    (s.modBuc n fun b => { b with loadWait := none }).completeStep n .frameLoad .fail .busMute
      { Results.zero with w11 := w.w11 }
  | none => s

/-- A single-shot slot that has sent its frame becomes STOPPED, unless a FRAME_RUN has stopped it since (R102; log
entries 13 and 14). -/
def FrameSlot.afterFrame (t : Transmission) (f : FrameSlot) : FrameSlot :=
  let period := (f.frameDef.map FrameDef.periodMs).getD 0
  if period = 0 ∧ t.stopped = false then { f with state := .stopped } else f

/-- The end of a transmission (R102); the words of the slot are written as R104 gives. A nack that mutes the bus does
so while the slot is still RUNNING, before a single-shot slot becomes STOPPED (log entry 13). -/
def Part.transmissionEnds (n : NestId) (how : TransmissionEnd) (s : Part) : Part :=
  match (s.buc.get n).tx with
  | none => s
  | some t =>
    let s := s.modBuc n fun b => { b with tx := none }
    match how with
    | .acknowledged =>
      let s := s.changeSlot n t.slot fun f => { f with sent := f.sent + 1 }.afterFrame t
      (s.modBuc n fun b => { b with nacks := 0 }).arbitrate n
    | .notAcknowledged =>
      let s := s.changeSlot n t.slot fun f => { f with nack := f.nack + 1 }
      let s := s.modBuc n fun b => { b with nacks := b.nacks + 1 }
      let s := if Config.muteNacks ≤ (s.buc.get n).nacks then s.muteBus n else s
      (s.changeSlot n t.slot (·.afterFrame t)).arbitrate n
    | .arbitrationLost il =>
      let s := s.modBuc n fun b => { b with rx := some il }
      s.modSlot n t.slot fun f =>
        if f.state = .running ∧ t.stopped = false then { f with pendingDue := some t.due } else f

/-! ### FRAME_RUN and FRAME_LOAD -/

/-- A slot of the stop mask (R97). A STOPPED slot is left as it stands, with a change that was staged while its last
frame was in flight (log entry 14). -/
def Part.stopSlot (n : NestId) (k : Fin 16) (s : Part) : Part :=
  if (s.slot n k).state = .stopped then s
  else
    let s := s.modSlot n k fun f =>
      { f with state := .stopped, pendingDue := none, due := none, stagedPayload := none, stagedLines := none }
    let s := s.modBuc n fun b =>
      { b with tx := b.tx.map fun t => if t.slot = k then { t with stopped := true } else t }
    s.writeSlotStatus n k

/-- MUTE cleared by a FRAME_RUN that starts a slot (R97). -/
def Part.clearMute (n : NestId) (s : Part) : Part :=
  if (s.buc.get n).mute then
    let before := (s.buc.get n).slots
    let s := s.track n fun s => s.modBuc n fun b =>
      { b with mute := false, nacks := 0
               slots := Bank.build fun k =>
                 let f := b.slots.get k
                 if f.state = .muted then { f with state := .stopped } else f }
    (List.finRange 16).foldl
      (fun s k => if (before.get k).state = .muted then s.writeSlotStatus n k else s) s
  else s

/-- A slot is started (R96, R98). -/
def Part.startSlot (n : NestId) (k : Fin 16) (s : Part) : Part :=
  let d := s.readFrameDef n k
  let fromTable := payloadOf (s.word (frameAt n k 3)) (s.word (frameAt n k 4))
  let due := s.dueInMs d.phaseMs
  let s := s.modSlot n k fun f =>
    { state := .running, frameDef := some d, payload := if f.preload then f.payload else fromTable,
      preload := false, due := some due, pendingDue := none, stagedPayload := none, stagedLines := none,
      sent := 0, nack := 0 }
  (s.writeSlotStatus n k).writeSlotNacks n k

/-- The slots of a start mask that are STOPPED, which are those a FRAME_RUN starts (R97). -/
def Bus.toStart (b : Bus) (start : W16) : List (Fin 16) :=
  (slotsOf start).filter fun k => (b.slots.get k).state = .stopped

/-- The slots just started with a phase of 0 fall due at the hand-off itself, and the arbiter runs (R98, R100). -/
def Part.fallDueAtStart (n : NestId) (started : List (Fin 16)) (s : Part) : Part :=
  let now := s.now
  let dueNow := started.filter fun k => (s.slot n k).due = some now
  if dueNow.isEmpty then s
  else
    (s.modBuc n fun b =>
      { b with
        slots := Bank.build fun k =>
          if k ∈ dueNow then (b.slots.get k).fallDue now else b.slots.get k }).arbitrate n

/-- The slots that are RUNNING, one bit each. -/
def Bus.runningMask (b : Bus) : W16 :=
  (List.finRange 16).foldl (fun m k => if (b.slots.get k).state = .running then m ||| 1#16 <<< k.val else m) 0

/-- FRAME_RUN (R97, R98). -/
def Part.handFrameRun (n : NestId) (st : Step) (s : Part) : Part × Answer :=
  let start : W16 := field (st.w 2) 0 16
  let stop : W16 := field (st.w 2) 16 16
  if !s.powered n then (s, .refuse .badState)
  else
    let s := (slotsOf stop).foldl (fun s k => s.stopSlot n k) s
    let s := if start = 0 then s else s.clearMute n
    let started := (s.buc.get n).toStart start
    let s := started.foldl (fun s k => s.startSlot n k) s
    let running := (s.buc.get n).runningMask
    (s.fallDueAtStart n started, .pass { Results.zero with w11 := place running 0 })

/-- FRAME_LOAD on a slot that is STOPPED or MUTED is applied at once (R106). -/
def Part.preloadSlot (n : NestId) (k : Fin 16) (payload : BitVec 64) (mask value : Byte) (s : Part) : Part :=
  let s := s.modSlot n k fun f => { f with payload := payload, preload := true }
  if mask = 0 then s else s.applyLines n mask value

/-- FRAME_LOAD on a RUNNING slot stages its change (R107); the answer says whether it replaced a staged part. -/
def Part.stageLoad (n : NestId) (k : Fin 16) (payload : BitVec 64) (mask value : Byte) (sync : Bool) (s : Part) :
    Part × Bool :=
  let f := s.slot n k
  let staged := decide (mask ≠ 0) && sync
  let superseded := f.stagedPayload.isSome || (staged && f.stagedLines.isSome)
  let s := s.modSlot n k fun f =>
    { f with stagedPayload := some payload
             stagedLines := if staged then some (mask, value) else f.stagedLines }
  let s := if decide (mask ≠ 0) && !sync then s.applyLines n mask value else s
  (s.writeSlotStatus n k, superseded)

/-- FRAME_LOAD (R106, R107). -/
def Part.handFrameLoad (n : NestId) (st : Step) (s : Part) : Part × Answer :=
  match indexBelow 16 (field (st.w 2) 0 8) with
  | none => (s, .refuse .badOperand)
  | some k =>
    let mask : Byte := field (st.w 2) 8 8
    let value : Byte := field (st.w 2) 16 8
    let payload := payloadOf (st.w 3) (st.w 4)
    if !s.powered n then (s, .refuse .badState)
    else if (s.slot n k).state = .running then
      let r := s.stageLoad n k payload mask value (bitAt (st.w 2) 24)
      let w11 := flag true 1 ||| flag r.2 2
      if bitAt (st.w 2) 25 then
        (r.1.modBuc n fun b => { b with loadWait := some ⟨k, w11⟩ }, .started)
      else (r.1, .pass { Results.zero with w11 := w11 })
    else (s.preloadSlot n k payload mask value, .pass { Results.zero with w11 := flag true 0 })

/-- A waiting FRAME_LOAD ended for the NSQ (R108): its staging is kept at a deadline and dropped at a stop request. -/
def Part.endFrameLoad (n : NestId) (cause : EndCause) (s : Part) : Part :=
  match (s.buc.get n).loadWait with
  | none => s
  | some w =>
    let s := (s.modBuc n fun b => { b with loadWait := none }).keepReport n { Results.zero with w11 := w.w11 }
    match cause with
    | .deadline => s
    | .stop =>
      s.changeSlot n w.slot FrameSlot.dropStaged

/-! ### SET_LINES -/

/-- A line request from the STU (R105): staged on a RUNNING slot, with whether it replaced a staged line part, or none
for "apply now". -/
def Part.stageLines (n : NestId) (k : Fin 16) (mask value : Byte) (s : Part) : Part × Option Bool :=
  let f := s.slot n k
  if f.state = .running then
    ((s.modSlot n k fun f => { f with stagedLines := some (mask, value) }).writeSlotStatus n k,
      some f.stagedLines.isSome)
  else (s, none)

/-- SET_LINES (R83, R84). -/
def Part.handSetLines (n : NestId) (st : Step) (s : Part) : Part × Answer :=
  let mask : Byte := field (st.w 2) 0 8
  let value : Byte := field (st.w 2) 8 8
  let k : Fin 16 := (field (st.w 2) 24 4 : BitVec 4).toFin
  let levels (s : Part) : W32 := place (lineLevels (s.stu.get n).lines) 0
  let applyNow (s : Part) : Part × Answer :=
    let s := s.applyLines n mask value
    (s, .pass { Results.zero with w11 := levels s })
  if !s.powered n then (s, .refuse .badState)
  else if bitAt (st.w 2) 16 ∧ mask ≠ 0 then
    match s.stageLines n k mask value with
    | (s, some superseded) =>
      (s, .pass { Results.zero with w11 := levels s ||| flag true 16 ||| flag superseded 17 })
    | (s, none) => applyNow s
  else applyNow s

/-! ### Start and urgent stop -/

/-- The bit rate that a BUS_CFG code names (R94). -/
def bitRateOf (code : BitVec 2) : BitRate :=
  match code.toNat with
  | 0 => .kbit125
  | 1 => .kbit250
  | 2 => .kbit500
  | _ => .kbit1000

/-- A bit rate in kbit/s (section 5.1, R94). -/
def BitRate.kbits : BitRate → Nat
  | .kbit125 => 125 | .kbit250 => 250 | .kbit500 => 500 | .kbit1000 => 1000

/-- The nest enters POWERED (R94). -/
def Part.startBus (n : NestId) (s : Part) : Part :=
  let rate := bitRateOf (field (s.word (nestAt n 3)) 0 2)
  s.track n fun s => s.modBuc n fun b =>
    { b with on := true, rate := some rate, tx := none, rx := none, mute := false, nacks := 0 }

/-- The results of the frame step that the controller holds when it stops: of a waiting FRAME_LOAD (R108). -/
def LoadWait.results (w : LoadWait) : Results := { Results.zero with w11 := w.w11 }

/-- The results of a CHECK_FRAME (R113, R114). -/
def CheckFrame.results (c : CheckFrame) : Results :=
  let w13 := place c.examined 0 ||| place c.unequal 16
  match c.last with
  | none => { Results.zero with w13 := w13 }
  | some r =>
    { w11 := r.payload.extractLsb' 0 32, w12 := r.payload.extractLsb' 32 32, w13 := w13, w14 := r.arrival,
      w15 := wordOf r.length.val ||| flag r.overrun 8 }

/-- A running CHECK_FRAME ended for the NSQ, with its results kept (R114). -/
def Part.endCheckFrame (n : NestId) (s : Part) : Part :=
  match (s.buc.get n).check with
  | none => s
  | some c => (s.modBuc n fun b => { b with check := none }).keepReport n c.results

/-- The nest leaves POWERED (R95). The frame slot status words, w6 and w7, are written for every slot. -/
def Part.stopBus (n : NestId) (s : Part) : Part :=
  let s := match (s.buc.get n).loadWait with
    | some w => s.keepReport n w.results
    | none => s
  let s := s.endCheckFrame n
  let s := s.track n fun s => s.modBuc n fun b =>
    { b with
      on := false, mute := false, nacks := 0, tx := none, rx := none, loadWait := none
      slots := Bank.build fun k =>
        { b.slots.get k with
          state := .stopped, preload := false, due := none, pendingDue := none, stagedPayload := none,
          stagedLines := none }
      filters := Bank.build fun k => { b.filters.get k with armed := none } }
  (List.finRange 16).foldl (fun s k => (s.writeSlotStatus n k).writeSlotNacks n k) s

/-! ### Reception and CHECK_FRAME -/

/-- w4 of a capture slot written (R110, R112, R113). -/
def Part.writeCaptureFlags (n : NestId) (k : Fin 8) (s : Part) : Part :=
  s.put (captureAt n k 4) (s.filter n k).record.flagsWord

/-- All part words of a capture slot written, w4 last (R110, R111). -/
def Part.writeCapture (n : NestId) (k : Fin 8) (s : Part) : Part :=
  let r := (s.filter n k).record
  let s := (s.put (captureAt n k 2) (r.payload.extractLsb' 0 32)).put (captureAt n k 3) (r.payload.extractLsb' 32 32)
  let s := (s.put (captureAt n k 5) r.arrival).put (captureAt n k 7) r.identWord
  (s.put (captureAt n k 6) r.count).writeCaptureFlags n k

/-- A filter matches a frame (R110). -/
def FilterDef.matchesFrame (d : FilterDef) (f : Frame) : Bool :=
  let mask := identOf d.extended d.mask
  decide (d.extended = f.extended) && decide (f.ident &&& mask = d.ident &&& mask)

/-- A capture record with a frame taken into it (R110). -/
def Capture.take (f : Frame) (il : BitVec 4) (now : W32) (c : Capture) : Capture :=
  { payload := payloadPrefix f.length f.payload, length := f.length, arrival := now, count := c.count + 1,
    ident := identOf f.extended f.ident, extended := f.extended, il := il, fresh := true,
    overrun := c.overrun || c.fresh }

/-- The masked payload comparison of a CHECK_FRAME (R113). -/
def CheckFrame.accepts (c : CheckFrame) (payload : BitVec 64) : Bool :=
  payload &&& c.mask = c.expected &&& c.mask

/-- A CHECK_FRAME with a capture counted as examined (R113). -/
def CheckFrame.examine (r : Capture) (c : CheckFrame) : CheckFrame :=
  { c with examined := bumpSaturating c.examined
           unequal := if c.accepts r.payload then c.unequal else bumpSaturating c.unequal
           last := some r }

/-- A capture examined for the running CHECK_FRAME (R113): FRESH cleared, and the results if it matched. -/
def Part.examine (n : NestId) (s : Part) : Part × Option Results :=
  match (s.buc.get n).check with
  | none => (s, none)
  | some c =>
    let r := (s.filter n c.filter).record
    let s := (s.modFilter n c.filter fun x => { x with record := { x.record with fresh := false } }).writeCaptureFlags
      n c.filter
    let c := c.examine r
    if c.accepts r.payload then (s.modBuc n fun b => { b with check := none }, some c.results)
    else (s.modBuc n fun b => { b with check := some c }, none)

/-- A received frame offered to one filter (R110), and to the CHECK_FRAME that waits on it (R113). -/
def Part.offerFrame (n : NestId) (f : Frame) (il : BitVec 4) (s : Part) (k : Fin 8) : Part :=
  match (s.filter n k).armed with
  | none => s
  | some d =>
    if d.matchesFrame f then
      let now := s.timebase
      let s := (s.modFilter n k fun x => { x with record := x.record.take f il now }).writeCapture n k
      if ((s.buc.get n).check.map CheckFrame.filter) = some k then
        match s.examine n with
        | (s, some r) => s.completeStep n .checkFrame .pass .none r
        | (s, none) => s
      else s
    else s

/-- Another node's frame starts (R109). -/
def Part.receptionStarts (n : NestId) (il : BitVec 4) (s : Part) : Part :=
  if (s.buc.get n).on then s.modBuc n fun b => { b with rx := some il } else s

/-- Whether the controller acknowledges the frame that ends on the wire: it is ON, it has received the frame, and it
found no error (R93, R109). -/
def Bus.acknowledges (b : Bus) : ReceptionEnd → Bool
  | .data _ | .remote => b.on && b.rx.isSome
  | .error => false

/-- The frame ends (R109). -/
def Part.receptionEnds (n : NestId) (how : ReceptionEnd) (s : Part) : Part :=
  match (s.buc.get n).rx with
  | none => s
  | some il =>
    let s := match how with
      | .data f => (List.finRange 8).foldl (fun (s : Part) k => s.offerFrame n f il k) s
      | .remote | .error => s
    (s.modBuc n fun b => { b with rx := none }).arbitrate n

/-- The filters that are ARMED, one bit each. -/
def Bus.armedMask (b : Bus) : Byte :=
  (List.finRange 8).foldl (fun m k => if (b.filters.get k).armed.isSome then m ||| 1#8 <<< k.val else m) 0

/-- A filter armed: its definition latched, its capture record cleared and written (R111). -/
def Part.armFilter (n : NestId) (k : Fin 8) (s : Part) : Part :=
  let w0 := s.word (captureAt n k 0)
  let w1 := s.word (captureAt n k 1)
  let d : FilterDef := ⟨bitAt w0 31, field w0 0 29, field w1 0 29⟩
  (s.modFilter n k fun _ => ⟨some d, Reset.capture⟩).writeCapture n k

/-- CAPTURE_ARM (R111). -/
def Part.handCaptureArm (n : NestId) (st : Step) (s : Part) : Part × Answer :=
  if !s.powered n then (s, .refuse .badState)
  else
    let s := (filtersOf (field (st.w 2) 8 8)).foldl (fun s k => s.modFilter n k fun x => { x with armed := none }) s
    let s := (filtersOf (field (st.w 2) 0 8)).foldl (fun s k => s.armFilter n k) s
    (s, .pass { Results.zero with w11 := place (s.buc.get n).armedMask 0 })

/-- CHECK_FRAME (R112, R113). -/
def Part.handCheckFrame (n : NestId) (st : Step) (s : Part) : Part × Answer :=
  match indexBelow 8 (field (st.w 2) 0 8) with
  | none => (s, .refuse .badOperand)
  | some k =>
    if !s.powered n then (s, .refuse .badState)
    else
      let c : CheckFrame := ⟨k, payloadOf (st.w 3) (st.w 4), payloadOf (st.w 5) (st.w 6), 0, 0, none⟩
      let s := s.modBuc n fun b => { b with check := some c }
      if bitAt (st.w 2) 8 then
        ((s.modFilter n k fun x => { x with record := { x.record with fresh := false } }).writeCaptureFlags n k,
          .started)
      else if (s.filter n k).record.fresh then
        match s.examine n with
        | (s, some r) => (s, .pass r)
        | (s, none) => (s, .started)
      else (s, .started)

/-! ### Commands -/

/-- BUS_START (R94). -/
def execBusStart (n : NestId) (s : State) : Host.Outcome State Fault Refusal :=
  s.act (·.startBus n)

/-- URGENT_STOP (R95). -/
def execUrgentStop (n : NestId) (s : State) : Host.Outcome State Fault Refusal :=
  s.act (·.stopBus n)

/-- FRAME_LOAD_STOP_REQUEST (R108). -/
def execFrameLoadStopRequest (n : NestId) (cause : EndCause) (s : State) : Host.Outcome State Fault Refusal :=
  s.act (·.endFrameLoad n cause)

/-- CHECK_FRAME_END_REQUEST (R114). -/
def execCheckFrameEndRequest (n : NestId) (s : State) : Host.Outcome State Fault Refusal :=
  s.act (·.endCheckFrame n)

/-- SLOT_DUE (R99). -/
def execSlotDue (n : NestId) (slot : Fin 16) (s : State) : Host.Outcome State Fault Refusal :=
  s.act (·.slotFallsDue n slot)

/-- TRANSMISSION_END (R102, R103). -/
def execTransmissionEnd (n : NestId) (how : TransmissionEnd) (s : State) : Host.Outcome State Fault Refusal :=
  s.act (·.transmissionEnds n how)

/-- RECEPTION_START (R109). -/
def execReceptionStart (n : NestId) (il : BitVec 4) (s : State) : Host.Outcome State Fault Refusal :=
  s.act (·.receptionStarts n il)

/-- RECEPTION_END (R109, R110). -/
def execReceptionEnd (n : NestId) (how : ReceptionEnd) (s : State) : Host.Outcome State Fault Refusal :=
  s.act (·.receptionEnds n how)

end Sys2Proof.Machine
end

