-- ==== Sys2Proof/Machine/Converter.lean ====
section
/-! DEFINITION. The precision converter and the routing matrix (chapter 8): MEASURE, queue, grant, sampling, results. -/

namespace Sys2Proof.Machine

def Part.modGrant (f : Grant → Grant) (s : Part) : Part := s.modPcv fun c => { c with grant := c.grant.map f }
def Part.measurement (s : Part) (n : NestId) : Option Measurement := s.pcv.records.get n
def Part.setMeasurement (n : NestId) (m : Option Measurement) (s : Part) : Part :=
  s.modPcv fun c => { c with records := c.records.put n m }

/-! ### Routing matrix -/

/-- The index of point `p` of nest `n` (section 8.1). -/
def routePoint (n : NestId) (p : Fin 8) : Fin 64 := ⟨n.val * 8 + p.val, by omega⟩

/-- The route opened: the closed point, if there is one, becomes OPEN (R145). -/
def Part.openRoute (s : Part) : Part := s.modPcv fun c => { c with relays := 0 }

/-- A route point closed (R145). -/
def Part.closePoint (r : Fin 64) (s : Part) : Part :=
  s.modPcv fun c => { c with relays := c.relays ||| 1#64 <<< r.val }

/-! ### Results -/

/-- The values, masks and marks of the points complete (R152, R154). -/
def Measurement.results (m : Measurement) : Results :=
  let value (k : Nat) : W32 := ((m.done[k]?).map PointValue.value).getD 0
  let mask (f : PointValue → Bool) : W32 :=
    (List.range 4).foldl (fun w k => w ||| flag (((m.done[k]?).map f).getD false) k) 0
  { w11 := value 0, w12 := value 1, w13 := value 2, w14 := value 3
    w15 := mask PointValue.passed ||| mask PointValue.overrange <<< 4 ||| wordOf m.done.length <<< 8 |||
      flag m.samplesClamped 12 }

/-- The verdict of a complete measurement (R152). -/
def Measurement.verdict (m : Measurement) : Verdict × Detail :=
  if m.done.all PointValue.passed then (.pass, .none)
  else if m.done.any PointValue.overrange then (.fail, .overrange) else (.fail, .outOfWindow)

/-- The mean of a point's codes, halves away from zero (R150). -/
def meanCode (sum : Int) (k : Nat) : Int := halfAway sum k

/-- The scaled value of a mean, halves away from zero, clamped to the signed 32-bit range (R150). -/
def scaleMean (mean offset gain : Int) : Int :=
  max (-2147483648) (min 2147483647 (halfAway ((mean - offset) * gain) 65536))

/-- A point judged (R150). -/
def Measurement.judge (m : Measurement) (p : SweepPoint) (sum : Int) (overrange : Bool) : PointValue :=
  let v := BitVec.ofInt 32 (scaleMean (meanCode sum m.samples) p.offset.toInt p.gain.toInt)
  ⟨v, decide (m.windowLow.toInt ≤ v.toInt) && decide (v.toInt ≤ m.windowHigh.toInt) && !overrange, overrange⟩

/-! ### Queue and grant -/

/-- A point of the granted sweep closed, with its settle begun and the accumulator cleared (R148, R151). -/
def Part.beginPoint (n : NestId) (sequence : W16) (k : Nat) (p : SweepPoint) (s : Part) : Part :=
  let due := s.dueIn Config.converterSettleUs
  let g : Grant :=
    { nest := n, sequence := sequence, position := k, sampling := false, settleTimer := some due,
      sampleTimer := none, taken := 0, sum := 0, overrange := false }
  let s := s.modPcv fun c => { c with grant := some g }
  s.closePoint (routePoint n p.point)

/-- The converter granted to a nest's step (R148). -/
def Part.grantConverter (n : NestId) (sequence : W16) (s : Part) : Part :=
  match (s.measurement n).bind fun m => m.sweep.head? with
  | some p => s.beginPoint n sequence 0 p
  | none => s

/-- The results that the PCV holds for a nest's MEASURE kept for the NSQ (R45, R153). -/
def Part.keepMeasurement (n : NestId) (s : Part) : Part :=
  match s.measurement n with
  | some m => s.keepReport n m.results
  | none => s

/-- The converter is free: it goes to the first entry of the queue whose nest is POWERED, with the entries before it
withdrawn (R148). `q` is the queue not yet looked at. -/
def Part.grantHead (s : Part) : List (NestId × W16) → Part
  | [] => s.modPcv fun c => { c with queue := [] }
  | (n, sequence) :: q =>
    if s.powered n then ((s.modPcv fun c => { c with queue := q }).grantConverter n sequence).holdEnd n
    else (s.keepMeasurement n).grantHead q

/-- The end of a grant: the route opens and the converter passes on (R148, R152, R154). -/
def Part.releaseConverter (s : Part) : Part :=
  let s := s.openRoute.modPcv fun c => { c with grant := none }
  s.grantHead s.pcv.queue

/-- The scaling of a route point, read whole (R146). -/
def Part.readScaling (s : Part) (n : NestId) (p : Fin 8) : SweepPoint :=
  let r := (routePoint n p).val
  ⟨p, field (s.word (scalingAt r 0)) 0 16, s.word (scalingAt r 1)⟩

/-- MEASURE (R146, R147). -/
def Part.handMeasure (n : NestId) (st : Step) (s : Part) : Part × Answer :=
  let count : BitVec 8 := field (st.w 2) 8 8
  match indexBelow 8 (field (st.w 2) 0 8) with
  | none => (s, .refuse .badOperand)
  | some p =>
    if count ≠ 1 ∧ count ≠ 2 ∧ count ≠ 4 then (s, .refuse .badOperand)
    else if !s.powered n then (s, .refuse .badState)
    else
      let k := st.sampleCount
      let m : Measurement :=
        { sweep := (sweepOf p count.toNat).map fun p => s.readScaling n p
          samples := k.1, samplesClamped := k.2, windowLow := st.w 3, windowHigh := st.w 4, done := [] }
      let s := s.setMeasurement n (some m)
      if s.pcv.grant.isNone then (s.grantConverter n st.sequence, .started)
      else (s.modPcv fun c => { c with queue := c.queue ++ [(n, st.sequence)] }, .held .converter)

/-! ### Sampling -/

/-- The settle timer expires (R149). -/
def Part.converterSettles (s : Part) : Part :=
  match s.pcv.grant with
  | none => s
  | some g =>
    if g.sampling || !s.expired g.settleTimer then s
    else
      let due := s.dueIn Config.sampleUs
      s.modGrant fun g => { g with sampling := true, settleTimer := none, sampleTimer := some due }

/-- The measurement of the granted nest is complete (R152). -/
def Part.completeMeasurement (n : NestId) (m : Measurement) (s : Part) : Part :=
  let v := m.verdict
  let s := (s.openRoute.setMeasurement n none).completeStep n .measure v.1 v.2 m.results
  s.releaseConverter

/-- A point is complete: it is placed in the record, and the sweep goes on (R150, R151, R152). -/
def Part.completePoint (g : Grant) (m : Measurement) (p : SweepPoint) (s : Part) : Part :=
  let m := { m with done := m.done ++ [m.judge p g.sum g.overrange] }
  match m.sweep[g.position + 1]? with
  | some q => (s.setMeasurement g.nest (some m)).openRoute.beginPoint g.nest g.sequence (g.position + 1) q
  | none => s.completeMeasurement g.nest m

/-- A grant with one more code taken; the limits of the converter mark the point (R149). -/
def Grant.take (code : W16) (due : Nat) (g : Grant) : Grant :=
  { g with sum := g.sum + code.toInt, taken := g.taken + 1, sampleTimer := some due
           overrange := g.overrange || decide (code = 0x8000#16) || decide (code = 0x7FFF#16) }

/-- A sample (R149). -/
def Part.takeSample (code : W16) (s : Part) : Part :=
  match s.pcv.grant with
  | none => s
  | some g =>
    match s.measurement g.nest with
    | none => s
    | some m =>
      if g.sampling = false then s
      else
        let g := g.take code (s.dueIn Config.sampleUs)
        let s := s.modGrant fun _ => g
        if g.taken < m.samples then s
        else
          match m.sweep[g.position]? with
          | some p => s.completePoint g m p
          | none => s

/-! ### Ending early -/

/-- The converter is granted to the nest. -/
def Part.holdsConverter (s : Part) (n : NestId) : Bool := s.pcv.grant.any fun g => g.nest = n

/-- The grant of a nest ended before its last point (R154). -/
def Part.endMeasurement (n : NestId) (s : Part) : Part :=
  if s.holdsConverter n then ((s.keepMeasurement n).setMeasurement n none).releaseConverter else s

/-- A queued entry withdrawn (R153). -/
def Part.withdrawMeasurement (n : NestId) (s : Part) : Part :=
  if s.pcv.queue.any fun e => e.1 = n then
    (s.keepMeasurement n).modPcv fun c => { c with queue := c.queue.filter fun e => e.1 ≠ n }
  else s

/-- The PCV ends or stops a MEASURE for the NSQ, whether it waits or holds the grant (R33, R34, R46). -/
def Part.stopMeasurement (n : NestId) (s : Part) : Part := (s.withdrawMeasurement n).endMeasurement n

/-! ### Commands -/

/-- CONVERTER_SETTLE_EXPIRY (R149). -/
def execConverterSettleExpiry (s : State) : Host.Outcome State Fault Refusal :=
  s.act (·.converterSettles)

/-- SAMPLE (R149 to R152). -/
def execSample (code : W16) (s : State) : Host.Outcome State Fault Refusal :=
  s.act (·.takeSample code)

/-- CONVERTER_WITHDRAWAL (R153). -/
def execConverterWithdrawal (n : NestId) (s : State) : Host.Outcome State Fault Refusal :=
  s.act (·.withdrawMeasurement n)

/-- CONVERTER_END_REQUEST (R154). -/
def execConverterEndRequest (n : NestId) (s : State) : Host.Outcome State Fault Refusal :=
  s.act (·.endMeasurement n)

/-- CONVERTER_POWER_DEPARTURE (R155, R156). -/
def execConverterPowerDeparture (n : NestId) (s : State) : Host.Outcome State Fault Refusal :=
  s.act (·.stopMeasurement n)

end Sys2Proof.Machine
end

