-- ==== Sys2Proof/Machine/Gauge.lean ====
section
/-! DEFINITION. The gauge monitors (chapter 6) and CHECK_GAUGE (chapter 9): decoding, zeroing, settling, verdict. -/

namespace Sys2Proof.Machine

def Part.modGauge (n : NestId) (g : Fin 4) (f : Gauge → Gauge) (s : Part) : Part :=
  s.modGmn n fun u => { u with gauges := u.gauges.modify g f }
def Part.gauge (s : Part) (n : NestId) (g : Fin 4) : Gauge := (s.gmn.get n).gauges.get g

/-! ### Decoding -/

/-- The index of a coil pair in the coil pattern table; none for the de-energised pair (section 6.1, R119). -/
def patternIndex (p : CoilPair) : Option (Fin 8) :=
  match p.a, p.b with
  | .plus, .zero => some 0
  | .plus, .plus => some 1
  | .zero, .plus => some 2
  | .minus, .plus => some 3
  | .minus, .zero => some 4
  | .minus, .minus => some 5
  | .zero, .minus => some 6
  | .plus, .minus => some 7
  | .zero, .zero => none

/-- A position moved by `k`, held at the limits of the signed 16-bit range, and whether it was held (R120). -/
def movePosition (p : W16) (k : Int) : W16 × Bool :=
  let sum := p.toInt + k
  if 32767 < sum then (32767, true) else if sum < -32768 then (-32768, true) else (BitVec.ofInt 16 sum, false)

/-- The step that a difference of 1, 2, 3, 5, 6 or 7 stands for (R119). -/
def stepOf (d : Nat) : Int := if d < 4 then d else (d : Int) - 8

/-- A gauge moved by the difference `d`, 1 to 7 (R119 to R121). -/
def Gauge.move (d : Nat) (g : Gauge) : Gauge :=
  if d = 4 then { g with ambiguous := bumpSaturating g.ambiguous }
  else
    let p := movePosition g.position (stepOf d)
    { g with position := p.1, sat := g.sat || p.2
             skips := if d = 1 ∨ d = 7 then g.skips else bumpSaturating g.skips }

/-- An energised pattern or none decoded against the phase memory: the gauge, and whether the event is a coil step
(R119, R122). -/
def Gauge.decode (index : Option (Fin 8)) (now : W32) (g : Gauge) : Gauge × Bool :=
  match index, g.phase with
  | none, _ => (g, false)
  | some i, none => ({ g with phase := some i, lastChange := now }, true)
  | some i, some p =>
    let d := (i.val + 8 - p.val) % 8
    if d = 0 then (g, false)
    else ({ g.move d with phase := some i, lastChange := now }, true)

/-- A coil step restarts the settle timer of a watch on its gauge (R125). -/
def GaugeCheck.restart (g : Fin 4) (due : Nat) (now : W32) (c : GaugeCheck) : GaugeCheck :=
  if c.gauge = g then { c with due := due + 1000 * c.windowMs, lastStep := some now } else c

/-- A coil event (R115, R119, R125). -/
def Part.takeCoilEvent (n : NestId) (g : Fin 4) (pair : CoilPair) (s : Part) : Part :=
  let s := s.modGauge n g fun x => { x with image := pair }
  if (s.gmn.get n).running then
    let r := (s.gauge n g).decode (patternIndex pair) s.timebase
    let s := s.modGauge n g fun _ => r.1
    if r.2 then s.modGmn n fun u => { u with check := u.check.map (·.restart g s.now s.timebase) } else s
  else s

/-! ### Start and freeze -/

/-- A gauge as its nest enters POWERED (R117). -/
def Gauge.start (now : W32) (g : Gauge) : Gauge :=
  { g with position := 0, sat := false, skips := 0, ambiguous := 0, phase := patternIndex g.image, lastChange := now }

/-- The monitors of a nest start (R117). -/
def Part.startMonitor (n : NestId) (s : Part) : Part :=
  s.modGmn n fun u => { u with running := true, gauges := Bank.build fun g => (u.gauges.get g).start s.timebase }

/-! ### Settling and verdict -/

/-- M − Y (R169). -/
def GaugeCheck.deviation (c : GaugeCheck) (m : W16) : Int := m.toInt - c.expected.toInt

/-- The settle time (R126). -/
def GaugeCheck.settleMs (c : GaugeCheck) : Nat :=
  match c.lastStep with
  | some t => msBetween c.accepted t
  | none => 0

/-- The results of a CHECK_GAUGE, with the gauge as the report finds it (R126, R170). -/
def GaugeCheck.results (c : GaugeCheck) (g : Gauge) : Results :=
  { w11 := place c.e 0 ||| flag (c.mark = .below) 16 ||| flag (c.mark = .above) 17 ||| flag c.windowClamped 18
    w12 := place c.expected 0 ||| place g.position 16
    w13 := BitVec.ofInt 32 (c.deviation g.position)
    w14 := wordOf c.settleMs
    w15 := place g.skips 0 ||| place g.ambiguous 16 }

/-- The verdict of a settled CHECK_GAUGE (R169). -/
def GaugeCheck.verdict (c : GaugeCheck) (g : Gauge) : Verdict × Detail :=
  if g.sat then (.fail, .saturated)
  else if (c.deviation g.position).natAbs ≤ c.tolerance then (.pass, .none) else (.fail, .deviation)

/-- The settle timer expires (R126, R169). -/
def Part.gaugeSettles (n : NestId) (s : Part) : Part :=
  match (s.gmn.get n).check with
  | none => s
  | some c =>
    if !s.reached c.due then s
    else
      let g := s.gauge n c.gauge
      let v := c.verdict g
      (s.modGmn n fun u => { u with check := none }).completeStep n .checkGauge v.1 v.2 (c.results g)

/-- A settle watch ends without settling, with its results kept for the NSQ (R127, R171). -/
def Part.endGaugeCheck (n : NestId) (s : Part) : Part :=
  match (s.gmn.get n).check with
  | none => s
  | some c =>
    (s.modGmn n fun u => { u with check := none }).keepReport n (c.results (s.gauge n c.gauge))

/-- The monitors of a nest freeze where they stand, and a settle watch stops (R118, R127). -/
def Part.freezeMonitor (n : NestId) (s : Part) : Part :=
  (s.modGmn n fun u => { u with running := false }).endGaugeCheck n

/-! ### Hand-offs -/

/-- A gauge zeroed (R123). -/
def Gauge.zero (g : Gauge) : Gauge := { g with position := 0, sat := false, skips := 0, ambiguous := 0 }

/-- GAUGE_ZERO (R123). -/
def Part.handGaugeZero (n : NestId) (st : Step) (s : Part) : Part × Answer :=
  let mask : BitVec 8 := field (st.w 2) 0 8
  if !s.powered n then (s, .refuse .badState)
  else
    (s.modGmn n fun u =>
        { u with gauges := Bank.build fun g => if mask.getLsbD g.val then (u.gauges.get g).zero else u.gauges.get g },
      .pass .zero)

/-- The check record that a CHECK_GAUGE makes (R167, R168). -/
def Part.makeCheck (s : Part) (n : NestId) (st : Step) (g : Fin 4) (source : Fin 6) (points : List TablePoint) :
    GaugeCheck :=
  let e := s.sourceInput n source
  let y := expectedPosition e.toNat points
  let window := st.settleWindow
  { gauge := g, source := source, points := points, e := e, mark := y.2, expected := BitVec.ofInt 16 y.1,
    tolerance := st.tolerance, windowMs := window.1, windowClamped := window.2, accepted := st.accepted,
    due := s.dueInMs window.1, lastStep := none }

/-- CHECK_GAUGE (R166 to R168). -/
def Part.handCheckGauge (n : NestId) (st : Step) (s : Part) : Part × Answer :=
  match indexBelow 4 (field (st.w 2) 0 8), indexBelow 6 (field (st.w 2) 8 8), indexBelow 32 (field (st.w 2) 16 8) with
  | some g, some source, some t =>
    let points := readTable s.mem t.val
    if !tableValid points then (s, .refuse .badTable)
    else if !s.powered n then (s, .refuse .badState)
    else
      let c := s.makeCheck n st g source points
      (s.modGmn n fun u => { u with check := some c }, .started)
  | _, _, _ => (s, .refuse .badOperand)

/-! ### Commands -/

/-- MONITOR_START (R117). -/
def execMonitorStart (n : NestId) (s : State) : Host.Outcome State Fault Refusal :=
  s.act (·.startMonitor n)

/-- MONITOR_FREEZE (R118). -/
def execMonitorFreeze (n : NestId) (s : State) : Host.Outcome State Fault Refusal :=
  s.act (·.freezeMonitor n)

/-- COIL_EVENT (R115, R119). -/
def execCoilEvent (n : NestId) (gauge : Fin 4) (pair : CoilPair) (s : State) : Host.Outcome State Fault Refusal :=
  s.act (·.takeCoilEvent n gauge pair)

/-- GAUGE_SETTLE_EXPIRY (R126, R169). -/
def execGaugeSettleExpiry (n : NestId) (s : State) : Host.Outcome State Fault Refusal :=
  s.act (·.gaugeSettles n)

/-- SETTLE_WATCH_END_REQUEST (R127, R171). -/
def execSettleWatchEndRequest (n : NestId) (s : State) : Host.Outcome State Fault Refusal :=
  s.act (·.endGaugeCheck n)

end Sys2Proof.Machine
end

