-- ==== Sys2Proof/Machine/Lamp.lean ====
section
/-! DEFINITION. Lamps and pulse capture (chapter 7): lamp events, CHECK_LAMPS, pulse edges, CHECK_FREQ. -/

namespace Sys2Proof.Machine

/-! ### Lamps -/

/-- A current or a threshold as it is taken: at most 1,000,000 µA (R129, R131). -/
def microamps (w : W32) : Nat := min w.toNat Config.maxMicroamps

/-- The pattern of a nest: bit `k` is set when lamp `k` is ON against the threshold (R129). -/
def patternOf (currents : Bank 16 Nat) (threshold : Nat) : W16 :=
  (List.finRange 16).foldl (fun p k => if threshold ≤ currents.get k then p ||| 1#16 <<< k.val else p) 0

/-- The mismatch mask of a pattern (R135). -/
def LampWatch.mismatch (w : LampWatch) (pattern : W16) : W16 := (pattern ^^^ w.expected) &&& w.mask

/-- Whether every lamp of the mask shows its expected state (R132). -/
def LampWatch.agrees (w : LampWatch) (pattern : W16) : Bool := w.mismatch pattern = 0

/-- The results of CHECK_LAMPS (R134, R136). -/
def LampWatch.results (w : LampWatch) : Results :=
  { Results.zero with w11 := place w.pattern 0 ||| place (w.mismatch w.pattern) 16, w12 := flag w.windowClamped 0 }

/-- A lamp watch with a new pattern formed at time `now` (R133). A match with a window of 0 has its timer due at
once; `passes` says whether the check passes there. -/
def LampWatch.see (pattern : W16) (now : Nat) (w : LampWatch) : LampWatch :=
  let w := { w with pattern := pattern }
  if w.agrees pattern then
    if w.matching then w else { w with matching := true, stableTimer := some (now + 1000 * w.windowMs) }
  else { w with matching := false, stableTimer := none }

/-- A watch completes at the event that makes it match when its window is 0 (R132, R133). -/
def LampWatch.passes (w : LampWatch) : Bool := w.matching && decide (w.windowMs = 0)

/-- A lamp event (R129, R133). -/
def Part.takeLampEvent (n : NestId) (lamp : Fin 16) (current : W32) (s : Part) : Part :=
  let s := s.modLpc n fun u => { u with currents := u.currents.put lamp (microamps current) }
  match (s.lpc.get n).watch with
  | none => s
  | some w =>
    let w := w.see (patternOf (s.lpc.get n).currents w.threshold) s.now
    if w.passes then
      (s.modLpc n fun u => { u with watch := none }).completeStep n .checkLamps .pass .none w.results
    else s.modLpc n fun u => { u with watch := some w }

/-- CHECK_LAMPS (R131, R132). -/
def Part.handCheckLamps (n : NestId) (st : Step) (s : Part) : Part × Answer :=
  match indexBelow 16 (field (st.w 3) 0 8) with
  | none => (s, .refuse .badOperand)
  | some i =>
    if !s.powered n then (s, .refuse .badState)
    else
      let window := st.stableWindow
      let threshold := microamps (s.word (thresholdAt i.val))
      let w : LampWatch :=
        { matching := false, threshold := threshold, mask := field (st.w 2) 0 16, expected := field (st.w 2) 16 16,
          windowMs := window.1, windowClamped := window.2, stableTimer := none, pattern := 0 }
      let w := w.see (patternOf (s.lpc.get n).currents threshold) s.now
      if w.passes then (s, .pass w.results) else (s.modLpc n fun u => { u with watch := some w }, .started)

/-- The stable timer expires with the watch MATCHING (R134). -/
def Part.lampsStable (n : NestId) (s : Part) : Part :=
  match (s.lpc.get n).watch with
  | none => s
  | some w =>
    if w.matching && s.expired w.stableTimer then
      (s.modLpc n fun u => { u with watch := none }).completeStep n .checkLamps .pass .none w.results
    else s

/-- A lamp watch ends without passing, with its results kept for the NSQ (R136). -/
def Part.endLampWatch (n : NestId) (s : Part) : Part :=
  match (s.lpc.get n).watch with
  | none => s
  | some w => (s.modLpc n fun u => { u with watch := none }).keepReport n w.results

/-! ### Pulse capture -/

def Part.modInput (n : NestId) (i : Fin 4) (f : PulseInput → PulseInput) (s : Part) : Part :=
  s.modLpc n fun u => { u with inputs := u.inputs.modify i f }
def Part.input (s : Part) (n : NestId) (i : Fin 4) : PulseInput := (s.lpc.get n).inputs.get i

/-- The frequency in mHz of a mean of 1 tick or more, at most 4,294,967,295 (R141). -/
def frequencyOf (mean : Nat) : W32 := BitVec.ofNat 32 (min (halfUp 10000000000 mean) 4294967295)

/-- The value of a complete capture with the sum S: the mean, halves up, or the frequency it gives (R141). A mean of 0 has
no frequency: its value is free (log entry 20). -/
def PulseCapture.value (c : PulseCapture) (sum : BitVec 64) : W32 :=
  let mean := halfUp sum.toNat c.target
  if c.width then wordOf mean
  else if mean = 0 then Config.frequencyOfNoTicks sum.toNat c.target else frequencyOf mean

/-- The results of CHECK_FREQ with a value (R141, R142). -/
def PulseCapture.results (c : PulseCapture) (p : PulseInput) (value : W32) : Results :=
  { w11 := value, w12 := wordOf p.collected ||| flag c.targetClamped 8, w13 := p.sum.extractLsb' 0 32,
    w14 := p.sum.extractLsb' 32 32, w15 := 0 }

/-- The verdict of a complete capture on its value (R141). -/
def PulseCapture.verdict (c : PulseCapture) (value : W32) : Verdict × Detail :=
  if c.windowLow ≤ value ∧ value ≤ c.windowHigh then (.pass, .none) else (.fail, .outOfWindow)

/-- The interval counter of an input at tick `t` (R137). -/
def PulseInput.interval (t : Nat) (p : PulseInput) : Nat :=
  match p.start with
  | some first => t - first
  | none => 0

/-- An input whose capture has become IDLE: the interval counter is discarded, and the samples collected and S stand
(R141, R142; log entry 18). -/
def PulseInput.idle (p : PulseInput) : PulseInput := { p with capture := none, start := none }

/-- An edge seen at tick `t` by an input with capture `c` (R139, R140). In PERIOD mode a sample ends at a qualifying
edge, at which the next one begins; in WIDTH mode it ends at an opposite edge, after which the capture is ARMED again
(log entry 18 for the interval counter then). -/
def PulseInput.edge (high : Bool) (t : Nat) (c : PulseCapture) (p : PulseInput) : PulseInput :=
  let qualifying := xor high c.falling
  if c.sampling = false then
    if qualifying then { p with capture := some { c with sampling := true }, start := some t } else p
  else if qualifying = !c.width then
    { p with capture := some { c with sampling := !c.width }, start := if c.width then none else some t
             collected := p.collected + 1, sum := p.sum + BitVec.ofNat 64 (p.interval t) }
  else p

/-- An edge of a pulse input (R137, R139 to R141). -/
def Part.takeEdge (n : NestId) (i : Fin 4) (high : Bool) (s : Part) : Part :=
  let s := s.modInput n i fun p => { p with level := high }
  match (s.input n i).capture with
  | none => s
  | some c =>
    let p := (s.input n i).edge high s.ticks c
    if p.collected = c.target then
      let v := c.verdict (c.value p.sum)
      (s.modInput n i fun _ => p.idle).completeStep n .checkFreq v.1 v.2 (c.results p (c.value p.sum))
    else s.modInput n i fun _ => p

/-- A change of a pulse input's level; a level already held is no edge (R137). By R137 two edges of one input lie at
least 1 tick apart, so that no sample is 0. The model's choice for two that the sender puts in one tick: both are taken,
as DESIGN CHOICE, and a sample, and then the mean, may be 0 (log entries 2 and 20). -/
def Part.takeLevel (n : NestId) (i : Fin 4) (high : Bool) (s : Part) : Part :=
  if (s.input n i).level = high then s else s.takeEdge n i high

/-- CHECK_FREQ (R138). -/
def Part.handCheckFreq (n : NestId) (st : Step) (s : Part) : Part × Answer :=
  match indexBelow 4 (field (st.w 2) 0 8) with
  | none => (s, .refuse .badOperand)
  | some i =>
    if !s.powered n then (s, .refuse .badState)
    else
      let target := st.sampleTarget
      let c : PulseCapture :=
        { sampling := false, width := bitAt (st.w 2) 8, falling := bitAt (st.w 2) 9, target := target.1,
          targetClamped := target.2, windowLow := st.w 3, windowHigh := st.w 4 }
      (s.modInput n i fun p => { p with capture := some c, start := none, collected := 0, sum := 0 }, .started)

/-- The input of a nest that is out of IDLE; there is at most one (section 7.3, note 1). -/
def Watcher.active (u : Watcher) : Option (Fin 4) :=
  (List.finRange 4).find? fun i => (u.inputs.get i).capture.isSome

/-- A capture ends without its Nth sample, with its results kept for the NSQ (R142). -/
def Part.endCapture (n : NestId) (s : Part) : Part :=
  match (s.lpc.get n).active.bind fun i => (s.input n i).capture.map fun c => c.results (s.input n i) 0 with
  | none => s
  | some r =>
    (s.modLpc n fun u => { u with inputs := Bank.build fun i => (u.inputs.get i).idle }).keepReport n r

/-- The nest leaves POWERED (R136, R142). -/
def Part.lpcDeparts (n : NestId) (s : Part) : Part := (s.endLampWatch n).endCapture n

/-! ### Commands -/

/-- LAMP_EVENT (R129, R133). -/
def execLampEvent (n : NestId) (lamp : Fin 16) (current : W32) (s : State) : Host.Outcome State Fault Refusal :=
  s.act (·.takeLampEvent n lamp current)

/-- STABLE_TIMER_EXPIRY (R134). -/
def execStableTimerExpiry (n : NestId) (s : State) : Host.Outcome State Fault Refusal :=
  s.act (·.lampsStable n)

/-- LAMP_WATCH_END_REQUEST (R136). -/
def execLampWatchEndRequest (n : NestId) (s : State) : Host.Outcome State Fault Refusal :=
  s.act (·.endLampWatch n)

/-- LPC_POWER_DEPARTURE (R136, R142). -/
def execLpcPowerDeparture (n : NestId) (s : State) : Host.Outcome State Fault Refusal :=
  s.act (·.lpcDeparts n)

/-- PULSE_EDGE (R137, R139 to R141). -/
def execPulseEdge (n : NestId) (input : Fin 4) (high : Bool) (s : State) : Host.Outcome State Fault Refusal :=
  s.act (·.takeLevel n input high)

/-- CAPTURE_END_REQUEST (R142). -/
def execCaptureEndRequest (n : NestId) (s : State) : Host.Outcome State Fault Refusal :=
  s.act (·.endCapture n)

end Sys2Proof.Machine
end

