-- ==== Sys2Proof/Machine/Fixture.lean ====
section
/-! DEFINITION. The fixture controller (chapter 3): clamp, contacts, lid, supply, power budget and station STOP. -/

namespace Sys2Proof.Machine

/-- w11 of CLAMP and UNCLAMP: the three clamp and lid images (R53, R55). -/
def Part.clampResults (s : Part) (n : NestId) : Results :=
  let f := s.fxc.get n
  { Results.zero with w11 := flag f.clampClosed 0 ||| flag f.clampOpen 1 ||| flag f.lidClosed 2 }

/-- w11 of CONTACT: the contact line images (R53, R58). -/
def Part.contactResults (s : Part) (n : NestId) : Results :=
  { Results.zero with w11 := place (s.fxc.get n).contacts 0 }

/-- The results of the POWER_ON in execution (R61): its clamp marks, and the milliseconds HELD POWER. -/
def Part.powerOnResults (s : Part) (n : NestId) : Results :=
  match (s.fxc.get n).powerOn with
  | none => .zero
  | some p =>
    { Results.zero with w11 := flag p.windowClamped 0 ||| flag p.fuseClamped 1, w12 := wordOf (p.heldMs.getD 0) }

/-- The nests in POWERING (R62). -/
def Part.poweringCount (s : Part) : Nat :=
  ((List.finRange 8).filter fun n => (s.fxc.get n).state = .powering).length

/-! ### Publication of POWERED to the other blocks -/

/-- A nest entering POWERED, as the blocks take it: the bus controller and the gauge monitors start (R54, R94, R117). -/
def Part.enterPowered (n : NestId) (s : Part) : Part := (s.startBus n).startMonitor n

/-- A nest leaving its supplied states, as the blocks take it at that event: stimulus, bus, gauges, lamps and pulse
inputs, converter (R54, R86, R95, R118, R136, R142, R155). That they take it in R54's order is the model's choice (log
entry 17). -/
def Part.leavePowered (n : NestId) (s : Part) : Part :=
  ((((s.enforceIdle n).stopBus n).freezeMonitor n).lpcDeparts n).stopMeasurement n

/-! ### Power budget and supply switch -/

/-- A supply switch closes (R63): limit and criteria sent, comparator enabled, POWERING published, inrush timer
started. -/
def Part.closeSwitch (e : PowerEntry) (s : Part) : Part :=
  let criteria := s.word (criteriaAt e.criteria.toNat)
  let heldMs := msBetween e.accepted s.timebase
  let due := s.dueInMs e.windowMs
  let s := s.modFxc e.nest fun f =>
    { f with fuseLimit := e.fuseLimit, comparator := some criteria, switchClosed := true, inrushTimer := some due,
             powerOn := f.powerOn.map fun p => { p with heldMs := some heldMs } }
  s.publish e.nest .powering

/-- The power budget freed: the head of the power queue is granted, if there is one (R63). -/
def Part.grantPower (s : Part) : Part :=
  match s.powerQueue with
  | [] => s
  | e :: q => (Part.closeSwitch e { s with powerQueue := q }).holdEnd e.nest

/-- A supply switch opens, with its discharge timer started and DISCHARGING shown (R60, R66 to R68, R70, R71). -/
def Part.openSwitch (n : NestId) (s : Part) : Part :=
  let due := s.dueInMs Config.dischargeMs
  let s := s.modFxc n fun f =>
    { f with switchClosed := false, comparator := none, inrushTimer := none, tripArmed := false,
             dischargeTimer := some due }
  s.publish n .discharging

/-- A supplied nest's switch opens and its discharge begins: the blocks take the departure at this event (R54), and a
departure from POWERING frees the power budget (R63). -/
def Part.beginDischarge (n : NestId) (s : Part) : Part :=
  let was := (s.fxc.get n).state
  let s := (s.openSwitch n).leavePowered n
  if was = .powering then s.grantPower else s

/-- An entry's wait ends without a grant: its HELD POWER time is fixed (R61, R64). -/
def Part.fixHeldTime (e : PowerEntry) (s : Part) : Part :=
  let heldMs := msBetween e.accepted s.timebase
  s.modFxc e.nest fun f => { f with powerOn := f.powerOn.map fun p => { p with heldMs := some heldMs } }

/-- The power queue's entry of a nest, if it has one. -/
def Part.powerEntry (s : Part) (n : NestId) : Option PowerEntry := s.powerQueue.find? fun e => e.nest = n

/-- A nest's entry removed from the power queue, without any grant (R64). -/
def Part.withdrawPower (n : NestId) (s : Part) : Part :=
  match s.powerEntry n with
  | none => s
  | some e => Part.fixHeldTime e { s with powerQueue := s.powerQueue.filter fun e => e.nest ≠ n }

/-- The power queue emptied whole at a station STOP (R64, R71). -/
def Part.emptyPowerQueue (s : Part) : Part :=
  let q := s.powerQueue
  q.foldl (fun s e => s.fixHeldTime e) { s with powerQueue := [] }

/-- A POWER_ON ended at its deadline while the nest is POWERING (R66); in any other state nothing changes. -/
def Part.endPowering (n : NestId) (s : Part) : Part :=
  if (s.fxc.get n).state = .powering then s.beginDischarge n else s

/-- The NSQ's power-off request, taken in any state (R68). -/
def Part.requestPowerOff (n : NestId) (s : Part) : Part :=
  if (s.fxc.get n).state.supplied then s.beginDischarge n else s

/-! ### Hand-offs of the fixture step kinds -/

/-- A fixture step handed over in DISCHARGING is remembered against the nest and HELD FIXTURE (R69). -/
def Part.holdFixture (n : NestId) (s : Part) : Part × Answer :=
  (s.modFxc n fun f => { f with heldStep := true }, .held .fixture)

/-- CLAMP (R55). -/
def Part.handClamp (n : NestId) (s : Part) : Part × Answer :=
  let f := s.fxc.get n
  match f.state with
  | .opened =>
    if !f.lidClosed then (s, .refuse .badState)
    else if f.clampClosed then
      let s := (s.modFxc n fun f => { f with drive := .holdingClosed }).publish n .clamped
      (s, .pass (s.clampResults n))
    else
      let due := s.dueInMs Config.motionMs
      ((s.modFxc n fun f => { f with drive := .closing, motionTimer := some due }).publish n .clamping, .started)
  | .discharging => s.holdFixture n
  | _ => (s, .refuse .badState)

/-- UNCLAMP (R57). -/
def Part.handUnclamp (n : NestId) (s : Part) : Part × Answer :=
  let f := s.fxc.get n
  match f.state with
  | .clamped | .contactOk =>
    if f.clampOpen then
      let s := (s.modFxc n fun f => { f with drive := .holdingOpen }).publish n .opened
      (s, .pass (s.clampResults n))
    else
      let due := s.dueInMs Config.motionMs
      ((s.modFxc n fun f => { f with drive := .opening, motionTimer := some due }).publish n .unclamping, .started)
  | .discharging => s.holdFixture n
  | _ => (s, .refuse .badState)

/-- CONTACT (R58): every line of the mask must read closed. -/
def Part.handContact (n : NestId) (st : Step) (s : Part) : Part × Answer :=
  let f := s.fxc.get n
  let mask : BitVec 16 := field (st.w 2) 0 16
  match f.state with
  | .clamped | .contactOk =>
    if f.contacts &&& mask = mask then (s.publish n .contactOk, .pass (s.contactResults n))
    else (s.publish n .clamped, .done .fail .contactOpen (s.contactResults n))
  | .discharging => s.holdFixture n
  | _ => (s, .refuse .badState)

/-- POWER_ON (R61, R62). -/
def Part.handPowerOn (n : NestId) (st : Step) (s : Part) : Part × Answer :=
  let f := s.fxc.get n
  if 15 < st.criteria.toNat then (s, .refuse .badOperand)
  else if f.state = .discharging then
    (s.modFxc n fun f => { f with powerOn := none }).holdFixture n
  else if f.state ≠ .contactOk ∨ f.lidClosed = false then (s, .refuse .badState)
  else
    let window := st.inrushWindow
    let fuse := st.fuseLimit
    let e : PowerEntry := ⟨n, st.sequence, window.1, st.criteria, BitVec.ofNat 16 fuse.1, st.accepted⟩
    let s := s.modFxc n fun f => { f with powerOn := some ⟨window.2, fuse.2, none⟩ }
    if s.poweringCount < Config.powerBudget then (s.closeSwitch e, .started)
    else ({ s with powerQueue := s.powerQueue ++ [e] }, .held .power)

/-- POWER_OFF (R67). -/
def Part.handPowerOff (n : NestId) (s : Part) : Part × Answer :=
  match (s.fxc.get n).state with
  | .powered => (s.beginDischarge n, .started)
  | .contactOk => (s, .pass .zero)
  | .discharging => s.holdFixture n
  | _ => (s, .refuse .badState)

/-- A fixture step handed to the FXC; no other kind is handed to it. -/
def Part.handFixture (n : NestId) (k : Kind) (st : Step) (s : Part) : Part × Answer :=
  match k with
  | .clamp => s.handClamp n
  | .unclamp => s.handUnclamp n
  | .contact => s.handContact n st
  | .powerOn => s.handPowerOn n st
  | .powerOff => s.handPowerOff n
  | _ => (s, .refuse .badKind)

/-! ### Ending a fixture step early -/

/-- A POWER_ON ended or stopped for the NSQ (R64, R66): its queue entry is withdrawn; at a deadline a POWERING nest's
power-up ends, at an abort the power-off request that follows does it; and its results are kept. -/
def Part.endPowerOn (n : NestId) (cause : EndCause) (s : Part) : Part :=
  let s := s.withdrawPower n
  let s := if cause = .deadline then s.endPowering n else s
  if (s.fxc.get n).powerOn.isSome then s.keepReport n (s.powerOnResults n) else s

/-- The FXC ends or stops a fixture step for the NSQ (R33, R34, R46): a FIXTURE hold is forgotten and a power queue
entry withdrawn; a motion or a discharge runs on. The results are kept for the NSQ (log entry 15). -/
def Part.endFixtureStep (n : NestId) (k : Kind) (cause : EndCause) (s : Part) : Part :=
  let s := s.modFxc n fun f => { f with heldStep := false }
  match k with
  | .clamp | .unclamp => s.keepReport n (s.clampResults n)
  | .contact => s.keepReport n (s.contactResults n)
  | .powerOn => s.endPowerOn n cause
  | _ => s

/-! ### Sensors -/

/-- A closing motion reversed into an untimed opening motion (R56, R59, R71). -/
def Part.reverseClamp (n : NestId) (s : Part) : Part :=
  (s.modFxc n fun f => { f with drive := .opening, motionTimer := none }).publish n .unclamping

/-- The clamp-closed sensor becomes active (R56). -/
def Part.clampClosedActive (n : NestId) (s : Part) : Part :=
  let s := s.modFxc n fun f => { f with clampClosed := true }
  if (s.fxc.get n).state = .clamping then
    let s := (s.modFxc n fun f => { f with drive := .holdingClosed, motionTimer := none }).publish n .clamped
    s.completeStep n .clamp .pass .none (s.clampResults n)
  else s

/-- The clamp-open sensor becomes active (R57). -/
def Part.clampOpenActive (n : NestId) (s : Part) : Part :=
  let s := s.modFxc n fun f => { f with clampOpen := true }
  if (s.fxc.get n).state = .unclamping then
    let s := (s.modFxc n fun f => { f with drive := .holdingOpen, motionTimer := none }).publish n .opened
    s.completeStep n .unclamp .pass .none (s.clampResults n)
  else s

/-- The lid opens (R59, R60). -/
def Part.lidOpens (n : NestId) (s : Part) : Part :=
  let s := s.modFxc n fun f => { f with lidClosed := false }
  match (s.fxc.get n).state with
  | .clamping =>
    let s := s.reverseClamp n
    s.completeStep n .clamp .fail .lidOpened (s.clampResults n)
  | .contactOk =>
    let s := s.publish n .clamped
    if (s.powerEntry n).isSome then
      let s := s.withdrawPower n
      s.completeStep n .powerOn .fail .lidOpened (s.powerOnResults n)
    else s
  | .powering | .powered => (s.beginDischarge n).send (.lidAbort n)
  | _ => s

/-- A supply trip: the switch opens and the NSQ is told (R70). -/
def Part.tripSupply (n : NestId) (s : Part) : Part := (s.beginDischarge n).send (.supplyTrip n)

/-- The fuse-trip sensor becomes tripped (R70): acted upon in POWERED alone. -/
def Part.fuseTrips (n : NestId) (s : Part) : Part :=
  let s := s.modFxc n fun f => { f with fuseTripped := true }
  if s.powered n then s.tripSupply n else s

/-- A change of one sensor (R53): the image at once, and the action of the sensor table's last column. -/
def Part.takeSensor (n : NestId) (c : SensorChange) (s : Part) : Part :=
  match c with
  | .clampClosed true => s.clampClosedActive n
  | .clampClosed false => s.modFxc n fun f => { f with clampClosed := false }
  | .clampOpen true => s.clampOpenActive n
  | .clampOpen false => s.modFxc n fun f => { f with clampOpen := false }
  | .lidClosed false => s.lidOpens n
  | .lidClosed true => s.modFxc n fun f => { f with lidClosed := true }
  | .contact i closed =>
    s.modFxc n fun f =>
      { f with contacts := if closed then f.contacts ||| 1#16 <<< i.val else f.contacts &&& ~~~(1#16 <<< i.val) }
  | .supply above => s.modFxc n fun f => { f with supplyAbove := above }
  | .fuse true => s.fuseTrips n
  | .fuse false => s.modFxc n fun f => { f with fuseTripped := false }

/-! ### Timers -/

/-- The motion timer expires (R56, R57). -/
def Part.motionExpires (n : NestId) (s : Part) : Part :=
  if !s.expired (s.fxc.get n).motionTimer then s
  else
    let s := s.modFxc n fun f => { f with motionTimer := none }
    match (s.fxc.get n).state with
    | .clamping =>
      let s := s.reverseClamp n
      let s := s.recordFault n .clampTimeout
      s.completeStep n .clamp .fail .clampTimeout (s.clampResults n)
    | .unclamping =>
      let s := s.recordFault n .clampTimeout
      s.completeStep n .unclamp .fail .clampTimeout (s.clampResults n)
    | _ => s

/-- The inrush timer expires in POWERING: the supply check (R65), and a supply trip at once if the fuse-trip image
already reads tripped (R70). -/
def Part.inrushExpires (n : NestId) (s : Part) : Part :=
  let f := s.fxc.get n
  if !s.expired f.inrushTimer then s
  else
    let s := s.modFxc n fun f => { f with inrushTimer := none }
    if f.state ≠ .powering then s
    else if f.supplyAbove then
      let s := ((s.modFxc n fun f => { f with tripArmed := true }).publish n .powered).enterPowered n
      let s := s.completeStep n .powerOn .pass .none (s.powerOnResults n)
      let s := s.grantPower
      if f.fuseTripped then s.tripSupply n else s
    else
      let r := s.powerOnResults n
      (s.beginDischarge n).completeStep n .powerOn .fail .supplyLow r

/-- A step HELD FIXTURE taken again as a new hand-off in CONTACT_OK (R27, R69). An end at once reaches the NSQ as the
owner's outcome. -/
def Part.reexamine (n : NestId) (s : Part) : Part :=
  let s := s.modFxc n fun f => { f with heldStep := false }
  match (s.nsq.get n).step with
  | none => s
  | some st =>
    match st.kind with
    | none => s
    | some k =>
      match s.handFixture n k st with
      | (s, .done v d r) => (s.holdEnd n).sendOutcome n v d r
      | (s, .started) => s.holdEnd n
      | (s, .held why) => s.holdFor n why

/-- The discharge timer expires (R68). While station STOP stands against the nest, a step HELD FIXTURE is not taken
again, since that is a hand-off (R69, R72): it stays HELD (log entry 19). -/
def Part.dischargeExpires (n : NestId) (s : Part) : Part :=
  if !s.expired (s.fxc.get n).dischargeTimer then s
  else
    let s := s.modFxc n fun f => { f with dischargeTimer := none }
    if (s.fxc.get n).state ≠ .discharging then s
    else
      let s := s.publish n .contactOk
      let s := if (s.nsq.get n).state = .running then s.completeStep n .powerOff .pass .none .zero else s
      if (s.fxc.get n).heldStep && !s.underStop n then s.reexamine n else s

/-! ### The STOP input -/

/-- The nests whose supply switch is closed, by their fixture states (R59). -/
def Part.suppliedNests (s : Part) : List NestId :=
  (List.finRange 8).filter fun n => (s.fxc.get n).state.supplied

/-- Station STOP (R71). Every supplied nest's switch opens before any block takes a departure (R156). The rule gives no
order among the nests: the model goes from nest 0 to nest 7, for the departures and for the notices, and sends the
panel's notice last (log entry 17). -/
def Part.takeStop (s : Part) : Part :=
  let s := { s with station := .stopped, stopPressed := true }
  let s := (s.put stationAt s.stationWord).setFactor factorStop
  let s := s.emptyPowerQueue
  let supplied := s.suppliedNests
  let s := supplied.foldl (fun s n => s.openSwitch n) s
  let s := supplied.foldl (fun s n => s.leavePowered n) s
  let s := (List.finRange 8).foldl
    (fun s n => if (s.fxc.get n).state = .clamping then s.reverseClamp n else s) s
  let s := s.offerFault 8 .stationStop none
  let s := (List.finRange 8).foldl (fun s n => s.send (.stationStop n)) s
  s.send .panelStop

/-- A change of the STOP input (R71, R72): a press with the station in RUN is a station STOP, any other change is
written to the level field of STATION alone. -/
def Part.takeStopInput (pressed : Bool) (s : Part) : Part :=
  if pressed && decide (s.station = .run) then s.takeStop
  else
    let t := { s with stopPressed := pressed }
    if t.stationWord = s.stationWord then t else t.put stationAt t.stationWord

/-- RESUME (R19, R72). -/
def Part.takeResume (s : Part) : Part :=
  if s.station = .stopped ∧ s.stopPressed = false then
    let s := { s with station := .run }
    s.put stationAt s.stationWord
  else s

/-- A fixture after a reset (R73): switch open, drive held where it stands, timers stopped, images as their inputs
read (log entry 7), state from the clamp-closed image. -/
def Fixture.recover (f : Fixture) : Fixture :=
  { Reset.fixture with
    state := if f.clampClosed then .clamped else .opened
    drive := match f.drive with
      | .closing | .opening => .holdingStill
      | d => d
    clampClosed := f.clampClosed, clampOpen := f.clampOpen, lidClosed := f.lidClosed, contacts := f.contacts,
    supplyAbove := f.supplyAbove, fuseTripped := f.fuseTripped }

/-! ### Commands -/

/-- CLAMP_CLOSED_SENSOR (R56). -/
def execClampClosedSensor (n : NestId) (s : State) : Host.Outcome State Fault Refusal :=
  s.act (·.clampClosedActive n)

/-- CLAMP_OPEN_SENSOR (R57). -/
def execClampOpenSensor (n : NestId) (s : State) : Host.Outcome State Fault Refusal :=
  s.act (·.clampOpenActive n)

/-- MOTION_TIMER_EXPIRY (R56, R57). -/
def execMotionTimerExpiry (n : NestId) (s : State) : Host.Outcome State Fault Refusal :=
  s.act (·.motionExpires n)

/-- LID_OPENING (R59, R60). -/
def execLidOpening (n : NestId) (s : State) : Host.Outcome State Fault Refusal :=
  s.act (·.lidOpens n)

/-- SENSOR_IMAGE_CHANGE (R53). -/
def execSensorImageChange (n : NestId) (change : SensorChange) (s : State) : Host.Outcome State Fault Refusal :=
  s.act (·.takeSensor n change)

/-- FUSE_TRIP (R70). -/
def execFuseTrip (n : NestId) (s : State) : Host.Outcome State Fault Refusal :=
  s.act (·.fuseTrips n)

/-- INRUSH_TIMER_EXPIRY (R65). -/
def execInrushTimerExpiry (n : NestId) (s : State) : Host.Outcome State Fault Refusal :=
  s.act (·.inrushExpires n)

/-- POWER_ON_END_REQUEST (R66). -/
def execPowerOnEndRequest (n : NestId) (s : State) : Host.Outcome State Fault Refusal :=
  s.act (·.endPowering n)

/-- POWER_OFF_REQUEST (R68). -/
def execPowerOffRequest (n : NestId) (s : State) : Host.Outcome State Fault Refusal :=
  s.act (·.requestPowerOff n)

/-- POWER_QUEUE_WITHDRAWAL (R64). -/
def execPowerQueueWithdrawal (n : NestId) (cause : EndCause) (s : State) : Host.Outcome State Fault Refusal :=
  s.act (·.endPowerOn n cause)

/-- DISCHARGE_TIMER_EXPIRY (R68, R69). -/
def execDischargeTimerExpiry (n : NestId) (s : State) : Host.Outcome State Fault Refusal :=
  s.act (·.dischargeExpires n)

/-- STATION_STOP (R71): the STOP input becomes pressed. -/
def execStationStop (s : State) : Host.Outcome State Fault Refusal :=
  s.act (·.takeStopInput true)

/-- STOP_LEVEL_CHANGE (R72). -/
def execStopLevelChange (pressed : Bool) (s : State) : Host.Outcome State Fault Refusal :=
  s.act (·.takeStopInput pressed)

end Sys2Proof.Machine
end

