-- ==== Sys2Proof/Machine/Panel.lean ====
section
/-! DEFINITION. The operator panel controller (chapter 10): panel link, buttons, lamps, prompt queue and PROMPT. -/

namespace Sys2Proof.Machine

/-! ### The prompt queue -/

/-- The head entry of the prompt queue. -/
def Part.headEntry (s : Part) : Option PromptEntry := s.opc.prompts.head?

/-- The prompt entry of a nest, if it has one. -/
def Part.promptEntry (s : Part) (n : NestId) : Option PromptEntry := s.opc.prompts.find? fun e => e.nest = n

/-- The head entry changed. -/
def Part.modHead (f : PromptEntry → PromptEntry) (s : Part) : Part :=
  s.modOpc fun o => { o with prompts := o.prompts.modifyHead f }

/-- The results of a PROMPT with an answer code at time `now` (R184, R185, R188). -/
def PromptEntry.results (e : PromptEntry) (answer : W32) (now : W32) : Results :=
  let waited := match e.firstShown with
    | some t => msBetween t now
    | none => 0
  { Results.zero with w11 := answer ||| wordOf e.repeats <<< 8, w12 := wordOf waited, w13 := e.marks }

/-! ### The panel link -/

/-- A lamp byte of a poll: the codes of four nests from nest `first` up, two bits each (R178). -/
def lampByte (lamps : Bank 8 Lamp) (first : Fin 5) : Byte :=
  (List.finRange 4).foldl
    (fun b k => b ||| lampCode (lamps.get ⟨first.val + k.val, by omega⟩) <<< (2 * k.val)) 0

/-- The bytes of a poll, with the lamps as they stand (panel link bytes; R178). -/
def Panel.pollBytes (p : Panel) : List Byte := [0x71, lampByte p.lamps 0, lampByte p.lamps 4, 0]

/-- The CLEAR command (panel link bytes). -/
def clearByte : Byte := 0x7E

/-- The SHOW command for a nest (R174). -/
def showByte (n : NestId) : Byte := 0x80 + BitVec.ofNat 8 n.val

/-- A transfer started with its first byte in shift and the bytes that follow (R173). -/
def Part.startTransfer (kind : Link) (first : Byte) (rest : List Byte) (s : Part) : Part :=
  let due := s.dueIn Config.byteUs
  s.modOpc fun o =>
    { o with link := kind, shift := some first, buffered := rest.head?, rest := rest.tail, cursor := none, index := 0,
             cut := false, byteTimer := some due }

/-- A text byte loaded into the buffer, read from exchange memory at this event (R174). -/
def Part.loadText (c : TextCursor) (s : Part) : Part :=
  if c.loaded < 64 then
    let b := s.mem.byte (textByteAt c.text.toNat c.loaded)
    s.modOpc fun o => { o with buffered := some b, cursor := some { c with loaded := c.loaded + 1 } }
  else s.modOpc fun o => { o with buffered := none }

/-- The buffer is empty: the following byte of the transfer is loaded, if there is one (R173). -/
def Part.loadNext (s : Part) : Part :=
  match s.opc.cursor with
  | some c => s.loadText c
  | none => s.modOpc fun o => { o with buffered := o.rest.head?, rest := o.rest.tail }

/-- The text transfer of the head entry starts (R175, R183). -/
def Part.startText (e : PromptEntry) (s : Part) : Part :=
  let s := (s.startTransfer .text (showByte e.nest) []).modOpc fun o => { o with clearPending := false }
  let s := (s.loadText ⟨e.nest, e.text, 0⟩).modHead fun e => { e with state := .sending }
  s.holdEnd e.nest

/-- The link, if it is IDLE, starts the first transfer that applies (R175). Where a PROMPT is handed over while the
transfer that a device reset has cut still shifts its byte, R175's order holds at that byte's end: the text starts and
the pending CLEAR is dropped, against R179's "the first complete transfer after a reset is a clear" (log entry 11). -/
def Part.linkStart (s : Part) : Part :=
  if s.opc.link ≠ .idle then s
  else if s.opc.pollPending then
    match s.opc.pollBytes with
    | b :: bs => (s.startTransfer .poll b bs).modOpc fun o => { o with pollPending := false }
    | [] => s
  else
    let clear (s : Part) : Part :=
      if s.opc.clearPending then
        (s.startTransfer .clear clearByte []).modOpc fun o => { o with clearPending := false }
      else s
    match s.headEntry with
    | some e => if e.state = .queued then s.startText e else clear s
    | none => clear s

/-- A text transfer is cut: the buffered byte is discarded and no further byte is loaded (R174). -/
def Panel.cutText (p : Panel) : Panel := if p.link = .text then { p with buffered := none, cut := true } else p

/-- A REPLAYING entry leaves the prompt queue: its replay ends, and a report on it that is still on its way is late (R91,
R187). -/
def Part.abandonReplay (n : NestId) (s : Part) : Part := (s.endReplay n).markLate (Notice.isReplayReportOf n)

/-- An entry leaves the prompt queue; the removal of the head frees the panel (R181). -/
def Part.removeEntry (n : NestId) (s : Part) : Part :=
  let wasHead := s.headEntry.filter fun e => e.nest = n
  let s := s.modOpc fun o => { o with prompts := o.prompts.filter fun e => e.nest ≠ n }
  match wasHead with
  | none => s
  | some e =>
    let s := match e.state with
      | .sending => s.modOpc Panel.cutText
      | .replaying => s.abandonReplay n
      | _ => s
    let s := s.modOpc fun o => { o with clearPending := o.clearPending || o.prompts.isEmpty }
    s.linkStart

/-! ### PROMPT -/

/-- The entry that a PROMPT makes (R182). -/
def promptEntryOf (n : NestId) (st : Step) : PromptEntry :=
  let timeout := st.answerTimeout
  let gap := st.replayGap
  let limit := st.repeatLimit
  { nest := n, sequence := st.sequence, state := .queued, text := field (st.w 2) 0 8, timeoutS := timeout.1,
    repeatLimit := limit.1, replayMask := field (st.w 2) 16 6, gapMs := gap.1, code := field (st.w 4) 0 16,
    repeats := 0, firstShown := none, answerTimer := none,
    marks := flag timeout.2 0 ||| flag gap.2 1 ||| flag limit.2 2 }

/-- PROMPT (R182). A transfer that a reset left waiting starts before the entry is made (R179; log entry 11). -/
def Part.handPrompt (n : NestId) (st : Step) (s : Part) : Part × Answer :=
  let s := s.linkStart.modOpc fun o => { o with prompts := o.prompts ++ [promptEntryOf n st] }
  let s := s.linkStart
  match s.promptEntry n with
  | some e => if e.state = .queued then (s, .held .panel) else (s, .started)
  | none => (s, .started)

/-! ### Buttons and answers -/

/-- What the operator answers at one sample (R177). -/
inductive Press where
  | pass | fail | again
  deriving DecidableEq, Repr

/-- A button's acceptance state after a sample, and whether its press is accepted there (R176). -/
def Button.sample (pressed : Bool) : Button → Button × Bool
  | .idle => (if pressed then .pending else .idle, false)
  | .pending => if pressed then (.latched, true) else (.idle, false)
  | .latched => (if pressed then .latched else .idle, false)

/-- The answer of one sample: FAIL before PASS before REPEAT (R177). -/
def pressOf (pass fail again : Bool) : Option Press :=
  if fail then some .fail else if pass then some .pass else if again then some .again else none

/-- The results of R188 as they stand at an entry's removal, kept for the NSQ: answer 0 (log entry 15). -/
def Part.keepUnanswered (e : PromptEntry) (s : Part) : Part := s.keepReport e.nest (e.results 0 s.timebase)

/-- The step of the head entry is answered (R184). Should the NSQ end the step otherwise before it takes the outcome,
the results are those of a withdrawal that finds no entry (R188). -/
def Part.answerHead (e : PromptEntry) (pass : Bool) (s : Part) : Part :=
  let s := s.modHead fun e => { e with answerTimer := none }
  let r := e.results (if pass then 1 else 2) s.timebase
  let s := if pass then s.completeStep e.nest .prompt .pass .none r
    else s.completeStep e.nest .prompt .fail .operator r
  (s.keepUnanswered e).removeEntry e.nest

/-- A REPEAT for the SHOWN head entry (R186). -/
def Part.repeatHead (e : PromptEntry) (s : Part) : Part :=
  if e.repeats < e.repeatLimit ∧ e.replayMask ≠ 0 ∧ s.powered e.nest then
    match s.startReplay e.nest e.replayMask e.gapMs e.code with
    | (s, true) =>
      s.modHead fun e => { e with answerTimer := none, repeats := e.repeats + 1, state := .replaying }
    | (s, false) => s
  else s

/-- An answer event, which goes to the head entry if it is SHOWN (R177). -/
def Part.takePress (p : Press) (s : Part) : Part :=
  match s.headEntry with
  | none => s
  | some e =>
    if e.state = .shown then
      match p with
      | .pass => s.answerHead e true
      | .fail => s.answerHead e false
      | .again => s.repeatHead e
    else s

/-- A button sample (R176, R177). -/
def Part.sampleButtons (image : Byte) (s : Part) : Part :=
  let p := s.opc.buttonPass.sample (image.getLsbD 0)
  let f := s.opc.buttonFail.sample (image.getLsbD 1)
  let r := s.opc.buttonRepeat.sample (image.getLsbD 2)
  let s := s.modOpc fun o => { o with buttonPass := p.1, buttonFail := f.1, buttonRepeat := r.1 }
  match pressOf p.2 f.2 r.2 with
  | some a => s.takePress a
  | none => s

/-! ### Events -/

/-- An entry shown, with its answer timer started (R183, R187). -/
def PromptEntry.show (now : Nat) (e : PromptEntry) : PromptEntry :=
  { e with state := .shown, firstShown := some (e.firstShown.getD (wordOf now))
           answerTimer := some (now + 1000000 * e.timeoutS) }

/-- The end of the text transfer of an entry still SENDING makes it SHOWN (R183). -/
def Part.endText (s : Part) : Part :=
  match s.headEntry with
  | some e => if e.state = .sending then s.modHead (·.show s.now) else s
  | none => s

/-- The transfer end (R173), with the button sample of a poll's fourth byte and the SHOWN of a text (R176, R183). A cut
transfer gives neither (R174, R179). -/
def Part.endTransfer (returned : Byte) (s : Part) : Part :=
  let o := s.opc
  let s := s.modOpc fun o =>
    { o with link := .idle, shift := none, buffered := none, rest := [], cursor := none, index := 0, cut := false,
             byteTimer := none }
  let s :=
    if o.cut then s
    else
      match o.link with
      | .poll => if o.index = 3 then s.sampleButtons returned else s
      | .text => s.endText
      | _ => s
  s.linkStart

/-- The end of a byte's shift (R173). -/
def Part.endByte (returned : Byte) (s : Part) : Part :=
  if s.opc.link = .idle then s
  else
    match s.opc.buffered with
    | some b =>
      let due := s.dueIn Config.byteUs
      let s := s.modOpc fun o =>
        { o with shift := some b, buffered := none, index := o.index + 1, byteTimer := some due }
      s.loadNext
    | none => s.endTransfer returned

/-- A due time of the poll timer, once it is reached (R175). -/
def Part.takePollDue (s : Part) : Part :=
  if !s.reached s.opc.pollTimer then s
  else
    (s.linkStart.modOpc fun o =>
      { o with pollTimer := o.pollTimer + Config.pollUs, pollPending := true }).linkStart

/-- The answer timer of the SHOWN head entry expires (R185). -/
def Part.answerExpires (s : Part) : Part :=
  match s.headEntry with
  | none => s
  | some e =>
    if e.state = .shown ∧ s.expired e.answerTimer then
      let s := s.modHead fun e => { e with answerTimer := none }
      let s := s.completeStep e.nest .prompt .timeout .noAnswer (e.results 0 s.timebase)
      s.removeEntry e.nest
    else s

/-- Whether the head entry is a REPLAYING entry of the nest (R187). -/
def Part.replaying (s : Part) (n : NestId) : Bool :=
  s.headEntry.any fun e => decide (e.nest = n) && decide (e.state = .replaying)

/-- The STU reports the replay ended (R187). -/
def Part.takeReplayEnded (n : NestId) (s : Part) : Part :=
  if s.replaying n then s.modHead (·.show s.now) else s

/-- The STU reports the replay cut (R187): the entry stays REPLAYING with its answer timer stopped. -/
def Part.takeReplayCut (n : NestId) (s : Part) : Part :=
  if s.replaying n then s.modHead fun e => { e with answerTimer := none } else s

/-- A nest's PROMPT withdrawn for the NSQ, with its results kept (R188). -/
def Part.withdrawPrompt (n : NestId) (s : Part) : Part :=
  match s.promptEntry n with
  | none => s
  | some e => (s.keepUnanswered e).removeEntry n

/-- An entry removed by the station STOP, with its results kept for the NSQ (R189). -/
def Part.dropEntry (s : Part) (e : PromptEntry) : Part :=
  let s := s.keepUnanswered e
  match e.state with
  | .sending => s.modOpc Panel.cutText
  | .replaying => s.abandonReplay e.nest
  | _ => s

/-- The station STOP at the OPC (R189). DEDUCED: a CLEAR that a reset has left pending and the link has not started is not
started first, as `handPrompt` and `takePollDue` start it; the STOP's CLEAR and it are one (R73, R179; log entry 11).
DESIGN CHOICE: every entry is removed, also one whose PROMPT was handed over after a RESUME, while this STOP was still
on its way; its step stays in execution until its deadline or another event ends it (log entry 19). -/
def Part.stopPanel (s : Part) : Part :=
  let s := s.opc.prompts.foldl Part.dropEntry s
  (s.modOpc fun o => { o with prompts := [], clearPending := true }).linkStart

/-- The panel controller after a device reset (R179): a transfer in progress ends cut after its byte in shift. -/
def Panel.recover (now : Nat) (p : Panel) : Panel :=
  if p.link = .idle then Reset.panel
  else
    { Reset.panel with
      link := p.link, shift := p.shift, cut := true, byteTimer := p.byteTimer.map fun due => due - now }

/-! ### Commands -/

/-- POLL_DUE (R175). -/
def execPollDue (s : State) : Host.Outcome State Fault Refusal :=
  s.act (·.takePollDue)

/-- BYTE_END (R173). -/
def execByteEnd (returned : Byte) (s : State) : Host.Outcome State Fault Refusal :=
  s.act (·.endByte returned)

/-- ANSWER_TIMER_EXPIRY (R185). -/
def execAnswerTimerExpiry (s : State) : Host.Outcome State Fault Refusal :=
  s.act (·.answerExpires)

/-- REPLAY_ENDED_REPORT (R187). -/
def execReplayEndedReport (n : NestId) (s : State) : Host.Outcome State Fault Refusal :=
  s.act (·.receive (.replayEnded n) (·.takeReplayEnded n))

/-- REPLAY_CUT_REPORT (R187). -/
def execReplayCutReport (n : NestId) (s : State) : Host.Outcome State Fault Refusal :=
  s.act (·.receive (.replayCut n) (·.takeReplayCut n))

/-- PROMPT_WITHDRAWAL (R188). -/
def execPromptWithdrawal (n : NestId) (s : State) : Host.Outcome State Fault Refusal :=
  s.act (·.withdrawPrompt n)

/-- PANEL_STATION_STOP (R189). -/
def execPanelStationStop (s : State) : Host.Outcome State Fault Refusal :=
  s.act fun s => (s.took .panelStop).stopPanel

end Sys2Proof.Machine
end

