-- ==== Sys2Proof/Machine/Sequencer.lean ====
section
/-! DEFINITION. The nest sequencers (chapters 1 and 2): posting, fetch, acceptance, hand-off, retirement, deadlines,
supply trips and nest aborts. -/

namespace Sys2Proof.Machine

/-- Word `k` of a step's slot written. -/
def Part.putSlot (st : Step) (k : Nat) (v : W32) (s : Part) : Part := s.put (slotAt st.slot.toNat k) v

/-! ### Retirement -/

/-- Steps 1 to 4 of the retire order: results, timestamps, and w8 FINAL (R14, R16). -/
def Part.writeFinal (st : Step) (v : Verdict) (d : Detail) (r : Results) (s : Part) : Part :=
  let s := ((s.putSlot st 11 r.w11).putSlot st 12 r.w12).putSlot st 13 r.w13
  let s := (s.putSlot st 14 r.w14).putSlot st 15 r.w15
  ((s.putSlot st 9 st.accepted).putSlot st 10 s.timebase).putSlot st 8 (finalWord v d)

/-- SKIPPING mode after a retirement (R41, R43): off at a UNIT_BEGIN or a UNIT_END, then on at a CRITICAL step that
did not pass. -/
def skippingAfter (st : Step) (v : Verdict) (skipping : Bool) : Bool :=
  let failed := match v with
    | .fail | .timeout | .refused => true
    | _ => false
  (skipping && !(st.isKind .unitBegin || st.isKind .unitEnd)) || (st.critical && failed)

/-- SKIPPING mode set, with NEST_STATE written if it changed (R41, R43). -/
def Part.setSkipping (n : NestId) (on : Bool) (s : Part) : Part :=
  s.track n fun s => s.modNsq n fun q => { q with skipping := on }

/-- What the owners keep for a step until it retires is dropped, and an outcome of it that is still on its way is late
(R28, R45, R61, chapter 8). -/
def Part.forgetStep (n : NestId) (s : Part) : Part :=
  let s := (s.modFxc n fun f => { f with powerOn := none }).modPcv fun c => { c with records := c.records.put n none }
  s.markLate (Notice.isOutcomeOf n)

/-- The retirement of the step in execution (R14, R28, R39, R41, R43). -/
def Part.retire (n : NestId) (v : Verdict) (d : Detail) (r : Results) (s : Part) : Part :=
  match (s.nsq.get n).step with
  | none => s
  | some st =>
    let s := (s.writeFinal st v d r).countStep n st v
    let s := s.setSkipping n (skippingAfter st v (s.nsq.get n).skipping)
    let s := s.modNsq n fun q =>
      { q with retired := some st.sequence, step := none, deadline := none, waitTimer := none, report := none,
               unhanded := false }
    let s := (s.forgetStep n).putNest n 4 (seqWord (some st.sequence))
    let s := s.putNest n 5 (seqWord none)
    if st.notify || st.isKind .unitEnd then s.setFactor (factorNotify n) else s

/-! ### Acceptance and hand-off -/

/-- The distance from RETIRED to the posted limit; 0 where one of them is absent (R10). -/
def Nsq.ahead (q : Nsq) : Nat :=
  match q.retired, q.limit with
  | some r, some l => seqDistance r l
  | _, _ => 0

/-- The slot that the next fetch reads, if it passes both checks (R11). -/
def Part.fetch (s : Part) (n : NestId) : Option W16 :=
  match (s.nsq.get n).position, (s.nsq.get n).retired with
  | some p, some r =>
    if p.toNat < Config.slotCount ∧ field (s.word (slotAt p.toNat 0)) 0 16 = r + 1 then some p else none
  | _, _ => none

/-- The snapshot of slot `p`, accepted now (R12). -/
def Part.snapshot (s : Part) (p : W16) : Step :=
  ⟨p, Bank.build fun k => s.word (slotAt p.toNat k.val), s.timebase⟩

/-- The acceptance of a step (R12, R26, R32): w9, w8, CURRENT, the chain position, the deadline timer, NEST_STATE. -/
def Part.accept (n : NestId) (st : Step) (s : Part) : Part :=
  let s := (s.putSlot st 9 st.accepted).putSlot st 8 acceptedWord
  let s := s.putNest n 5 (seqWord (some st.sequence))
  let due := s.dueInMs st.deadlineMs
  let s := s.modNsq n fun q =>
    { q with step := some st, position := some st.nextSlot, state := .running, hold := .none, deadline := some due,
             waitTimer := none, report := none, unhanded := false }
  s.writeNestState n

/-- The step handed to the block that owns its kind (section 2.2). UNIT_BEGIN, UNIT_END and WAIT are not handed
over. -/
def Part.handOff (n : NestId) (k : Kind) (st : Step) (s : Part) : Part × Answer :=
  match k with
  | .unitBegin | .unitEnd | .wait => (s, .refuse .badKind)
  | .clamp | .contact | .powerOn | .powerOff | .unclamp => s.handFixture n k st
  | .setPulse => s.handSetPulse n st
  | .setSender => s.handSetSender n st
  | .setLines => s.handSetLines n st
  | .frameRun => s.handFrameRun n st
  | .frameLoad => s.handFrameLoad n st
  | .captureArm => s.handCaptureArm n st
  | .checkFrame => s.handCheckFrame n st
  | .gaugeZero => s.handGaugeZero n st
  | .checkGauge => s.handCheckGauge n st
  | .checkLamps => s.handCheckLamps n st
  | .checkFreq => s.handCheckFreq n st
  | .measure => s.handMeasure n st
  | .prompt => s.handPrompt n st

/-- UNIT_BEGIN (R38). -/
def Part.beginUnit (n : NestId) (st : Step) (s : Part) : Part × Results :=
  let wasOpen := decide ((s.nsq.get n).unit.state = .opened)
  let s := if wasOpen then s.closeUnit n .error else s
  (s.openUnit n (st.w 2), { Results.zero with w11 := flag wasOpen 0 })

/-- The state in which UNIT_END closes a unit (R40). -/
def UnitRecord.verdict (u : UnitRecord) : UnitState :=
  if u.error ≠ 0 then .error else if u.fail ≠ 0 then .fail else .pass

/-- UNIT_END (R40). -/
def Part.endUnit (n : NestId) (s : Part) : Part × Verdict × Detail × Results :=
  let u := (s.nsq.get n).unit
  if u.state = .opened then
    (s.closeUnit n u.verdict, .pass, .none,
      { w11 := unitCode u.verdict, w12 := u.countsA, w13 := u.countsB, w14 := seqWord u.firstFail, w15 := 0 })
  else (s, .refused, .noUnit, { Results.zero with w14 := seqWord none })

/-- WAIT (R36). -/
def Part.beginWait (n : NestId) (st : Step) (s : Part) : Part :=
  let due := s.dueInMs (st.w 2).toNat
  s.modNsq n fun q => { q with waitTimer := some due }

/-- Whether SKIPPING mode retires the step unperformed (R26, R42). -/
def Part.skips (s : Part) (n : NestId) (st : Step) : Bool :=
  (s.nsq.get n).skipping && !st.always && !(st.isKind .unitBegin || st.isKind .unitEnd)

/-- A step that is not handed over, because station STOP stands against the nest (R72, R189). It stays in execution until
the STOP's notice retires it, or its deadline (log entry 19). -/
def Part.keepBack (n : NestId) (s : Part) : Part := s.modNsq n fun q => { q with unhanded := true }

/-- The course of an accepted step (R26): the verdict that retires it at its acceptance, or none where its owner has
started or held it. -/
def Part.perform (n : NestId) (st : Step) (s : Part) : Part × Option (Verdict × Detail × Results) :=
  if s.skips n st then (s, some (.skipped, .none, .zero))
  else
    match st.kind with
    | none => (s, some (.refused, .badKind, .zero))
    | some .unitBegin =>
      let r := s.beginUnit n st
      (r.1, some (.pass, .none, r.2))
    | some .unitEnd =>
      let r := s.endUnit n
      (r.1, some r.2)
    | some .wait => if st.w 2 = 0 then (s, some (.pass, .none, .zero)) else (s.beginWait n st, none)
    | some k =>
      if k.barredByStop && s.underStop n then (s.keepBack n, none)
      else
        match s.handOff n k st with
        | (s, .done v d r) => (s, some (v, d, r))
        | (s, .started) => (s, none)
        | (s, .held why) => (s.holdFor n why, none)

/-! ### Following the chain -/

/-- The sequencer state set, with no hold, and NEST_STATE written if it changed (R4). -/
def Part.setSeqState (n : NestId) (q : SeqState) (s : Part) : Part :=
  s.track n fun s => s.modNsq n fun x => { x with state := q, hold := .none }

/-- CHAIN_BROKEN (R7, R11, R49). -/
def Part.breakChain (n : NestId) (s : Part) : Part :=
  let s := (s.recordFault n .chainBroken).modNsq n fun q => { q with position := none }
  s.setSeqState n .faulted

/-- The nest follows its chain (R10): it fetches and performs one step after another until one does not retire at its
acceptance, a fetch fails, or no posted step is left. The argument is the distance from RETIRED to the posted limit,
which each retirement shortens by 1. -/
def Part.follow (n : NestId) : Nat → Part → Part
  | 0, s => s.setSeqState n .waiting
  | k + 1, s =>
    match s.fetch n with
    | none => s.breakChain n
    | some p =>
      let st := s.snapshot p
      match (s.accept n st).perform n st with
      | (s, some (v, d, r)) => Part.follow n k (s.retire n v d r)
      | (s, none) => s

/-- The nest goes on after a retirement (R10, R14). -/
def Part.goOn (n : NestId) (s : Part) : Part := s.follow n (s.nsq.get n).ahead

/-- The step in execution retires and the nest goes on (R14, R28). -/
def Part.finish (n : NestId) (v : Verdict) (d : Detail) (r : Results) (s : Part) : Part := (s.retire n v d r).goOn n

/-! ### POST events -/

/-- The posted limit set, with LIMIT written (R7 to R9). -/
def Part.setLimit (n : NestId) (limit : W16) (s : Part) : Part :=
  (s.modNsq n fun q => { q with limit := some limit }).putNest n 6 (seqWord (some limit))

/-- Whether a distance lies in the posting window (R7 to R9). -/
def inWindow (distance : Nat) : Bool := decide (1 ≤ distance) && decide (distance ≤ Config.postWindow)

/-- A chain start (R7). -/
def Part.startChain (n : NestId) (post : W16) (s : Part) : Part :=
  let head := s.word (nestAt n 0)
  if Config.slotCount ≤ head.toNat then s.breakChain n
  else
    let retired : W16 := field (s.word (slotAt head.toNat 0)) 0 16 - 1
    let s := (s.modNsq n fun q => { q with retired := some retired }).putNest n 4 (seqWord (some retired))
    let distance := seqDistance retired post
    if inWindow distance then
      let s := (s.setLimit n post).modNsq n fun q => { q with position := some (field head 0 16) }
      s.follow n distance
    else s.setFactor factorPostRange

/-- A POST event in STOPPED under station STOP (R8). -/
def Part.postUnderStop (n : NestId) (post : W16) (s : Part) : Part :=
  match (s.nsq.get n).retired with
  | none => s.setLimit n post
  | some r =>
    let distance := seqDistance r post
    if inWindow distance then s.setLimit n post
    else if distance = 0 then s else s.setFactor factorPostRange

/-- A POST event while a chain is known (R9, R10). -/
def Part.changeLimit (n : NestId) (post : W16) (s : Part) : Part :=
  match (s.nsq.get n).retired with
  | none => s
  | some r =>
    let distance := seqDistance r post
    if inWindow distance then
      let s := s.setLimit n post
      if (s.nsq.get n).state = .waiting then s.follow n distance else s
    else if distance = 0 then s else s.setFactor factorPostRange

/-- A POST event, with POST as it reads now (R6 to R9). -/
def Part.takePost (n : NestId) (s : Part) : Part :=
  let post : W16 := field (s.word (nestAt n 1)) 0 16
  match (s.nsq.get n).state with
  | .stopped => if s.station = .run then s.startChain n post else s.postUnderStop n post
  | .faulted => s
  | .waiting | .running | .held => s.changeLimit n post

/-! ### Outcomes and timers -/

/-- An owner's outcome that is not late (R28): of the step in execution, or discarded. -/
def Part.takeOutcome (o : OwnerOutcome) (s : Part) : Part :=
  if (s.nsq.get o.nest).sequence = some o.sequence then s.finish o.nest o.verdict o.detail o.results else s

/-- The outcome of nest `n`'s step in execution among messages that the NSQ has not yet taken. -/
def Part.outcomeAmong (s : Part) (n : NestId) (messages : List Notice) : Option OwnerOutcome :=
  messages.findSome? fun m =>
    match m with
    | .ownerOutcome o => if o.nest = n ∧ (s.nsq.get n).sequence = some o.sequence then some o else none
    | _ => none

/-- The outcome of nest `n`'s step in execution that its owner has sent and the NSQ has not yet taken. -/
def Part.waitingOutcome (s : Part) (n : NestId) : Option OwnerOutcome := s.outcomeAmong n s.sent

/-- An outcome of the step in execution among `earlier` messages is taken: its owner has ended the step, so it comes
before anything that would end the step otherwise (R35, R44, R48, R108, R114, R127, R136, R142; log entry 12). The
retirement leaves its message late, so that the message's arrival is discarded (R28). -/
def Part.takeEarlier (n : NestId) (earlier : List Notice) (s : Part) : Part :=
  match s.outcomeAmong n earlier with
  | some o => s.takeOutcome o
  | none => s

/-- An outcome already sent for the step in execution is taken. -/
def Part.takeWaiting (n : NestId) (s : Part) : Part := s.takeEarlier n s.sent

/-- The messages sent before the oldest message equal to `m`; all of them, where none is equal. -/
def Part.sentBefore (s : Part) (m : Notice) : List Notice := s.sent.takeWhile (· ≠ m)

/-- A notice that ends nest `n`'s step is taken by `f`: after an outcome sent before it, and before one sent behind it,
which is late then (R28, R44, R48; log entry 12). -/
def Part.takeNotice (n : NestId) (m : Notice) (f : Part → Part) (s : Part) : Part :=
  f ((s.takeEarlier n (s.sentBefore m)).took m)

/-- The wait timer expires (R36). -/
def Part.waitExpires (n : NestId) (s : Part) : Part :=
  if s.expired (s.nsq.get n).waitTimer ∧ s.executing n .wait then s.finish n .pass .none .zero else s

/-- The owner of the step in execution ends or stops it and withdraws what it queued (R33, R34, R44, R46). A step that
has not been handed over has nothing to stop. -/
def Part.stopOwner (n : NestId) (cause : EndCause) (s : Part) : Part :=
  match (s.nsq.get n).step with
  | none => s
  | some st =>
    match st.kind with
    | none => s
    | some k =>
      if s.keptBack n k then s
      else
        match k with
        | .clamp | .contact | .powerOn | .powerOff | .unclamp => s.endFixtureStep n k cause
        | .setPulse =>
          match indexBelow 4 (field (st.w 2) 0 8) with
          | some c => s.stopBurst n c
          | none => s
        | .setSender =>
          match indexBelow 2 (field (st.w 2) 0 8) with
          | some e => s.stopSenderSettle n e
          | none => s
        | .frameLoad => s.endFrameLoad n cause
        | .checkFrame => s.endCheckFrame n
        | .checkGauge => s.endGaugeCheck n
        | .checkLamps => s.endLampWatch n
        | .checkFreq => s.endCapture n
        | .measure => s.stopMeasurement n
        | .prompt => s.withdrawPrompt n
        | .unitBegin | .unitEnd | .wait | .setLines | .frameRun | .captureArm | .gaugeZero => s

/-- The results that the owner reports at stopping: what it keeps for the step, or 0 (R29, R45). -/
def Part.reported (s : Part) (n : NestId) : Results := (s.nsq.get n).report.getD .zero

/-- The verdict and the detail at a deadline expiry in RUNNING (R33). -/
def deadlineVerdict : Option Kind → Verdict × Detail
  | some .checkGauge => (.timeout, .notSettled)
  | some .checkFreq => (.timeout, .noEdges)
  | some .checkFrame => (.timeout, .noMatch)
  | some .checkLamps => (.fail, .mismatch)
  | _ => (.timeout, .deadline)

/-- The deadline timer expires (R33, R34). Where the step's owner has already completed it, the outcome is taken and
the expiry is discarded (R35). -/
def Part.deadlineExpires (n : NestId) (s : Part) : Part :=
  match (s.nsq.get n).step with
  | none => s
  | some st =>
    if !s.expired (s.nsq.get n).deadline then s
    else if (s.waitingOutcome n).isSome then s.takeWaiting n
    else
      let held := decide ((s.nsq.get n).state = .held)
      let v := if held then (.timeout, .deadline) else deadlineVerdict st.kind
      let s := s.stopOwner n .deadline
      let s := s.track n fun s => s.modNsq n fun q => { q with hold := .none }
      s.finish n v.1 v.2 (s.reported n)

/-! ### Supply trip -/

/-- A supply trip (R44, R48, R50). -/
def Part.takeSupplyTrip (n : NestId) (s : Part) : Part :=
  let q := s.nsq.get n
  let s := s.recordFault n .supplyTrip
  if q.state = .stopped then s
  else
    match q.step with
    | some _ =>
      let s := (s.stopOwner n .stop).setSkipping n true
      s.finish n .fail .supplyTrip (s.reported n)
    | none => s.setSkipping n true

/-! ### Nest abort -/

/-- The causes of a nest abort (section 2.9). -/
inductive AbortCause where
  | request | lid | stop
  deriving DecidableEq, Repr

/-- The detail that an abort gives its step (section 2.9). -/
def AbortCause.detail : AbortCause → Detail
  | .request => .abortRequest | .lid => .lidOpened | .stop => .stationStop

/-- The fault that an abort records (section 2.9). -/
def AbortCause.fault : AbortCause → FaultKind
  | .request => .abortRequest | .lid => .lidOpened | .stop => .stationStop

/-- The nest powered off and its OPEN unit closed ABORTED (R46, R47, R50). -/
def Part.shutDown (n : NestId) (s : Part) : Part := (s.requestPowerOff n).abortUnit n

/-- The nest goes to STOPPED with no chain position and SKIPPING off (R46, R47, R50). -/
def Part.stopNest (n : NestId) (s : Part) : Part :=
  let s := s.modNsq n fun q => { q with position := none, deadline := none }
  s.track n fun s => s.modNsq n fun q => { q with state := .stopped, hold := .none, skipping := false }

/-- A nest abort while a chain is known (R46, R47). The fault is recorded at once; nothing between the order's first
and last item can be told from it. -/
def Part.abortChain (n : NestId) (c : AbortCause) (s : Part) : Part :=
  let s := s.recordFault n c.fault
  let s := s.stopOwner n .stop
  let s := s.retire n .aborted c.detail (s.reported n)
  (s.shutDown n).stopNest n

/-- An ABORT event (R46, R47, R50). -/
def Part.takeAbort (n : NestId) (s : Part) : Part :=
  match (s.nsq.get n).state with
  | .running | .held | .waiting => s.abortChain n .request
  | .stopped => s
  | .faulted => (s.shutDown n).stopNest n

/-- A lid abort (R46 to R48, R50). -/
def Part.takeLidAbort (n : NestId) (s : Part) : Part :=
  match (s.nsq.get n).state with
  | .running | .held | .waiting => s.abortChain n .lid
  | .stopped => s.recordFault n .lidOpened
  | .faulted => (s.recordFault n .lidOpened).shutDown n

/-- The station STOP at a sequencer (R51). -/
def Part.takeStationStop (n : NestId) (s : Part) : Part :=
  match (s.nsq.get n).state with
  | .running | .held | .waiting => s.abortChain n .stop
  | .stopped => s
  | .faulted => (s.recordFault n .stationStop).shutDown n

/-! ### Commands -/

/-- WAIT_EXPIRY (R36). -/
def execWaitExpiry (n : NestId) (s : State) : Host.Outcome State Fault Refusal :=
  s.act (·.waitExpires n)

/-- OWNER_OUTCOME (R28). -/
def execOwnerOutcome (outcome : OwnerOutcome) (s : State) : Host.Outcome State Fault Refusal :=
  s.act (·.receive (.ownerOutcome outcome) (·.takeOutcome outcome))

/-- DEADLINE_EXPIRY (R33, R34). -/
def execDeadlineExpiry (n : NestId) (s : State) : Host.Outcome State Fault Refusal :=
  s.act (·.deadlineExpires n)

/-- LID_ABORT (R46 to R48, R50, R60). -/
def execLidAbort (n : NestId) (s : State) : Host.Outcome State Fault Refusal :=
  s.act (·.takeNotice n (.lidAbort n) (·.takeLidAbort n))

/-- SUPPLY_TRIP_NOTICE (R44). -/
def execSupplyTripNotice (n : NestId) (s : State) : Host.Outcome State Fault Refusal :=
  s.act (·.takeNotice n (.supplyTrip n) (·.takeSupplyTrip n))

/-- STATION_STOP_NOTICE (R51). -/
def execStationStopNotice (n : NestId) (s : State) : Host.Outcome State Fault Refusal :=
  s.act (·.takeNotice n (.stationStop n) (·.takeStationStop n))

end Sys2Proof.Machine
end

