-- ==== Sys2Proof/Machine/Exchange.lean ====
section
/-! DEFINITION. The exchange port (chapter 1): host writes, the write watch, the register block, the first-fault record
and the two resets. -/

namespace Sys2Proof.Machine

/-! ### Host writes and the write watch -/

/-- A host write to exchange memory, and its watch request where the word is watched (R1, R5). -/
def Part.takeHostWrite (word : W16) (bytes : BitVec 4) (value : W32) (s : Part) : Part :=
  let s := { s with mem := s.mem.hostWrite word.toNat bytes value }
  match watchedAt word.toNat with
  | some w => if bytes = 0 then s else s.send (.watchRequest w)
  | none => s

/-- A watch request: an event at the tail of the watch queue, or merged into the untaken one (R5). -/
def Part.takeWatchRequest (w : Watched) (s : Part) : Part :=
  if w ∈ s.watchQueue then s else { s with watchQueue := s.watchQueue ++ [w] }

/-- The event at the head of the watch queue taken by its recipient (R6). An event that is not at the head is not
taken. -/
def Part.takeWatchEvent (w : Watched) (f : Part → Part) (s : Part) : Part :=
  match s.watchQueue with
  | [] => s
  | v :: q => if v = w then f { s with watchQueue := q } else s

/-- FAULT_RELEASE (R24). -/
def Part.releaseFirstFault (s : Part) : Part :=
  match s.firstFault with
  | none => s
  | some _ => (({ s with firstFault := none }.put ffStateAt 0).put ffStepAt (seqWord none)).put ffTimeAt 0

/-! ### Register block -/

/-- A host write to FACTOR (R20). -/
def Part.clearFactor (value : W32) (s : Part) : Part := { s with factor := s.factor &&& ~~~(value.setWidth 19) }

/-- A host write to MASK (R21). -/
def Part.writeMask (value : W32) (s : Part) : Part := { s with mask := value.setWidth 19 }

/-! ### Resets -/

/-- A step in flight at a device reset retired ABORTED with results 0, through step 4 of the retire order (R16). -/
def Part.retireAtReset (n : NestId) (s : Part) : Part :=
  match (s.nsq.get n).step with
  | some st => s.writeFinal st .aborted .none .zero
  | none => s

/-- The gauges of a nest after a reset, each image as its port reads (R116; log entry 7). -/
def Gauges.recover (g : Gauges) : Gauges := ⟨false, Bank.build fun i => Reset.gauge (g.gauges.get i).image, none⟩

/-- The LPC of a nest after a reset, each image as its port reads (R130; log entry 7). -/
def Watcher.recover (w : Watcher) : Watcher :=
  { Reset.watcher with
    currents := w.currents, inputs := Bank.build fun i => Reset.pulseInput (w.inputs.get i).level }

/-- What a device reset leaves of a message on its way. A watch request is taken after the reset (R18); an owner's outcome
and a replay's report are late, for work begun before it (R25, R179); any other is dropped. -/
def Notice.afterReset : Notice → Option Notice
  | .watchRequest w => some (.watchRequest w)
  | .ownerOutcome o => some (.late (.ownerOutcome o))
  | .replayEnded n => some (.late (.replayEnded n))
  | .replayCut n => some (.late (.replayCut n))
  | .late m => some (.late m)
  | .lidAbort _ | .supplyTrip _ | .stationStop _ | .panelStop => none

/-- Every block at its reset values over the exchange memory `m` (R2, R18, R25, R73, R74, R93, R116, R130, R144,
R179). The sensor, coil, lamp and level images stand as their inputs read (log entry 7). -/
def Part.atReset (m : Memory) (opc : Panel) (sent : List Notice) (s : Part) : Part :=
  let fxc := Bank.build fun n => (s.fxc.get n).recover
  { Reset.part with
    mem := Reset.memory m (fun n => fixtureCode (fxc.get n).state) s.stopPressed
    stopPressed := s.stopPressed, fxc := fxc, gmn := Bank.build fun n => (s.gmn.get n).recover
    lpc := Bank.build fun n => (s.lpc.get n).recover
    opc := opc, sent := sent, choices := s.choices }

/-- A STOP input that reads pressed once the reset is complete is taken as station STOP (R73). -/
def Part.stopIfPressed (s : Part) : Part := if s.stopPressed then s.takeStop else s

/-- A device reset (R16, R18). R16 gives no order among the nests: the steps in flight retire from nest 0 to nest 7 (log
entry 17). -/
def Part.deviceReset (s : Part) : Part :=
  let t := (List.finRange 8).foldl (fun s n => s.retireAtReset n) s
  (s.atReset t.mem (s.opc.recover s.now) (s.sent.filterMap Notice.afterReset)).stopIfPressed

/-- A power-on reset (R2): exchange memory has no content of its own (log entry 6). -/
def Part.powerOn (s : Part) : Part := (s.atReset [] Reset.panel []).stopIfPressed

/-! ### Commands -/

/-- POWER_ON_RESET (R2). -/
def execPowerOnReset (s : State) : Host.Outcome State Fault Refusal :=
  s.act (·.powerOn)

/-- RESET (R18). -/
def execReset (s : State) : Host.Outcome State Fault Refusal :=
  s.act (·.deviceReset)

/-- RESUME (R19). -/
def execResume (s : State) : Host.Outcome State Fault Refusal :=
  s.act (·.takeResume)

/-- FACTOR_CLEAR (R20). -/
def execFactorClear (value : W32) (s : State) : Host.Outcome State Fault Refusal :=
  s.act (·.clearFactor value)

/-- MASK_WRITE (R21). -/
def execMaskWrite (value : W32) (s : State) : Host.Outcome State Fault Refusal :=
  s.act (·.writeMask value)

/-- REGISTER_WRITE_DISCARDED (R17, R18): a write to IDENT, a write of part of a register, or a CONTROL write of another
code. -/
def execRegisterWriteDiscarded (_register : Register) (_bytes : BitVec 4) (_value : W32) (s : State) :
    Host.Outcome State Fault Refusal :=
  s.act id

/-- HOST_WRITE (R1, R5). -/
def execHostWrite (word : W16) (bytes : BitVec 4) (value : W32) (s : State) : Host.Outcome State Fault Refusal :=
  s.act (·.takeHostWrite word bytes value)

/-- WATCH_REQUEST (R5). -/
def execWatchRequest (word : Watched) (s : State) : Host.Outcome State Fault Refusal :=
  s.act fun s => (s.took (.watchRequest word)).takeWatchRequest word

/-- POST_EVENT (R6 to R9). -/
def execPostEvent (n : NestId) (s : State) : Host.Outcome State Fault Refusal :=
  s.act (·.takeWatchEvent (.post n) (·.takePost n))

/-- ABORT_EVENT (R6, R46, R47, R50). -/
def execAbortEvent (n : NestId) (s : State) : Host.Outcome State Fault Refusal :=
  s.act (·.takeWatchEvent (.abort n) fun s => (s.takeWaiting n).takeAbort n)

/-- FAULT_RELEASE_EVENT (R24). -/
def execFaultReleaseEvent (s : State) : Host.Outcome State Fault Refusal :=
  s.act (·.takeWatchEvent .faultRelease (·.releaseFirstFault))

end Sys2Proof.Machine
end

