-- ==== Sys2Proof/Machine/Dispatch.lean ====
section
/-! DEFINITION. One arm for each command: a direct call of its meaning. -/

namespace Sys2Proof.Machine

def exec (i : Instr) (s : State) : Host.Outcome State Fault Refusal :=
  match i with
  | .powerOnReset => Sys2Proof.Machine.execPowerOnReset s
  | .reset => Sys2Proof.Machine.execReset s
  | .resume => Sys2Proof.Machine.execResume s
  | .factorClear value => Sys2Proof.Machine.execFactorClear value s
  | .maskWrite value => Sys2Proof.Machine.execMaskWrite value s
  | .registerWriteDiscarded register bytes value => Sys2Proof.Machine.execRegisterWriteDiscarded register bytes value s
  | .hostWrite word bytes value => Sys2Proof.Machine.execHostWrite word bytes value s
  | .watchRequest word => Sys2Proof.Machine.execWatchRequest word s
  | .postEvent n => Sys2Proof.Machine.execPostEvent n s
  | .waitExpiry n => Sys2Proof.Machine.execWaitExpiry n s
  | .faultReleaseEvent => Sys2Proof.Machine.execFaultReleaseEvent s
  | .ownerOutcome outcome => Sys2Proof.Machine.execOwnerOutcome outcome s
  | .deadlineExpiry n => Sys2Proof.Machine.execDeadlineExpiry n s
  | .abortEvent n => Sys2Proof.Machine.execAbortEvent n s
  | .lidAbort n => Sys2Proof.Machine.execLidAbort n s
  | .supplyTripNotice n => Sys2Proof.Machine.execSupplyTripNotice n s
  | .stationStopNotice n => Sys2Proof.Machine.execStationStopNotice n s
  | .clampClosedSensor n => Sys2Proof.Machine.execClampClosedSensor n s
  | .clampOpenSensor n => Sys2Proof.Machine.execClampOpenSensor n s
  | .motionTimerExpiry n => Sys2Proof.Machine.execMotionTimerExpiry n s
  | .lidOpening n => Sys2Proof.Machine.execLidOpening n s
  | .sensorImageChange n change => Sys2Proof.Machine.execSensorImageChange n change s
  | .fuseTrip n => Sys2Proof.Machine.execFuseTrip n s
  | .inrushTimerExpiry n => Sys2Proof.Machine.execInrushTimerExpiry n s
  | .powerOnEndRequest n => Sys2Proof.Machine.execPowerOnEndRequest n s
  | .powerOffRequest n => Sys2Proof.Machine.execPowerOffRequest n s
  | .powerQueueWithdrawal n cause => Sys2Proof.Machine.execPowerQueueWithdrawal n cause s
  | .dischargeTimerExpiry n => Sys2Proof.Machine.execDischargeTimerExpiry n s
  | .stationStop => Sys2Proof.Machine.execStationStop s
  | .stopLevelChange pressed => Sys2Proof.Machine.execStopLevelChange pressed s
  | .idleEnforcement n => Sys2Proof.Machine.execIdleEnforcement n s
  | .activePhaseEnd n channel => Sys2Proof.Machine.execActivePhaseEnd n channel s
  | .periodBoundary n channel => Sys2Proof.Machine.execPeriodBoundary n channel s
  | .burstStopRequest n channel => Sys2Proof.Machine.execBurstStopRequest n channel s
  | .senderSettleExpiry n sender => Sys2Proof.Machine.execSenderSettleExpiry n sender s
  | .senderSettleStopRequest n sender => Sys2Proof.Machine.execSenderSettleStopRequest n sender s
  | .gapExpiry n => Sys2Proof.Machine.execGapExpiry n s
  | .restoreSettleExpiry n => Sys2Proof.Machine.execRestoreSettleExpiry n s
  | .endReplayRequest n => Sys2Proof.Machine.execEndReplayRequest n s
  | .busStart n => Sys2Proof.Machine.execBusStart n s
  | .urgentStop n => Sys2Proof.Machine.execUrgentStop n s
  | .frameLoadStopRequest n cause => Sys2Proof.Machine.execFrameLoadStopRequest n cause s
  | .checkFrameEndRequest n => Sys2Proof.Machine.execCheckFrameEndRequest n s
  | .slotDue n slot => Sys2Proof.Machine.execSlotDue n slot s
  | .transmissionEnd n how => Sys2Proof.Machine.execTransmissionEnd n how s
  | .receptionStart n il => Sys2Proof.Machine.execReceptionStart n il s
  | .receptionEnd n how => Sys2Proof.Machine.execReceptionEnd n how s
  | .monitorStart n => Sys2Proof.Machine.execMonitorStart n s
  | .monitorFreeze n => Sys2Proof.Machine.execMonitorFreeze n s
  | .coilEvent n gauge pair => Sys2Proof.Machine.execCoilEvent n gauge pair s
  | .gaugeSettleExpiry n => Sys2Proof.Machine.execGaugeSettleExpiry n s
  | .settleWatchEndRequest n => Sys2Proof.Machine.execSettleWatchEndRequest n s
  | .lampEvent n lamp current => Sys2Proof.Machine.execLampEvent n lamp current s
  | .stableTimerExpiry n => Sys2Proof.Machine.execStableTimerExpiry n s
  | .lampWatchEndRequest n => Sys2Proof.Machine.execLampWatchEndRequest n s
  | .lpcPowerDeparture n => Sys2Proof.Machine.execLpcPowerDeparture n s
  | .pulseEdge n input high => Sys2Proof.Machine.execPulseEdge n input high s
  | .captureEndRequest n => Sys2Proof.Machine.execCaptureEndRequest n s
  | .converterSettleExpiry => Sys2Proof.Machine.execConverterSettleExpiry s
  | .sample code => Sys2Proof.Machine.execSample code s
  | .converterWithdrawal n => Sys2Proof.Machine.execConverterWithdrawal n s
  | .converterEndRequest n => Sys2Proof.Machine.execConverterEndRequest n s
  | .converterPowerDeparture n => Sys2Proof.Machine.execConverterPowerDeparture n s
  | .pollDue => Sys2Proof.Machine.execPollDue s
  | .byteEnd returned => Sys2Proof.Machine.execByteEnd returned s
  | .answerTimerExpiry => Sys2Proof.Machine.execAnswerTimerExpiry s
  | .replayEndedReport n => Sys2Proof.Machine.execReplayEndedReport n s
  | .replayCutReport n => Sys2Proof.Machine.execReplayCutReport n s
  | .promptWithdrawal n => Sys2Proof.Machine.execPromptWithdrawal n s
  | .panelStationStop => Sys2Proof.Machine.execPanelStationStop s

end Sys2Proof.Machine
end

