-- ==== Sys2Proof/Machine/Timing.lean ====
section
/-! DEFINITION. What the part does of itself when no command waits (log entries 3 and 4): the messages, watch events and
timer expiries that are ready to be taken, and the tick. SAMPLE and BYTE_END bring data from outside, so they come as
commands alone. -/

namespace Sys2Proof.Machine

/-- The command by which a message arrives. -/
def Notice.command : Notice → Instr
  | .watchRequest w => .watchRequest w
  | .ownerOutcome o => .ownerOutcome o
  | .lidAbort n => .lidAbort n
  | .supplyTrip n => .supplyTripNotice n
  | .stationStop n => .stationStopNotice n
  | .replayEnded n => .replayEndedReport n
  | .replayCut n => .replayCutReport n
  | .panelStop => .panelStationStop
  | .late m => m.command

/-- The command that takes a watch event (R6). -/
def Watched.command : Watched → Instr
  | .post n => .postEvent n
  | .abort n => .abortEvent n
  | .faultRelease => .faultReleaseEvent

/-- `c`, if the timer runs and is due. -/
def Part.ifDue (s : Part) (timer : Option Nat) (c : Instr) : List Instr :=
  if s.expired timer then [c] else []

/-- The expiries of a nest's sequencer and fixture timers that are due. -/
def Part.nestTimers (s : Part) (n : NestId) : List Instr :=
  let q := s.nsq.get n
  let f := s.fxc.get n
  s.ifDue q.waitTimer (.waitExpiry n) ++ s.ifDue q.deadline (.deadlineExpiry n) ++
    s.ifDue f.motionTimer (.motionTimerExpiry n) ++ s.ifDue f.inrushTimer (.inrushTimerExpiry n) ++
    s.ifDue f.dischargeTimer (.dischargeTimerExpiry n)

/-- The end of a channel's active phase or of its period, once its ticks have run (R75, R76). -/
def Part.channelTimers (s : Part) (n : NestId) (i : Fin 4) : List Instr :=
  match (s.channel n i).wire with
  | none => []
  | some w =>
    (if w.periodRun s.ticks then [.periodBoundary n i] else []) ++
      if w.activeRun s.ticks then [.activePhaseEnd n i] else []

/-- The expiries of a nest's stimulus timers that are due. -/
def Part.stimulusTimers (s : Part) (n : NestId) : List Instr :=
  let replay := match (s.stu.get n).replay with
    | .none => []
    | .gap _ due => s.ifDue (some due) (.gapExpiry n)
    | .restore _ due => s.ifDue (some due) (.restoreSettleExpiry n)
  (List.finRange 4).flatMap (fun i => s.channelTimers n i) ++
    (List.finRange 2).flatMap
      (fun e => s.ifDue ((s.sender n e).settle.map SenderSettle.due) (.senderSettleExpiry n e)) ++ replay

/-- The due times and expiries of a nest's bus, gauge and lamp timers that are reached. -/
def Part.watchTimers (s : Part) (n : NestId) : List Instr :=
  (List.finRange 16).flatMap (fun k => s.ifDue (s.slot n k).due (.slotDue n k)) ++
    s.ifDue ((s.gmn.get n).check.map GaugeCheck.due) (.gaugeSettleExpiry n) ++
    s.ifDue ((s.lpc.get n).watch.bind LampWatch.stableTimer) (.stableTimerExpiry n)

/-- The expiries of the station's timers that are due. -/
def Part.stationTimers (s : Part) : List Instr :=
  s.ifDue (s.pcv.grant.bind Grant.settleTimer) .converterSettleExpiry ++
    s.ifDue (some s.opc.pollTimer) .pollDue ++
    s.ifDue (s.headEntry.bind PromptEntry.answerTimer) .answerTimerExpiry

/-- The internal events that are ready to be taken: the oldest message, the watch event at the queue's head, and the
expiries that are due. -/
def Part.ready (s : Part) : List Instr :=
  (s.sent.head?.map Notice.command).toList ++ (s.watchQueue.head?.map Watched.command).toList ++
    (List.finRange 8).flatMap (fun n => s.nestTimers n ++ s.stimulusTimers n ++ s.watchTimers n) ++ s.stationTimers

/-- Which of the ready events is taken first, where there are several (log entry 4). -/
def Part.firstTaken (s : Part) (events : List Instr) : Option Instr :=
  events[Config.takenFirst s.choices % events.length]?

/-- Whether the IDLE link has a transfer to start: the CLEAR that a reset leaves waiting (R179; log entry 11). -/
def Part.linkWaits (s : Part) : Bool :=
  decide (s.opc.link = .idle) &&
    (s.opc.pollPending || s.opc.clearPending || s.headEntry.any fun e => e.state = .queued)

/-- A tick of 100 ns passes. -/
def Part.tick (s : Part) : Part := { s with ticks := s.ticks + 1 }

/-- A timer whose event brings data from outside is due: the sample timer or the end of a byte (R149, R173). -/
def Part.awaitsData (s : Part) : Bool :=
  s.expired (s.pcv.grant.bind Grant.sampleTimer) || s.expired s.opc.byteTimer

/-- Nothing is ready: the link starts what a reset left waiting; or the machine stands still until the sample or the byte
that is due arrives as a command; or a tick passes (log entry 3). -/
def Part.rest (s : Part) : Part := if s.linkWaits then s.linkStart else if s.awaitsData then s else s.tick

end Sys2Proof.Machine
end

