-- ==== Sys2Proof/Machine/Step.lean ====
section
/-! DEFINITION. One step of the machine: the command at the front of the queue, or, with no command waiting, what the
part does of itself. -/

namespace Sys2Proof.Machine

/-- A step with no command waiting (log entries 3 and 4): the one internal event that is ready, or a free choice of
several; with none ready, the link's start after a reset or a tick. -/
def idleStep (s : State) : Host.Outcome State Fault Refusal :=
  match s.part.ready with
  | [] => .next { s with part := s.part.rest }
  | [c] => exec c s
  | cs =>
    match s.part.firstTaken cs with
    | some c => exec c { s with part := { s.part with choices := s.part.choices + 1 } }
    | none => .next s

/-- One step: the command at the front of the queue is taken and executed with the queue's rest. -/
def step (s : State) : Host.Outcome State Fault Refusal :=
  match s.pending with
  | c :: q => exec c { s with pending := q }
  | [] => idleStep s

/-- The state with the command that a word spells by the table put at the front of its queue; the state itself where
the word spells none, which is always so here (log entry 1). -/
def State.withFetchWord (s : State) (nbits w : Nat) : State :=
  match decodeTableWord nbits w with
  | some c => { s with pending := c :: s.pending }
  | none => s

end Sys2Proof.Machine
end

