-- ==== Sys2Proof/WellFormed.lean ====
section
/-! DEFINITION. Which commands the outside of the part can send: what the operands of a command must hold among
themselves. The fields that need no check are bounded by their types. -/

namespace Sys2Proof

/-- A register write that the part discards (R17, R18): any write to IDENT, a write of part of a register, and a
CONTROL write of a code that is neither RESET nor RESUME. -/
def discardedWrite (register : Register) (bytes : BitVec 4) (value : W32) : Bool :=
  match register with
  | .ident => true
  | .control => bytes != 0xF#4 || (value != 1 && value != 2)
  | .factor | .mask => bytes != 0xF#4

/-- A data frame as the wire carries it (frame slot table, notes 1 and 2): an identifier of its format, and no payload
beyond its length. -/
def Frame.wf (f : Frame) : Bool :=
  (f.extended || decide (f.ident.toNat ≤ 0x7FF)) && decide (f.payload.toNat < 2 ^ (8 * f.length.val))

/-- The verdicts and details that an owner gives a step (R29, R30). -/
def ownerGives : Verdict → Detail → Bool
  | .pass, .none => true
  | .fail, .deviation | .fail, .saturated | .fail, .mismatch | .fail, .outOfWindow | .fail, .overrange
  | .fail, .operator | .fail, .supplyLow | .fail, .contactOpen | .fail, .clampTimeout | .fail, .lidOpened
  | .fail, .busMute => true
  | .timeout, .noAnswer => true
  | .refused, .badOperand | .refused, .badState | .refused, .badTable => true
  | _, _ => false

/-- A command that the outside, or a block of the part, can send. -/
def Instr.wf : Instr → Bool
  | .registerWriteDiscarded register bytes value => discardedWrite register bytes value
  | .hostWrite _ bytes _ => bytes != 0
  | .ownerOutcome o => ownerGives o.verdict o.detail
  | .receptionEnd _ (.data f) => f.wf
  | .receptionEnd _ .remote | .receptionEnd _ .error => true
  | .powerOnReset | .reset | .resume | .factorClear _ | .maskWrite _ | .watchRequest _ | .postEvent _
  | .waitExpiry _ | .faultReleaseEvent | .deadlineExpiry _ | .abortEvent _ | .lidAbort _ | .supplyTripNotice _
  | .stationStopNotice _ | .clampClosedSensor _ | .clampOpenSensor _ | .motionTimerExpiry _ | .lidOpening _
  | .sensorImageChange _ _ | .fuseTrip _ | .inrushTimerExpiry _ | .powerOnEndRequest _ | .powerOffRequest _
  | .powerQueueWithdrawal _ _ | .dischargeTimerExpiry _ | .stationStop | .stopLevelChange _ | .idleEnforcement _
  | .activePhaseEnd _ _ | .periodBoundary _ _ | .burstStopRequest _ _ | .senderSettleExpiry _ _
  | .senderSettleStopRequest _ _ | .gapExpiry _ | .restoreSettleExpiry _ | .endReplayRequest _ | .busStart _
  | .urgentStop _ | .frameLoadStopRequest _ _ | .checkFrameEndRequest _ | .slotDue _ _ | .transmissionEnd _ _
  | .receptionStart _ _ | .monitorStart _ | .monitorFreeze _ | .coilEvent _ _ _ | .gaugeSettleExpiry _
  | .settleWatchEndRequest _ | .lampEvent _ _ _ | .stableTimerExpiry _ | .lampWatchEndRequest _
  | .lpcPowerDeparture _ | .pulseEdge _ _ _ | .captureEndRequest _ | .converterSettleExpiry | .sample _
  | .converterWithdrawal _ | .converterEndRequest _ | .converterPowerDeparture _ | .pollDue | .byteEnd _
  | .answerTimerExpiry | .replayEndedReport _ | .replayCutReport _ | .promptWithdrawal _ | .panelStationStop => true

end Sys2Proof
end

