-- ==== Sys2Proof/Safety.lean ====
section
/-! DEFINITION. What a safe run keeps, and the terms the claims are stated in. -/

namespace Sys2Proof.Machine

/-! ### Terms of the claims -/

/-- The command answers a next state that leaves the queue of commands as it stands and whose part `post` describes. -/
def Answers (c : Instr) (s : State) (post : Part → Prop) : Prop :=
  ∃ p, exec c s = .next { s with part := p } ∧ post p

/-- From part `s` to part `t`, every byte of exchange memory outside the words `words` reads as before. -/
def Part.StoresOnly (words : List Nat) (s t : Part) : Prop := ∀ a, a / 4 ∉ words → t.mem.byte a = s.mem.byte a

/-- Two banks agree at every index but `i`. -/
def Bank.AgreeBut {k : Nat} {α : Type} (i : Fin k) (a b : Bank k α) : Prop := ∀ j, j ≠ i → a.get j = b.get j

/-- `t` is `s` with its state changed at nest `n` alone, for every kind of state that is held nest by nest. -/
def Part.NestOnly (n : NestId) (s t : Part) : Prop :=
  Bank.AgreeBut n s.nsq t.nsq ∧ Bank.AgreeBut n s.fxc t.fxc ∧ Bank.AgreeBut n s.stu t.stu ∧
    Bank.AgreeBut n s.buc t.buc ∧ Bank.AgreeBut n s.gmn t.gmn ∧ Bank.AgreeBut n s.lpc t.lpc

/-- A timer runs and is due, so that its expiry is taken; any other expiry is discarded (R25, R32, R35; log entry 10). -/
abbrev Part.Due (s : Part) (timer : Option Nat) : Prop := ∃ due ∈ timer, due ≤ s.now

/-- A step of kind `k` is in execution on the nest, in RUNNING. -/
def Part.Runs (s : Part) (n : NestId) (st : Step) (k : Kind) : Prop :=
  (s.nsq.get n).state = .running ∧ (s.nsq.get n).step = some st ∧ st.kind = some k

/-- From part `s`, which has step `st` of nest `n` in execution, to part `p` the step has retired with verdict `v`, detail
`d` and results `r`, and no step has been accepted after it (R14). -/
def Part.Retires (s : Part) (n : NestId) (st : Step) (v : Verdict) (d : Detail) (r : Results) (p : Part) : Prop :=
  p.word (slotAt st.slot.toNat 11) = r.w11 ∧ p.word (slotAt st.slot.toNat 12) = r.w12 ∧
    p.word (slotAt st.slot.toNat 13) = r.w13 ∧ p.word (slotAt st.slot.toNat 14) = r.w14 ∧
    p.word (slotAt st.slot.toNat 15) = r.w15 ∧ p.word (slotAt st.slot.toNat 9) = st.accepted ∧
    p.word (slotAt st.slot.toNat 10) = s.timebase ∧ p.word (slotAt st.slot.toNat 8) = finalWord v d ∧
    p.word (nestAt n 4) = seqWord (some st.sequence) ∧ p.word (nestAt n 5) = seqWord none ∧
    (p.nsq.get n).retired = some st.sequence ∧ (p.nsq.get n).step = none ∧ (p.nsq.get n).deadline = none ∧
    (p.nsq.get n).waitTimer = none ∧ (p.nsq.get n).unhanded = false

/-- The words of slot `slot` that the part owns. -/
def slotWords (slot : W16) : List Nat := [8, 9, 10, 11, 12, 13, 14, 15].map fun k => slotAt slot.toNat k

/-- The words of nest `n`'s block that the part owns. -/
def nestWords (n : NestId) : List Nat := [4, 5, 6, 7, 8, 9, 10, 11, 12, 13, 14, 15].map fun k => nestAt n k

/-- A step in execution whose slot lies in the pool, and beyond which nothing is posted. -/
def Part.LastStep (s : Part) (n : NestId) (st : Step) : Prop :=
  (s.nsq.get n).step = some st ∧ st.slot.toNat < Config.slotCount ∧ (s.nsq.get n).limit = some st.sequence

/-- A step of kind `k` in execution on the nest, and handed over, is completed: its outcome is sent between the messages
`before` and `after` (R28). With no such step, or one kept back by station STOP, only the messages are sent (R72, R189). -/
def Part.Sends (s : Part) (n : NestId) (k : Kind) (v : Verdict) (d : Detail) (r : Results)
    (before after : List Notice) (p : Part) : Prop :=
  (∀ st, (s.nsq.get n).step = some st → st.kind = some k → s.keptBack n k = false →
      p.sent = s.sent ++ before ++ [.ownerOutcome ⟨n, st.sequence, v, d, r⟩] ++ after) ∧
    ((∀ st, (s.nsq.get n).step = some st → st.kind = some k → s.keptBack n k = true) →
      p.sent = s.sent ++ before ++ after)

/-- A step of kind `k` in execution on the nest, and handed over, is completed: its outcome is sent between the messages
`before` and `after`, and its owner keeps the results for it (R28, R45). With no such step, or one kept back by station
STOP, only the messages are sent (R72, R189). -/
def Part.Completes (s : Part) (n : NestId) (k : Kind) (v : Verdict) (d : Detail) (r : Results)
    (before after : List Notice) (p : Part) : Prop :=
  s.Sends n k v d r before after p ∧
    (∀ st, (s.nsq.get n).step = some st → st.kind = some k → s.keptBack n k = false →
      (p.nsq.get n).report = some r) ∧
    ((∀ st, (s.nsq.get n).step = some st → st.kind = some k → s.keptBack n k = true) →
      (p.nsq.get n).report = (s.nsq.get n).report)

/-- The sequencer of nest `n` is as it was, but for the results that the owner of its step keeps. -/
def Part.SequencerKept (n : NestId) (s p : Part) : Prop :=
  p.nsq.get n = { s.nsq.get n with report := (p.nsq.get n).report }

/-- From `s` to `p` a nest fault of kind `k` has been recorded on nest `n` with sequence `q`, and offered to the
first-fault record (R22, R23). -/
def Part.Records (s : Part) (n : NestId) (k : FaultKind) (q : Option W16) (p : Part) : Prop :=
  (p.nsq.get n).fault = k ∧ (p.nsq.get n).faultSeq = q ∧ p.word (nestAt n 8) = nestFaultWord k q ∧
    p.factor.getLsbD (factorFault n) = true ∧
    (s.firstFault.isSome ∨ k = .stationStop → p.firstFault = s.firstFault) ∧
    (s.firstFault = none → k ≠ .stationStop →
      p.firstFault = some ⟨n.castSucc, k, q, s.timebase⟩ ∧ p.word ffStateAt = ffStateWord ⟨n.castSucc, k, q, s.timebase⟩ ∧
        p.word ffStepAt = seqWord q ∧ p.word ffTimeAt = s.timebase ∧ p.factor.getLsbD factorFirstFault = true)

/-- From `s` to `t`, every factor flag outside `flags` stands as it stood. -/
def Part.SetsOnly (flags : List Nat) (s t : Part) : Prop := ∀ i, i ∉ flags → t.factor.getLsbD i = s.factor.getLsbD i

/-- A fixture whose supply has been cut, with its discharge due at time `due` (R60, R65, R67, R70). -/
def Fixture.cut (due : Nat) (f : Fixture) : Fixture :=
  { f with state := .discharging, switchClosed := false, comparator := none, inrushTimer := none, tripArmed := false,
           dischargeTimer := some due }

/-- The fixture of nest `n` replaced, with NEST_STATE written if a field of it changed (R4). -/
def Part.showing (n : NestId) (f : Fixture) (s : Part) : Part :=
  let t := { s with fxc := s.fxc.put n f }
  if t.nestStateWord n = s.nestStateWord n then t else { t with mem := t.mem.setWord (nestAt n 7) (t.nestStateWord n) }

/-- The part after the commands `cs`, one after the other. -/
def Part.runs (cs : List Instr) (s : Part) : Part :=
  cs.foldl (fun s c => match exec c ⟨s, []⟩ with
    | .next t => t.part
    | _ => s) s

/-- The commands by which the blocks take that a nest enters POWERED (R54, R94, R117). -/
def entering (n : NestId) : List Instr := [.busStart n, .monitorStart n]

/-- The commands by which the blocks take that a nest leaves POWERING or POWERED (R54, R86, R95, R118, R136, R155). -/
def leaving (n : NestId) : List Instr :=
  [.idleEnforcement n, .urgentStop n, .monitorFreeze n, .lpcPowerDeparture n, .converterPowerDeparture n]

/-- A fixture that closes its supply switch at time `now` for a power queue entry, with the criteria `criteria`, the
entry having waited `heldMs` (R63). -/
def Fixture.powersUp (now heldMs : Nat) (criteria : W32) (e : PowerEntry) (f : Fixture) : Fixture :=
  { f with
    state := .powering, switchClosed := true, fuseLimit := e.fuseLimit, comparator := some criteria
    inrushTimer := some (now + 1000 * e.windowMs)
    powerOn := f.powerOn.map fun x => { x with heldMs := some heldMs } }

/-- The step that the record in slot `slot` holds, accepted now (R12). -/
def Part.stepIn (s : Part) (slot : W16) : Step :=
  ⟨slot, Bank.build fun k => s.word (slotAt slot.toNat k.val), s.timebase⟩

/-- Part `s` once nest `n` has taken its POST event as a chain start with the base `base` and the posted limit `post`, and
has accepted the head step `st` and performed nothing of it (R7, R12). The watch queue left is `q`. -/
def Part.chainStarted (s : Part) (n : NestId) (q : List Watched) (base post : W16) (st : Step) : Part :=
  let t : Part :=
    { s with
      watchQueue := q
      nsq := s.nsq.put n
        { s.nsq.get n with
          state := .running, hold := .none, retired := some (base - 1), limit := some post
          position := some st.nextSlot, step := some st, report := none, waitTimer := none, unhanded := false
          deadline := some (s.now + 1000 * st.deadlineMs) } }
  { t with
    mem := [(nestAt n 4, seqWord (some (base - 1))), (nestAt n 6, seqWord (some post)),
      (slotAt st.slot.toNat 9, s.timebase), (slotAt st.slot.toNat 8, 1), (nestAt n 5, seqWord (some base)),
      (nestAt n 7, t.nestStateWord n)].foldl (fun m w => m.setWord w.1 w.2) s.mem }

/-- From part `s` to part `p` nest `n` has accepted step `st`, which stays in execution with the wait timer `wait`, and
kept back from its owner or not (R12, R26, R32). -/
def Part.Accepts (s : Part) (n : NestId) (st : Step) (wait : Option Nat) (unhanded : Bool) (p : Part) : Prop :=
  let x := p.nsq.get n
  x.state = .running ∧ x.hold = .none ∧ x.position = some st.nextSlot ∧ x.step = some st ∧ x.report = none ∧
    x.deadline = some (s.now + 1000 * st.deadlineMs) ∧ x.waitTimer = wait ∧ x.unhanded = unhanded ∧
    p.word (nestAt n 5) = seqWord (some st.sequence) ∧ p.word (nestAt n 7) = p.nestStateWord n ∧
    p.word (slotAt st.slot.toNat 8) = 1 ∧ p.word (slotAt st.slot.toNat 9) = s.timebase

/-- From part `s` to part `p` nest `n` has accepted step `st`, a WAIT, and performs it (R12, R26, R32, R36). -/
def Part.AcceptsWait (s : Part) (n : NestId) (st : Step) (p : Part) : Prop :=
  s.Accepts n st (some (s.now + 1000 * (st.w 2).toNat)) false p

/-! ### Terms for steps that end early -/

/-- The messages that the NSQ takes before a notice `m`: those sent before it, or every one where `m` is not among the
messages sent (log entry 12). -/
def Part.earlier (s : Part) (m : Notice) : List Notice := s.sent.takeWhile fun x => decide (x ≠ m)

/-- No outcome among `messages` names step `st` of nest `n`. -/
def Uncompleted (messages : List Notice) (n : NestId) (st : Step) : Prop :=
  ∀ o, .ownerOutcome o ∈ messages → o.nest = n → o.sequence ≠ st.sequence

/-- `o` is the one outcome among `messages` that names step `st` of nest `n`. -/
def Completed (messages : List Notice) (n : NestId) (st : Step) (o : OwnerOutcome) : Prop :=
  .ownerOutcome o ∈ messages ∧ o.nest = n ∧ o.sequence = st.sequence ∧
    ∀ x, .ownerOutcome x ∈ messages → x.nest = n → x.sequence = st.sequence → x = o

/-- The next message to arrive as `m` is a late one, which is discarded: one that tells of work that has ended since it was
sent lies before any other that arrives so (R25, R28, R179, R187; log entry 12). -/
def Part.Late (s : Part) (m : Notice) : Prop := ∃ a b, s.sent = a ++ .late m :: b ∧ m ∉ a

/-- The messages, with every outcome of nest `n`'s step late, as the step's retirement leaves them (R28). -/
def outcomesLate (n : NestId) (messages : List Notice) : List Notice :=
  messages.map fun m => match m with
    | .ownerOutcome o => if o.nest = n then .late m else m
    | _ => m

/-- The messages, with every report on a replay of the nests `nests` late, as the withdrawal of their REPLAYING entries
leaves them (R187). -/
def replaysLate (nests : List NestId) (messages : List Notice) : List Notice :=
  messages.map fun m => match m with
    | .replayEnded n => if n ∈ nests then .late m else m
    | .replayCut n => if n ∈ nests then .late m else m
    | _ => m

/-- Part `s` with the outcome `o` as its oldest message. -/
def Part.outcomeFirst (o : OwnerOutcome) (s : Part) : Part := { s with sent := .ownerOutcome o :: s.sent }

/-- The commands by which the owner of step `st` of nest `n` ends or stops it for the NSQ (R33, R34, R44, R46); the
fixture kinds but POWER_ON have none. -/
def stopCommands (n : NestId) (st : Step) (cause : EndCause) : List Instr :=
  match st.kind with
  | some .powerOn => [.powerQueueWithdrawal n cause]
  | some .setPulse => ((indexBelow 4 (field (st.w 2) 0 8 : Byte)).map (Instr.burstStopRequest n)).toList
  | some .setSender => ((indexBelow 2 (field (st.w 2) 0 8 : Byte)).map (Instr.senderSettleStopRequest n)).toList
  | some .frameLoad => [.frameLoadStopRequest n cause]
  | some .checkFrame => [.checkFrameEndRequest n]
  | some .checkGauge => [.settleWatchEndRequest n]
  | some .checkLamps => [.lampWatchEndRequest n]
  | some .checkFreq => [.captureEndRequest n]
  | some .measure => [.converterWithdrawal n, .converterEndRequest n]
  | some .prompt => [.promptWithdrawal n]
  | _ => []

/-- The part after the owner of step `st` of nest `n` has ended or stopped it: a FIXTURE hold is forgotten, a CLAMP, an
UNCLAMP and a CONTACT report the images (log entry 15), and every other owner acts as its commands do. A step kept back by
station STOP has no owner yet (R72, R189; log entry 19). -/
def Part.ownerStopped (n : NestId) (st : Step) (cause : EndCause) (s : Part) : Part :=
  let unheld := { s with fxc := s.fxc.put n { s.fxc.get n with heldStep := false } }
  let reports (r : Results) : Part := { unheld with nsq := s.nsq.put n { s.nsq.get n with report := some r } }
  if st.kind.any fun k => s.keptBack n k then s
  else
    match st.kind with
    | some .clamp | some .unclamp => reports (s.clampResults n)
    | some .contact => reports (s.contactResults n)
    | some .powerOff => unheld
    | some .powerOn => unheld.runs (stopCommands n st cause)
    | _ => s.runs (stopCommands n st cause)

/-- The results that the owner of nest `n`'s step has left for it: 0 where it left none (R29, R45). -/
def Part.leftFor (s : Part) (n : NestId) : Results := (s.nsq.get n).report.getD .zero

/-- Part `p` is part `t` but for what the end of nest `n`'s step in slot `slot` changes: the nest's sequencer, its
words and the slot's, its faults and factors, its lamp, and what the owners kept for the step alone (R45, R61). An outcome
of the step still on its way is late (R28). -/
def Part.ButForTheStep (t : Part) (n : NestId) (slot : W16) (p : Part) : Prop :=
  p = { t with
        nsq := p.nsq, mem := p.mem, factor := p.factor, firstFault := p.firstFault, sent := outcomesLate n t.sent
        fxc := t.fxc.put n { t.fxc.get n with powerOn := none }
        pcv := { t.pcv with records := t.pcv.records.put n none }, opc := { t.opc with lamps := p.opc.lamps } } ∧
    Bank.AgreeBut n t.nsq p.nsq ∧ Bank.AgreeBut n t.opc.lamps p.opc.lamps ∧
    t.SetsOnly [factorNotify n, factorFault n, factorFirstFault] p ∧
    t.StoresOnly (slotWords slot ++ nestWords n ++ [ffStateAt, ffStepAt, ffTimeAt]) p

/-! ### Terms for the shared resources -/

/-- Part `s` with transmission `t` in progress on nest `n`, or none. -/
def Part.withTx (n : NestId) (t : Option Transmission) (s : Part) : Part :=
  { s with buc := s.buc.put n { s.buc.get n with tx := t } }

/-- The pending transmission of slot `k`, due at `d`, is the one that the arbiter chooses: the one due furthest back, of
equals the one of the lower slot (R100). -/
def Bus.Chooses (b : Bus) (k : Fin 16) (d : Nat) : Prop :=
  (b.slots.get k).pendingDue = some d ∧
    ∀ j e, (b.slots.get j).pendingDue = some e → d < e ∨ (d = e ∧ k ≤ j)

/-- From part `s` to part `p` the transmission of slot `k` of nest `n`, pending since `d`, has started (R101): its staged
parts are applied, a FRAME_LOAD that waits for it passes with the timebase, and the frame carries the payload. -/
def Part.Starts (s : Part) (n : NestId) (k : Fin 16) (d : Nat) (p : Part) : Prop :=
  let b := s.buc.get n
  let f := b.slots.get k
  let payload := f.stagedPayload.getD f.payload
  let frame : Frame := match f.frameDef with
    | some x => ⟨x.extended, x.ident, x.length, payloadPrefix x.length payload⟩
    | none => ⟨false, 0, 0, 0⟩
  p.buc.get n =
      { b with
        tx := some ⟨k, d, false, frame⟩
        loadWait := if b.loadWait.map LoadWait.slot = some k then none else b.loadWait
        slots := b.slots.put k
          { f with payload := payload, stagedPayload := none, stagedLines := none, pendingDue := none } } ∧
    p.stu.get n =
      { s.stu.get n with
        lines := match f.stagedLines with
          | some (mask, value) => if s.powered n then driveLines mask value (s.stu.get n).lines else (s.stu.get n).lines
          | none => (s.stu.get n).lines } ∧
    (f.stagedPayload.isSome ∨ f.stagedLines.isSome →
      p.word (frameAt n k 6) = (slotStateCode f.state ||| place f.sent 16)) ∧
    (f.stagedPayload = none → f.stagedLines = none → p.mem = s.mem) ∧
    (∀ w, b.loadWait = some w → w.slot = k →
      s.Completes n .frameLoad .pass .none ⟨w.w11, s.timebase, 0, 0, 0⟩ [] [] p) ∧
    (b.loadWait.map LoadWait.slot ≠ some k → p.sent = s.sent ∧ p.nsq = s.nsq) ∧
    s.SequencerKept n p ∧ s.StoresOnly [frameAt n k 6] p ∧ s.NestOnly n p ∧
    p = { s with buc := p.buc, stu := p.stu, nsq := p.nsq, mem := p.mem, sent := p.sent }

/-- From part `s` to part `p` the arbiter of nest `n` has run (R100): with transmitter and receiver idle the transmission it
chooses has started; on a busy or OFF controller, or with nothing pending, nothing has. -/
def Part.Arbitrates (s : Part) (n : NestId) (p : Part) : Prop :=
  let b := s.buc.get n
  (∀ k d, b.on = true → b.tx = none → b.rx = none → b.Chooses k d → s.Starts n k d p) ∧
    (b.on = false ∨ b.tx.isSome ∨ b.rx.isSome ∨ (∀ k, (b.slots.get k).pendingDue = none) → p = s)

/-- From part `s`, on which the converter has just become free, to part `p` it has gone to the first queued nest that is
POWERED; the entries before it are withdrawn, each nest's results kept for it (R148, R153, R156). -/
def Part.PassesOn (s p : Part) : Prop :=
  let gone := s.pcv.queue.takeWhile fun e => !s.powered e.1
  let rest := s.pcv.queue.dropWhile fun e => !s.powered e.1
  let u := gone.foldl (fun u e => match s.pcv.records.get e.1 with
    | some m => { u with nsq := u.nsq.put e.1 { u.nsq.get e.1 with report := some m.results } }
    | none => u) s
  (rest = [] → p = { u with pcv := { s.pcv with queue := [] } }) ∧
    ∀ k seq q m x, rest = (k, seq) :: q → s.pcv.records.get k = some m → m.sweep.head? = some x →
      p.pcv = { s.pcv with
                relays := 1#64 <<< (routePoint k x.point).val, queue := q
                grant := some ⟨k, seq, 0, false, some (s.now + 3000), none, 0, 0, false⟩ } ∧
        p.nsq.get k =
          (if (u.nsq.get k).state = .held then { u.nsq.get k with state := .running, hold := .none }
          else u.nsq.get k) ∧
        ((u.nsq.get k).state = .held → p.word (nestAt k 7) = p.nestStateWord k) ∧
        Bank.AgreeBut k u.nsq p.nsq ∧ s.StoresOnly [nestAt k 7] p ∧
        p = { u with pcv := p.pcv, nsq := p.nsq, mem := p.mem }

/-! ### Terms for the panel -/

/-- From part `s` to part `p` the panel link has taken the first request that applies (R175): a pending poll, with the
lamps as they stand (R178); else the text of a QUEUED head, which drops a pending clear and ends the hold of the head's
step (R27, R174, R183); else a pending clear. A busy link, and one with no request, starts nothing. -/
def Part.ServesLink (s p : Part) : Prop :=
  let o := s.opc
  let sends (kind : Link) (first : Byte) : Panel :=
    { o with link := kind, shift := some first, buffered := none, rest := [], cursor := none, index := 0, cut := false
             byteTimer := some (s.now + 32) }
  (o.link ≠ .idle → p = s) ∧
    (o.link = .idle → o.pollPending = true →
      p = { s with opc := { sends .poll 0x71 with buffered := some (lampByte o.lamps 0), rest := [lampByte o.lamps 4, 0]
                                                  pollPending := false } }) ∧
    (o.link = .idle → o.pollPending = false →
      (∀ x q, o.prompts = x :: q → x.state = .queued →
        p.opc = { sends .text (0x80 + BitVec.ofNat 8 x.nest.val) with
                  buffered := some (s.mem.byte (0x25000 + x.text.toNat * 64)), cursor := some ⟨x.nest, x.text, 1⟩
                  clearPending := false, prompts := { x with state := .sending } :: q } ∧
          ((s.nsq.get x.nest).state = .held →
            p.nsq.get x.nest = { s.nsq.get x.nest with state := .running, hold := .none } ∧
              p.word (nestAt x.nest 7) = p.nestStateWord x.nest) ∧
          ((s.nsq.get x.nest).state ≠ .held → p.nsq.get x.nest = s.nsq.get x.nest ∧ p.mem = s.mem) ∧
          Bank.AgreeBut x.nest s.nsq p.nsq ∧ s.StoresOnly [nestAt x.nest 7] p ∧
          p = { s with opc := p.opc, nsq := p.nsq, mem := p.mem }) ∧
        ((∀ x, o.prompts.head? = some x → x.state ≠ .queued) →
          (o.clearPending = true → p = { s with opc := { sends .clear 0x7E with clearPending := false } }) ∧
            (o.clearPending = false → p = s)))

/-! ### What every step keeps -/

/-- Exchange memory keeps its canonical form, and every step in execution has a slot of the pool (section 1.1). -/
def Part.MemoryFormed (s : Part) : Prop :=
  s.mem.wf = true ∧ ∀ n st, (s.nsq.get n).step = some st → st.slot.toNat < Config.slotCount

/-- The watch queue holds at most one event per watched word (R5). -/
def Part.WatchQueueDistinct (s : Part) : Prop := s.watchQueue.Nodup

/-- At most two nests are POWERING (R62). -/
def Part.BudgetKept (s : Part) : Prop := s.poweringCount ≤ Config.powerBudget

/-- A nest's supply switch is closed exactly while its fixture state is POWERING or POWERED (R59). -/
def Part.SwitchesGuarded (s : Part) : Prop := ∀ n, (s.fxc.get n).switchClosed = (s.fxc.get n).state.supplied

/-- While station STOP is latched no nest has supply, and none waits for it (R71, R72). -/
def Part.StopCutsSupply (s : Part) : Prop :=
  s.station = .stopped → s.powerQueue = [] ∧ ∀ n, (s.fxc.get n).state.supplied = false

/-- No route point is closed while the converter is FREE, and exactly one, of the granted nest, while it is GRANTED
(R145). -/
def Part.RouteGuarded (s : Part) : Prop :=
  match s.pcv.grant with
  | none => s.pcv.relays = 0
  | some g => ∃ p : Fin 8, s.pcv.relays = 1#64 <<< (routePoint g.nest p).val

/-- Only the head of the prompt queue may be SENDING, SHOWN or REPLAYING (R180). -/
def Part.HeadAlone (s : Part) : Prop := ∀ e ∈ s.opc.prompts.tail, e.state = .queued

/-- A nest is RUNNING or HELD exactly while a step is in execution on it (section 2.1). -/
def Part.StepsMatch (s : Part) : Prop :=
  ∀ n, (s.nsq.get n).step.isSome = (decide ((s.nsq.get n).state = .running) || decide ((s.nsq.get n).state = .held))

/-- An outcome on its way that is not late names the step in execution on its nest (R28). -/
def Part.OutcomesCurrent (s : Part) : Prop :=
  ∀ o, .ownerOutcome o ∈ s.sent → (s.nsq.get o.nest).step.map Step.sequence = some o.sequence

/-- A safe part. -/
def Part.Safe (s : Part) : Prop :=
  s.MemoryFormed ∧ s.WatchQueueDistinct ∧ s.BudgetKept ∧ s.SwitchesGuarded ∧ s.RouteGuarded ∧ s.HeadAlone ∧
    s.StepsMatch ∧ s.OutcomesCurrent ∧ s.StopCutsSupply

end Sys2Proof.Machine
end

