-- ==== Sys2Proof/Certificates/Slice0/Obligations.lean ====
section
/-! DEFINITION. The statements for the provers, by chapter. `Answers c s post` says that command `c` answers a next state
with the queue unchanged and a part that `post` describes. In a frame, `p = { s.part with f := p.f }` says that no field
but `f` has changed. Where a docstring names log entries, the statement rests on those choices of the model's: entry 10,
that a command with nothing to act on changes nothing; entry 12, how blocks pass messages and results. -/

open Sys2Proof Sys2Proof.Machine

/-! ### The machine as a whole -/

/-- A step with a command at the front of the queue is that command's meaning on the state with the queue's rest. -/
def Obligations.StepTakesTheFrontCommand : Prop :=
  ∀ (c : Instr) (s : State), step { s with pending := c :: s.pending } = exec c s

/-- Every command, in every state, answers a next state. What it does to the part does not depend on the queue, and the
queue stays as it stands: no rule of the spec stops the part. -/
def Obligations.EveryCommandAnswers : Prop :=
  ∀ c : Instr, ∃ f : Part → Part, ∀ (p : Part) (q : List Instr), exec c ⟨p, q⟩ = .next ⟨f p, q⟩

/-- With no command waiting and no internal event ready, one tick passes and nothing else changes, but the machine stands
still while a sample or a byte that is due has not arrived; with one internal event ready, the step is that event. This is
the model's choice (log entry 3). -/
def Obligations.IdleStepTicksOrTakesTheReadyEvent : Prop :=
  (∀ p : Part, p.ready = [] → p.linkWaits = false →
      let reached (due : Nat) : Prop := due ≤ p.now
      let dataDue : Prop := (∃ g due, p.pcv.grant = some g ∧ g.sampleTimer = some due ∧ reached due) ∨
        ∃ due, p.opc.byteTimer = some due ∧ reached due
      (¬ dataDue → step ⟨p, []⟩ = .next ⟨{ p with ticks := p.ticks + 1 }, []⟩) ∧
        (dataDue → step ⟨p, []⟩ = .next ⟨p, []⟩)) ∧
    ∀ (p : Part) (c : Instr), p.ready = [c] → step ⟨p, []⟩ = exec c ⟨p, []⟩

/-- What either reset leaves in the part-owned words with the STOP input released: the Layout word, STATION and the
first-fault words, the nest blocks, the frame slots' status words and the capture slots' part words (R2). `State.reset` is
the part as a power-on reset leaves it there. Model's choice: log entries 6, 7. -/
def Obligations.ResetMemoryWords : Prop :=
  (∀ (c : Instr) (s : State), c = .powerOnReset ∨ c = .reset → s.part.stopPressed = false →
    Answers c s fun p =>
      p.word layoutAt = 0x08000801#32 ∧ p.word stationAt = 0 ∧ p.word ffStateAt = 0 ∧
        p.word ffStepAt = 0xFFFFFFFF#32 ∧ p.word ffTimeAt = 0 ∧
        (∀ n : NestId, p.word (nestAt n 4) = 0xFFFFFFFF#32 ∧ p.word (nestAt n 5) = 0xFFFFFFFF#32 ∧
          p.word (nestAt n 6) = 0xFFFFFFFF#32 ∧ p.word (nestAt n 7) = p.nestStateWord n ∧
          p.word (nestAt n 7) = (if (s.part.fxc.get n).clampClosed then 0x20#32 else 0) ∧
          p.word (nestAt n 13) = 0xFFFFFFFF#32) ∧
        (∀ (n : NestId) (k : Nat), k ∈ [8, 9, 10, 11, 12, 14, 15] → p.word (nestAt n k) = 0) ∧
        (∀ (n : NestId) (f : Fin 16) (k : Nat), k ∈ [6, 7] → p.word (frameAt n f k) = 0) ∧
        ∀ (n : NestId) (f : Fin 8) (k : Nat), k ∈ [2, 3, 4, 5, 6, 7] → p.word (captureAt n f k) = 0) ∧
    exec .powerOnReset State.reset = .next State.reset

/-! ### Chapter 1 -/

/-- Either reset with the STOP input released leaves every block at the values its chapter gives (R18, R25, R73, R74, R93,
R116, R130, R144, R179). Each fixture comes back CLAMPED or OPEN by its clamp-closed image. A device reset taken during a
panel transfer leaves that transfer's state, cut, until the end of its byte in shift. The images stand as they read. A
watch request on its way outlives a device reset, and an owner's outcome and a replay's report on their way are late.
Model's choice: log entries 7, 8, 11, 12. -/
def Obligations.ResetsClearTheBlocks : Prop :=
  ∀ (c : Instr) (s : State), c = .powerOnReset ∨ c = .reset → s.part.stopPressed = false →
    Answers c s fun p =>
      p.ticks = 0 ∧ p.watchQueue = [] ∧ p.factor = 0 ∧ p.mask = 0 ∧ p.intreq = false ∧ p.firstFault = none ∧
        p.station = .run ∧ p.stopPressed = false ∧ p.powerQueue = [] ∧ p.poweringCount = 0 ∧
        p.choices = s.part.choices ∧
        (∀ n, p.nsq.get n =
          { state := .stopped, retired := none, limit := none, position := none, step := none, deadline := none
            waitTimer := none, hold := .none, skipping := false, unit := ⟨0, .none, 0, 0, 0, 0, none, 0, 0⟩
            fault := .none, faultSeq := none, report := none, unhanded := false }) ∧
        (∀ n, let f := s.part.fxc.get n
          p.fxc.get n =
            { f with
              state := if f.clampClosed then .clamped else .opened
              drive := if f.drive = .closing ∨ f.drive = .opening then .holdingStill else f.drive
              switchClosed := false, comparator := none, fuseLimit := 0, tripArmed := false, motionTimer := none
              inrushTimer := none, dischargeTimer := none, heldStep := false, powerOn := none }) ∧
        (∀ n, (∀ i, p.channel n i = ⟨⟨.off, false, 0, 0, 0, 0, 0⟩, 0, 0, false, none, none, none⟩) ∧
          (∀ i, p.sender n i = ⟨0, 0, none⟩) ∧ (∀ i, (p.stu.get n).lines.get i = .released) ∧
          (p.stu.get n).replay = .none) ∧
        (∀ n, let b := p.buc.get n
          b.on = false ∧ b.rate = none ∧ b.mute = false ∧ b.nacks = 0 ∧ b.tx = none ∧ b.rx = none ∧
            b.loadWait = none ∧ b.check = none ∧
            (∀ k, p.slot n k =
              { state := .stopped, frameDef := none, payload := 0, preload := false, due := none, pendingDue := none
                stagedPayload := none, stagedLines := none, sent := 0, nack := 0 }) ∧
            ∀ k, p.filter n k = ⟨none, ⟨0, 0, 0, 0, 0, false, 0, false, false⟩⟩) ∧
        (∀ n, (p.gmn.get n).running = false ∧ (p.gmn.get n).check = none ∧
          ∀ g, p.gauge n g = ⟨(s.part.gauge n g).image, none, 0, false, 0, 0, 0⟩) ∧
        (∀ n, (p.lpc.get n).currents = (s.part.lpc.get n).currents ∧ (p.lpc.get n).watch = none ∧
          ∀ i, p.input n i = ⟨(s.part.input n i).level, none, none, 0, 0⟩) ∧
        p.pcv.relays = 0 ∧ p.pcv.grant = none ∧ p.pcv.queue = [] ∧ (∀ n, p.pcv.records.get n = none) ∧
        p.sent = (if c = .reset then s.part.sent.filterMap (fun m => match m with
          | .watchRequest _ | .late _ => some m
          | .ownerOutcome _ | .replayEnded _ | .replayCut _ => some (.late m)
          | .lidAbort _ | .supplyTrip _ | .stationStop _ | .panelStop => none) else []) ∧
        (let o := s.part.opc
          let cut : Prop := c = .reset ∧ o.link ≠ .idle
          (∀ n, p.opc.lamps.get n = .off) ∧ (cut → p.opc.link = o.link ∧ p.opc.shift = o.shift ∧ p.opc.cut = true ∧
            p.opc.byteTimer = o.byteTimer.map fun due => due - s.part.now) ∧
            (¬ cut → p.opc.link = .idle ∧ p.opc.shift = none ∧ p.opc.cut = false ∧ p.opc.byteTimer = none) ∧
            p.opc =
              { p.opc with
                buffered := none, rest := [], cursor := none, index := 0, pollTimer := 10000, pollPending := false
                clearPending := true, buttonPass := .latched, buttonFail := .latched, buttonRepeat := .latched
                prompts := [] })

/-- A device reset with one step in flight retires it ABORTED with detail NONE and results 0, with the timebase before
the reset as its finished timestamp (R16). Every device reset keeps every byte that is neither in a part-owned word that a
reset writes nor in the part's words of the slot of a step in flight (R2, R18). -/
def Obligations.DeviceResetKeepsThePool : Prop :=
  (∀ (s : State) (n : NestId) (st : Step), (s.part.nsq.get n).step = some st → st.slot.toNat < Config.slotCount →
    (∀ m, m ≠ n → (s.part.nsq.get m).step = none) →
    Answers .reset s fun p =>
      (∀ k, k ∈ [11, 12, 13, 14, 15] → p.word (slotAt st.slot.toNat k) = 0) ∧
        p.word (slotAt st.slot.toNat 9) = st.accepted ∧ p.word (slotAt st.slot.toNat 10) = s.part.timebase ∧
        p.word (slotAt st.slot.toNat 8) = finalWord .aborted .none ∧ (p.nsq.get n).step = none) ∧
  ∀ s : State, Answers .reset s fun p =>
    ∀ a, isResetWord (a / 4) = false →
      (∀ n st, (s.part.nsq.get n).step = some st → ∀ k, k ∈ [8, 9, 10, 11, 12, 13, 14, 15] →
        a / 4 ≠ slotAt st.slot.toNat k) →
      p.mem.byte a = s.part.mem.byte a

/-- A STOP input that reads pressed once a reset is complete is taken as station STOP: STOPPED, the STOP and
FIRST_FAULT factors set, and the first-fault record holding STATION_STOP of the station at time 0 (R73). Model's
choice: log entry 7. -/
def Obligations.StopPressedAtResetIsStationStop : Prop :=
  ∀ (c : Instr) (s : State), c = .powerOnReset ∨ c = .reset → s.part.stopPressed = true →
    Answers c s fun p =>
      p.station = .stopped ∧ p.word stationAt = 3 ∧ p.factor = 1#19 <<< factorStop ||| 1#19 <<< factorFirstFault ∧
        p.firstFault = some ⟨8, .stationStop, none, 0⟩ ∧ p.word ffStepAt = 0xFFFFFFFF#32 ∧ p.word ffTimeAt = 0 ∧
        ∀ n, (p.nsq.get n).state = .stopped ∧ (p.nsq.get n).fault = .none

/-- Host writes of the register block. A FACTOR write clears the flags it names and no other; MASK reads back as written
with its upper bits 0; a discarded write changes nothing; and INTREQ is asserted exactly while some factor flag is set
whose MASK bit is 1 (R17, R20, R21). RESUME returns a stopped station to RUN if the STOP input reads released, and is
discarded otherwise; it clears no factor and starts no chain (R19). -/
def Obligations.RegisterBlockWrites : Prop :=
  (∀ (v : W32) (s : State), Answers (.factorClear v) s fun p =>
      (∀ i, i < 19 → p.factor.getLsbD i = (s.part.factor.getLsbD i && !v.getLsbD i)) ∧
        p = { s.part with factor := p.factor }) ∧
    (∀ (v : W32) (s : State), Answers (.maskWrite v) s fun p =>
      (∀ i, (p.readRegister .mask).getLsbD i = (decide (i < 19) && v.getLsbD i)) ∧
        p = { s.part with mask := p.mask }) ∧
    (∀ (r : Register) (b : BitVec 4) (v : W32) (s : State), discardedWrite r b v = true →
      exec (.registerWriteDiscarded r b v) s = .next s) ∧
    (∀ p : Part, p.intreq = true ↔ ∃ i, i < 19 ∧ p.factor.getLsbD i = true ∧ p.mask.getLsbD i = true) ∧
    (∀ s : State, s.part.station = .stopped → s.part.stopPressed = false →
      Answers .resume s fun p =>
        p.station = .run ∧ p.word stationAt = 0 ∧ p = { s.part with station := p.station, mem := p.mem } ∧
          s.part.StoresOnly [stationAt] p) ∧
    ∀ s : State, s.part.station = .run ∨ s.part.stopPressed = true → exec .resume s = .next s

/-- A host write changes the bytes it names and no other byte, and a write to a watched word sends a watch request; nothing
else of the part changes (R1, R5). A watch request appends an event at the tail of the watch queue, or merges into the one
already queued for the word (R5). Model's choice: log entry 12, by which a watch request waits in the list of messages
until it is taken. -/
def Obligations.HostWritesAreWatched : Prop :=
  (∀ (w : W16) (b : BitVec 4) (v : W32) (s : State), b ≠ 0 →
    Answers (.hostWrite w b v) s fun p =>
      (∀ k, k < 4 → p.mem.byte (4 * w.toNat + k) =
          if b.getLsbD k then v.extractLsb' (8 * k) 8 else s.part.mem.byte (4 * w.toNat + k)) ∧
        s.part.StoresOnly [w.toNat] p ∧
        (∀ x : Watched, watchedIndex x = w.toNat → p.sent = s.part.sent ++ [.watchRequest x]) ∧
        ((∀ x : Watched, watchedIndex x ≠ w.toNat) → p.sent = s.part.sent) ∧
        p = { s.part with mem := p.mem, sent := p.sent }) ∧
  ∀ (w : Watched) (s : State), Answers (.watchRequest w) s fun p =>
    p.watchQueue = (if s.part.watchQueue.contains w then s.part.watchQueue else s.part.watchQueue ++ [w]) ∧
      p = { s.part with watchQueue := p.watchQueue, sent := s.part.sent.erase (.watchRequest w) }

/-- FAULT_RELEASE makes a VALID first-fault record invalid, leaves an invalid one, and leaves every factor as it stands.
A fault offered after it is captured; one offered before it is not (R24). -/
def Obligations.FaultReleaseOpensTheRecord : Prop :=
  (∀ (q : List Watched) (s : State), s.part.watchQueue = .faultRelease :: q →
    Answers .faultReleaseEvent s fun p =>
      p.firstFault = none ∧ p.watchQueue = q ∧ p.factor = s.part.factor ∧
        (s.part.firstFault.isSome →
          p.word ffStateAt = 0 ∧ p.word ffStepAt = 0xFFFFFFFF#32 ∧ p.word ffTimeAt = 0) ∧
        (s.part.firstFault = none → p.mem = s.part.mem) ∧
        s.part.StoresOnly [ffStateAt, ffStepAt, ffTimeAt] p ∧
        p = { s.part with firstFault := p.firstFault, watchQueue := p.watchQueue, mem := p.mem }) ∧
    ∀ (source : Fin 9) (kind : FaultKind) (seq : Option W16) (p : Part),
      (p.firstFault.isSome → p.offerFault source kind seq = p) ∧
        (p.releaseFirstFault.offerFault source kind seq).firstFault = some ⟨source, kind, seq, p.timebase⟩ ∧
        (p.firstFault.isSome → (p.offerFault source kind seq).releaseFirstFault.firstFault = none)

/-- A POST event in STOPPED with the station in RUN whose POST lies in the window is a chain start: RETIRED, LIMIT and
CURRENT are written, and the head record is accepted, with its deadline running (R7, R11, R12, R26, R32). What follows
stands for every kind, with the head record alone posted where it ends at once. A WAIT runs its timer (R36); a step of an
owner is handed to it, and runs, is held or retires by the answer; a skipped step, an unknown kind, a WAIT of 0,
UNIT_BEGIN, and UNIT_END with and without an OPEN unit retire at once, and the nest is WAITING (R29, R37, R38, R40, R42).
Model's choice: log entries 12, and 19 for a fixture step or a PROMPT while a station STOP's notice to the sequencer or to
the panel controller is on its way. -/
def Obligations.ChainStartAcceptsTheHeadRecord : Prop :=
  ∀ (n : NestId) (q : List Watched) (s : State), s.part.watchQueue = .post n :: q →
    (s.part.nsq.get n).state = .stopped → s.part.station = .run →
    let x := s.part.nsq.get n
    let head := s.part.word (nestAt n 0)
    let post : W16 := field (s.part.word (nestAt n 1)) 0 16
    let base : W16 := field (s.part.word (slotAt head.toNat 0)) 0 16
    let st := s.part.stepIn (field head 0 16)
    let skipped := x.skipping = true ∧ st.always = false ∧ st.kind ≠ some .unitBegin ∧ st.kind ≠ some .unitEnd
    let a := s.part.chainStarted n q base post st
    let retires (v : Verdict) (d : Detail) (r : Results) (p : Part) : Prop :=
      p.word (nestAt n 6) = seqWord (some post) ∧ s.part.Retires n st v d r p ∧ (p.nsq.get n).state = .waiting ∧
        (p.nsq.get n).limit = some post ∧ (p.nsq.get n).position = some st.nextSlot ∧ p.watchQueue = q
    let unit (p : Part) (u : UnitRecord) : Prop :=
      (p.nsq.get n).unit = u ∧ p.word (nestAt n 10) = unitCode u.state ∧ p.word (nestAt n 15) = u.closedAt
    head.toNat < 2048 → 1 ≤ seqDistance (base - 1) post → seqDistance (base - 1) post ≤ 2048 →
    (¬ skipped → st.kind = some .wait → st.w 2 ≠ 0 → Answers (.postEvent n) s fun p =>
      p = { a with
            nsq := a.nsq.put n { a.nsq.get n with waitTimer := some (s.part.now + 1000 * (st.w 2).toNat) } }) ∧
      (∀ k, ¬ skipped → st.kind = some k → k ∉ [.unitBegin, .unitEnd, .wait] →
        (k.barredByStop = true → .stationStop n ∈ s.part.sent → Answers (.postEvent n) s fun p =>
          p = { a with nsq := a.nsq.put n { a.nsq.get n with unhanded := true } }) ∧
        (k.barredByStop = false ∨ .stationStop n ∉ s.part.sent →
          ((a.handOff n k st).2 = .started →
            Answers (.postEvent n) s fun p => p = (a.handOff n k st).1) ∧
          (∀ why, (a.handOff n k st).2 = .held why → Answers (.postEvent n) s fun p =>
            let t := (a.handOff n k st).1
            p.nsq = t.nsq.put n { t.nsq.get n with state := .held, hold := why } ∧
              p.word (nestAt n 7) = p.nestStateWord n ∧ t.StoresOnly [nestAt n 7] p ∧
              p = { t with nsq := p.nsq, mem := p.mem }) ∧
          ∀ v d r, post = base → (a.handOff n k st).2 = .done v d r → Answers (.postEvent n) s fun p =>
            let t := (a.handOff n k st).1
            retires v d r p ∧ t.ButForTheStep n (field head 0 16) p ∧ p.opc = t.opc)) ∧
      (post = base →
        (skipped → Answers (.postEvent n) s fun p =>
          retires .skipped .none .zero p ∧ a.ButForTheStep n (field head 0 16) p ∧ p.opc = s.part.opc) ∧
        (¬ skipped → st.kind = none → Answers (.postEvent n) s fun p =>
          retires .refused .badKind .zero p ∧ a.ButForTheStep n (field head 0 16) p ∧ p.opc = s.part.opc) ∧
        (¬ skipped → st.kind = some .wait → st.w 2 = 0 → Answers (.postEvent n) s fun p =>
          retires .pass .none .zero p ∧ a.ButForTheStep n (field head 0 16) p ∧ p.opc = s.part.opc) ∧
        (st.kind = some .unitBegin → Answers (.postEvent n) s fun p =>
          retires .pass .none ⟨flag (decide (x.unit.state = .opened)) 0, 0, 0, 0, 0⟩ p ∧
            unit p ⟨st.w 2, .opened, 0, 0, 0, 0, none, s.part.timebase, 0⟩ ∧ p.word (nestAt n 9) = st.w 2 ∧
            p.word (nestAt n 11) = 0 ∧ p.word (nestAt n 12) = 0 ∧ p.word (nestAt n 13) = 0xFFFFFFFF#32 ∧
            p.word (nestAt n 14) = s.part.timebase ∧ p.opc.lamps.get n = .amber ∧
            a.ButForTheStep n (field head 0 16) p) ∧
        (st.kind = some .unitEnd → x.unit.state = .opened → Answers (.postEvent n) s fun p =>
          let u := x.unit
          let verdict : UnitState := if u.error ≠ 0 then .error else if u.fail ≠ 0 then .fail else .pass
          retires .pass .none
              ⟨unitCode verdict, place u.pass 0 ||| place u.fail 16, place u.error 0 ||| place u.skip 16,
                seqWord u.firstFail, 0⟩ p ∧
            unit p { u with state := verdict, closedAt := s.part.timebase } ∧
            p.opc.lamps.get n = (if verdict = .pass then .green else .red) ∧
            p.factor = s.part.factor ||| 1#19 <<< factorNotify n ∧ a.ButForTheStep n (field head 0 16) p) ∧
        (st.kind = some .unitEnd → x.unit.state ≠ .opened → Answers (.postEvent n) s fun p =>
          retires .refused .noUnit ⟨0, 0, 0, 0xFFFFFFFF#32, 0⟩ p ∧ (p.nsq.get n).unit = x.unit ∧
            p.factor = s.part.factor ||| 1#19 <<< factorNotify n ∧ a.ButForTheStep n (field head 0 16) p ∧
            p.opc = s.part.opc))

/-- A chain start whose POST lies at distance 0 or above 2,048 is held: RETIRED is set to the base minus 1, POST_RANGE is
set and nothing else changes. One whose HEAD is 2,048 or above faults the nest with CHAIN_BROKEN (R7, R49). -/
def Obligations.ChainStartHeldOrBroken : Prop :=
  ∀ (n : NestId) (q : List Watched) (s : State), s.part.watchQueue = .post n :: q →
    (s.part.nsq.get n).state = .stopped → s.part.station = .run → (s.part.nsq.get n).step = none →
    let head := s.part.word (nestAt n 0)
    let post : W16 := field (s.part.word (nestAt n 1)) 0 16
    let base : W16 := field (s.part.word (slotAt head.toNat 0)) 0 16
    (head.toNat < 2048 → seqDistance (base - 1) post = 0 ∨ 2048 < seqDistance (base - 1) post →
      Answers (.postEvent n) s fun p =>
        p.nsq.get n = { s.part.nsq.get n with retired := some (base - 1) } ∧
          p.word (nestAt n 4) = seqWord (some (base - 1)) ∧ p.factor = s.part.factor ||| 1#19 <<< factorPostRange ∧
          s.part.StoresOnly [nestAt n 4] p ∧ s.part.NestOnly n p ∧
          p = { s.part with watchQueue := q, nsq := p.nsq, factor := p.factor, mem := p.mem }) ∧
      (2048 ≤ head.toNat →
        Answers (.postEvent n) s fun p =>
          p.nsq.get n =
            { s.part.nsq.get n with
              state := .faulted, hold := .none, position := none, fault := .chainBroken, faultSeq := none } ∧
            p.word (nestAt n 8) = 1 ∧ p.factor.getLsbD (factorFault n) = true ∧
            (s.part.firstFault = none → p.firstFault = some ⟨n.castSucc, .chainBroken, none, s.part.timebase⟩) ∧
            (s.part.firstFault.isSome → p.firstFault = s.part.firstFault) ∧
            s.part.StoresOnly [nestAt n 7, nestAt n 8, ffStateAt, ffStepAt, ffTimeAt] p ∧ s.part.NestOnly n p)

/-- A POST event elsewhere. In RUNNING or HELD a POST in the window becomes the posted limit, one at distance 0 is
discarded, and one above 2,048 sets POST_RANGE; the same holds in STOPPED under station STOP with RETIRED present, and in
WAITING, but there a new limit fetches the next step at once: a WAIT is accepted, and a fetch that fails a check faults
the nest; in STOPPED under station STOP with RETIRED absent POST becomes the limit; in FAULTED the event is discarded
(R8, R9, R10, R11). -/
def Obligations.PostMovesTheLimitOrIsHeld : Prop :=
  ∀ (n : NestId) (q : List Watched) (s : State), s.part.watchQueue = .post n :: q →
    let x := s.part.nsq.get n
    let post : W16 := field (s.part.word (nestAt n 1)) 0 16
    let known := x.state = .running ∨ x.state = .held ∨ (x.state = .stopped ∧ s.part.station = .stopped)
    let setsLimit := Answers (.postEvent n) s fun p =>
      p.nsq.get n = { x with limit := some post } ∧ p.word (nestAt n 6) = seqWord (some post) ∧
        s.part.StoresOnly [nestAt n 6] p ∧ s.part.NestOnly n p ∧
        p = { s.part with watchQueue := q, nsq := p.nsq, mem := p.mem }
    (∀ r, known ∨ x.state = .waiting → x.retired = some r →
      (known → 1 ≤ seqDistance r post → seqDistance r post ≤ 2048 → setsLimit) ∧
        (seqDistance r post = 0 → exec (.postEvent n) s = .next { s with part := { s.part with watchQueue := q } }) ∧
        (2048 < seqDistance r post →
          Answers (.postEvent n) s fun p =>
            p.factor = s.part.factor ||| 1#19 <<< factorPostRange ∧
              p = { s.part with watchQueue := q, factor := p.factor })) ∧
      (∀ r slot, x.state = .waiting → x.retired = some r → x.position = some slot →
        1 ≤ seqDistance r post → seqDistance r post ≤ 2048 →
        let st := s.part.stepIn slot
        (slot.toNat < 2048 → st.sequence = r + 1 → st.kind = some .wait → st.w 2 ≠ 0 →
          x.skipping = false ∨ st.always = true → Answers (.postEvent n) s fun p =>
            s.part.AcceptsWait n st p ∧ p.word (nestAt n 6) = seqWord (some post) ∧
              p.nsq.get n =
                { p.nsq.get n with
                  retired := some r, limit := some post, skipping := x.skipping, unit := x.unit, fault := x.fault
                  faultSeq := x.faultSeq } ∧
              s.part.StoresOnly [nestAt n 5, nestAt n 6, nestAt n 7, slotAt slot.toNat 8, slotAt slot.toNat 9] p ∧
              s.part.NestOnly n p ∧ p = { s.part with watchQueue := q, nsq := p.nsq, mem := p.mem }) ∧
          (2048 ≤ slot.toNat ∨ st.sequence ≠ r + 1 → x.step = none → Answers (.postEvent n) s fun p =>
            p.nsq.get n =
                { x with limit := some post, state := .faulted, hold := .none, position := none, fault := .chainBroken
                         faultSeq := none } ∧
              s.part.Records n .chainBroken none p ∧ p.word (nestAt n 6) = seqWord (some post) ∧
              p.word (nestAt n 7) = p.nestStateWord n ∧ s.part.SetsOnly [factorFault n, factorFirstFault] p ∧
              s.part.StoresOnly [nestAt n 6, nestAt n 7, nestAt n 8, ffStateAt, ffStepAt, ffTimeAt] p ∧
              s.part.NestOnly n p ∧
              p = { s.part with watchQueue := q, nsq := p.nsq, mem := p.mem, factor := p.factor
                                firstFault := p.firstFault })) ∧
      (x.state = .stopped → s.part.station = .stopped → x.retired = none → setsLimit) ∧
      (x.state = .faulted → exec (.postEvent n) s = .next { s with part := { s.part with watchQueue := q } })

/-! ### Chapter 2 -/

/-- An owner's outcome for the last posted step in execution retires it as R14 orders: the record, RETIRED, CURRENT,
NOTIFY; the unit counts, and the first failing sequence, whose word later steps leave as it stands (R39); SKIPPING (R41,
R43); and the nest is WAITING (R10, R28). Every outcome of the nest that is still on its way is then late. An outcome that
arrives late, of a step that has retired, is discarded, and leaves a later step of the same sequence in execution; so is
one that names a step not in execution (R28). Model's choice: log entry 12. -/
def Obligations.OutcomeRetiresTheStep : Prop :=
  (∀ (o : OwnerOutcome) (s : State), s.part.Late (.ownerOutcome o) →
    Answers (.ownerOutcome o) s fun p => p = { s.part with sent := s.part.sent.erase (.late (.ownerOutcome o)) }) ∧
  (∀ (o : OwnerOutcome) (s : State), ¬ s.part.Late (.ownerOutcome o) →
    (∀ st, (s.part.nsq.get o.nest).step = some st → st.sequence ≠ o.sequence) →
    Answers (.ownerOutcome o) s fun p => p = { s.part with sent := s.part.sent.erase (.ownerOutcome o) }) ∧
  ∀ (o : OwnerOutcome) (st : Step) (s : State), ¬ s.part.Late (.ownerOutcome o) → s.part.LastStep o.nest st →
    o.sequence = st.sequence →
    let u := (s.part.nsq.get o.nest).unit
    let unitStep := st.kind = some .unitBegin ∨ st.kind = some .unitEnd
    let failed := o.verdict = .fail ∨ o.verdict = .timeout
    let counted := u.state = .opened ∧ ¬ unitStep
    let bumped (x : W16) : W16 := if x = 0xFFFF#16 then x else x + 1
    Answers (.ownerOutcome o) s fun p =>
      let v := (p.nsq.get o.nest).unit
      s.part.Retires o.nest st o.verdict o.detail o.results p ∧ (p.nsq.get o.nest).state = .waiting ∧
        (p.nsq.get o.nest).hold = .none ∧
        ((p.nsq.get o.nest).skipping = true ↔
          ((s.part.nsq.get o.nest).skipping = true ∧ ¬ unitStep) ∨
            (st.critical = true ∧ (failed ∨ o.verdict = .refused))) ∧
        (counted → v.pass = (if o.verdict = .pass then bumped u.pass else u.pass) ∧
          v.fail = (if failed then bumped u.fail else u.fail) ∧
          v.error = (if o.verdict = .refused ∨ o.verdict = .aborted then bumped u.error else u.error) ∧
          v.skip = (if o.verdict = .skipped then bumped u.skip else u.skip) ∧
          v.firstFail = (if failed ∧ u.firstFail = none then some st.sequence else u.firstFail) ∧
          p.word (nestAt o.nest 11) = place v.pass 0 ||| place v.fail 16 ∧
          p.word (nestAt o.nest 12) = place v.error 0 ||| place v.skip 16 ∧
          p.word (nestAt o.nest 13) =
            (if failed ∧ u.firstFail = none then seqWord (some st.sequence) else s.part.word (nestAt o.nest 13))) ∧
        (¬ counted → v = u) ∧
        p.factor = (if st.notify = true ∨ st.kind = some .unitEnd then s.part.factor ||| 1#19 <<< factorNotify o.nest
          else s.part.factor) ∧
        p.sent = outcomesLate o.nest (s.part.sent.erase (.ownerOutcome o)) ∧
        s.part.StoresOnly (slotWords st.slot ++ nestWords o.nest) p ∧ s.part.NestOnly o.nest p

/-- A retirement with a step still posted. A fetch that fails a check faults the nest with CHAIN_BROKEN and no sequence,
drops the chain position and leaves the failing record (R10, R11, R49). A fetch that passes both accepts the next step,
one that is not skipped, at the same event: the nest is RUNNING again (R10, R12, R26). A WAIT runs its timer. A fixture
step or a PROMPT, while station STOP is latched or its notice is on its way, is not handed over: the fixtures, the power
queue and the panel stay as they are (R72, R189). A late outcome, which OutcomeRetiresTheStep covers, retires
nothing. Model's choice: log entries 12, 19. -/
def Obligations.FailedFetchFaultsTheNest : Prop :=
  ∀ (o : OwnerOutcome) (st : Step) (slot limit : W16) (s : State),
    ¬ s.part.Late (.ownerOutcome o) →
    (s.part.nsq.get o.nest).step = some st → st.slot.toNat < Config.slotCount → o.sequence = st.sequence →
    (s.part.nsq.get o.nest).limit = some limit → 1 ≤ seqDistance st.sequence limit →
    (s.part.nsq.get o.nest).position = some slot → slot ≠ st.slot →
    (s.part.nsq.get o.nest).state = .running ∨ (s.part.nsq.get o.nest).state = .held →
    let n := o.nest
    let next := s.part.stepIn slot
    (2048 ≤ slot.toNat ∨ next.sequence ≠ st.sequence + 1 → Answers (.ownerOutcome o) s fun p =>
      s.part.Retires n st o.verdict o.detail o.results p ∧ (p.nsq.get n).state = .faulted ∧
        (p.nsq.get n).position = none ∧ s.part.Records n .chainBroken none p ∧ (p.nsq.get n).limit = some limit ∧
        p.word (nestAt n 7) = p.nestStateWord n ∧
        p.sent = outcomesLate n (s.part.sent.erase (.ownerOutcome o)) ∧
        s.part.StoresOnly (slotWords st.slot ++ nestWords n ++ [ffStateAt, ffStepAt, ffTimeAt]) p ∧
        s.part.NestOnly n p) ∧
      (slot.toNat < 2048 → next.sequence = st.sequence + 1 →
        next.always = true ∨
          ((s.part.nsq.get n).skipping = false ∧ (st.critical = false ∨ o.verdict = .pass)) →
        let follows (p : Part) : Prop :=
          (p.nsq.get n).retired = some st.sequence ∧
            (p.nsq.get n).limit = some limit ∧ p.word (nestAt n 4) = seqWord (some st.sequence) ∧
            p.word (slotAt st.slot.toNat 8) = finalWord o.verdict o.detail ∧
            p.word (slotAt st.slot.toNat 9) = st.accepted ∧ p.word (slotAt st.slot.toNat 10) = s.part.timebase ∧
            p.word (slotAt st.slot.toNat 11) = o.results.w11 ∧ p.word (slotAt st.slot.toNat 12) = o.results.w12 ∧
            p.word (slotAt st.slot.toNat 13) = o.results.w13 ∧ p.word (slotAt st.slot.toNat 14) = o.results.w14 ∧
            p.word (slotAt st.slot.toNat 15) = o.results.w15 ∧
            p.sent = outcomesLate n (s.part.sent.erase (.ownerOutcome o)) ∧
            s.part.StoresOnly (slotWords st.slot ++ nestWords n ++ [slotAt slot.toNat 8, slotAt slot.toNat 9]) p ∧
            s.part.NestOnly n p
        (next.kind = some .wait → next.w 2 ≠ 0 → Answers (.ownerOutcome o) s fun p =>
          s.part.AcceptsWait n next p ∧ follows p) ∧
          ∀ k, next.kind = some k → k.barredByStop = true → s.part.station = .stopped ∨ .stationStop n ∈ s.part.sent →
            Answers (.ownerOutcome o) s fun p =>
              s.part.Accepts n next none true p ∧ follows p ∧
                p.fxc = s.part.fxc.put n { s.part.fxc.get n with powerOn := none } ∧
                p.powerQueue = s.part.powerQueue ∧ p.opc = s.part.opc)

/-- The expiry of a WAIT's timer retires the WAIT PASS with results 0 (R36). The expiry of the deadline timer has the owner
end the step's operation, and retires a RUNNING step with the verdict of R33's table for its kind, a HELD step TIMEOUT
DEADLINE whatever its kind, with the results the owner then holds (R33, R34). The nest, with nothing more posted, is
WAITING. A deadline of 0 is 30,000 ms, any other its count, so the timer of a step just accepted is never due; and an
expiry of a timer that does not run or is not due, such as a late one of a step already retired, is discarded (R32, R35,
R36). An expiry that finds an outcome already sent takes that outcome, as though it had arrived, and is discarded. Model's
choice: log entries 10, 12, 15. -/
def Obligations.TimersRetireTheStep : Prop :=
  (∀ st : Step, let ms := (field (st.w 1) 16 16 : W16).toNat
    st.deadlineMs = (if ms = 0 then 30000 else ms) ∧ 1 ≤ st.deadlineMs ∧ st.deadlineMs ≤ 65535) ∧
  (∀ (n : NestId) (s : State),
    (¬ s.part.Due (s.part.nsq.get n).waitTimer → exec (.waitExpiry n) s = .next s) ∧
      (¬ s.part.Due (s.part.nsq.get n).deadline → exec (.deadlineExpiry n) s = .next s)) ∧
  (∀ (n : NestId) (st : Step) (s : State), s.part.LastStep n st → st.kind = some .wait →
    s.part.Due (s.part.nsq.get n).waitTimer →
    Answers (.waitExpiry n) s fun p =>
      s.part.Retires n st .pass .none .zero p ∧ (p.nsq.get n).state = .waiting ∧
        s.part.ButForTheStep n st.slot p ∧ p.opc = s.part.opc ∧ p.firstFault = s.part.firstFault ∧
        s.part.SetsOnly [factorNotify n] p) ∧
  ∀ (n : NestId) (st : Step) (k : Kind) (s : State), s.part.LastStep n st → st.kind = some k →
    s.part.Due (s.part.nsq.get n).deadline →
    let v : Verdict × Detail :=
      if (s.part.nsq.get n).state = .held then (.timeout, .deadline)
      else if k = .checkGauge then (.timeout, .notSettled)
      else if k = .checkFreq then (.timeout, .noEdges)
      else if k = .checkFrame then (.timeout, .noMatch)
      else if k = .checkLamps then (.fail, .mismatch) else (.timeout, .deadline)
    let t := s.part.ownerStopped n st .deadline
    (Uncompleted s.part.sent n st → Answers (.deadlineExpiry n) s fun p =>
      s.part.Retires n st v.1 v.2 (t.leftFor n) p ∧ (p.nsq.get n).state = .waiting ∧ (p.nsq.get n).hold = .none ∧
        t.ButForTheStep n st.slot p ∧ p.opc = t.opc ∧ p.firstFault = t.firstFault ∧ t.SetsOnly [factorNotify n] p) ∧
      ∀ o, Completed s.part.sent n st o →
        exec (.deadlineExpiry n) s = exec (.ownerOutcome o) { s with part := s.part.outcomeFirst o }

/-- A nest abort in RUNNING or HELD, by its three causes: the owner stops, the step retires ABORTED with the cause's
detail and what the owner reports, NEST_FAULT holds the cause with the step's sequence, FAULT[n] is set, the nest is
powered off, an OPEN unit closes ABORTED, SKIPPING is off, and the nest is STOPPED without a chain position, with LIMIT
as it was (R46). A step whose outcome was sent before the abort retires with it before the abort is taken, as though it had
arrived; an outcome sent behind the notice of a lid abort or a station STOP is not taken first, and is late after it, so
that it is discarded (R28, R48). Model's choice: log entry
12, by which the owner's stop and the power-off are carried out within the abort, and messages keep their order; log
entry 15. -/
def Obligations.NestAbortStopsTheNest : Prop :=
  ∀ (n : NestId) (st : Step) (c : Instr) (d : Detail) (k : FaultKind) (q : List Watched) (s : State),
    let b : Part := if c = .abortEvent n then { s.part with watchQueue := q }
      else if c = .lidAbort n then { s.part with sent := s.part.sent.erase (.lidAbort n) }
      else { s.part with sent := s.part.sent.erase (.stationStop n) }
    (c = .abortEvent n ∧ s.part.watchQueue = .abort n :: q ∧ d = .abortRequest ∧ k = .abortRequest) ∨
      (c = .lidAbort n ∧ d = .lidOpened ∧ k = .lidOpened) ∨
      (c = .stationStopNotice n ∧ d = .stationStop ∧ k = .stationStop) →
    (s.part.nsq.get n).state = .running ∨ (s.part.nsq.get n).state = .held →
    (s.part.nsq.get n).step = some st → st.slot.toNat < Config.slotCount →
    ((s.part.fxc.get n).state = .powering → ∀ e ∈ s.part.powerQueue, e.nest ≠ n) →
    let t := b.ownerStopped n st .stop
    let u := t.runs [.powerOffRequest n]
    let first : List Notice := if c = .abortEvent n then s.part.sent
      else if c = .lidAbort n then s.part.earlier (.lidAbort n) else s.part.earlier (.stationStop n)
    (Uncompleted first n st → Answers c s fun p =>
      s.part.Retires n st .aborted d (t.leftFor n) p ∧ (p.nsq.get n).state = .stopped ∧ (p.nsq.get n).hold = .none ∧
        (p.nsq.get n).position = none ∧ (p.nsq.get n).skipping = false ∧ p.word (nestAt n 7) = p.nestStateWord n ∧
        s.part.Records n k (some st.sequence) p ∧ (p.nsq.get n).limit = (s.part.nsq.get n).limit ∧
        (p.fxc.get n).state.supplied = false ∧ (p.nsq.get n).unit.state ≠ .opened ∧
        ((s.part.nsq.get n).unit.state = .opened →
          (p.nsq.get n).unit.state = .aborted ∧ p.word (nestAt n 10) = 5 ∧ p.opc.lamps.get n = .red) ∧
        ((s.part.nsq.get n).unit.state ≠ .opened → p.opc = u.opc) ∧ u.ButForTheStep n st.slot p) ∧
      ∀ o x, s.part.LastStep n st → Completed first n st o →
        exec (.ownerOutcome o) { s with part := s.part.outcomeFirst o } = .next x → exec c s = exec c x

/-- A nest abort where no step is in execution. In WAITING the nest goes to STOPPED with the fault recorded without a
sequence. In STOPPED an ABORT event and a station STOP have no effect, and a lid abort is taken as its fault alone. In
FAULTED an ABORT event leads to STOPPED and records no fault and sets no factor, and a lid abort or a station STOP
records its fault and leaves the nest FAULTED. Where the nest goes to STOPPED the chain position is dropped (R47, R48,
R50, R51). Model's choice: log entry 12. -/
def Obligations.NestAbortWithoutAStep : Prop :=
  ∀ (n : NestId) (q : List Watched) (s : State), (s.part.nsq.get n).step = none →
    ((s.part.fxc.get n).state = .powering → ∀ e ∈ s.part.powerQueue, e.nest ≠ n) →
    let x := s.part.nsq.get n
    let dequeued := { s.part with watchQueue := q }
    let noticed (m : Notice) : Part := { s.part with sent := s.part.sent.erase m }
    let shutDown (b : Part) (p : Part) : Prop :=
      let u := b.runs [.powerOffRequest n]
      (p.fxc.get n).state.supplied = false ∧
        (p.nsq.get n).unit =
          (if x.unit.state = .opened then { x.unit with state := .aborted, closedAt := s.part.timebase } else x.unit) ∧
        (x.unit.state = .opened →
          p.word (nestAt n 10) = 5 ∧ p.word (nestAt n 15) = s.part.timebase ∧ p.opc.lamps.get n = .red) ∧
        (x.unit.state ≠ .opened → p.opc = u.opc) ∧ Bank.AgreeBut n u.opc.lamps p.opc.lamps ∧
        Bank.AgreeBut n u.nsq p.nsq ∧
        u.StoresOnly ([7, 8, 10, 15].map (nestAt n) ++ [ffStateAt, ffStepAt, ffTimeAt]) p ∧
        p = { u with nsq := p.nsq, mem := p.mem, factor := p.factor, firstFault := p.firstFault
                     opc := { u.opc with lamps := p.opc.lamps } }
    let stops (p : Part) : Prop :=
      p.nsq.get n =
          { p.nsq.get n with
            state := .stopped, hold := .none, position := none, deadline := none, skipping := false
            retired := x.retired, limit := x.limit, step := none } ∧
        p.word (nestAt n 7) = p.nestStateWord n
    let stays (p : Part) : Prop :=
      p.nsq.get n =
        { x with fault := (p.nsq.get n).fault, faultSeq := none, unit := (p.nsq.get n).unit
                 report := (p.nsq.get n).report }
    let records (k : FaultKind) (p : Part) : Prop :=
      s.part.Records n k none p ∧ s.part.SetsOnly [factorFault n, factorFirstFault] p
    (x.state = .waiting →
      (s.part.watchQueue = .abort n :: q → Answers (.abortEvent n) s fun p =>
        records .abortRequest p ∧ shutDown dequeued p ∧ stops p) ∧
        (Answers (.lidAbort n) s fun p => records .lidOpened p ∧ shutDown (noticed (.lidAbort n)) p ∧ stops p) ∧
        Answers (.stationStopNotice n) s fun p =>
          records .stationStop p ∧ shutDown (noticed (.stationStop n)) p ∧ stops p) ∧
      (x.state = .faulted →
        (s.part.watchQueue = .abort n :: q → Answers (.abortEvent n) s fun p =>
          (p.nsq.get n).fault = x.fault ∧ (p.nsq.get n).faultSeq = x.faultSeq ∧
            p.word (nestAt n 8) = s.part.word (nestAt n 8) ∧ p.factor = s.part.factor ∧
            p.firstFault = s.part.firstFault ∧ shutDown dequeued p ∧ stops p) ∧
          (Answers (.lidAbort n) s fun p => records .lidOpened p ∧ shutDown (noticed (.lidAbort n)) p ∧ stays p) ∧
          Answers (.stationStopNotice n) s fun p =>
            records .stationStop p ∧ shutDown (noticed (.stationStop n)) p ∧ stays p) ∧
      (x.state = .stopped →
        (s.part.watchQueue = .abort n :: q → exec (.abortEvent n) s = .next { s with part := dequeued }) ∧
          exec (.stationStopNotice n) s = .next { s with part := noticed (.stationStop n) } ∧
          Answers (.lidAbort n) s fun p =>
            records .lidOpened p ∧ p.nsq = s.part.nsq.put n { x with fault := .lidOpened, faultSeq := none } ∧
              s.part.StoresOnly [nestAt n 8, ffStateAt, ffStepAt, ffTimeAt] p ∧
              p = { noticed (.lidAbort n) with
                    nsq := p.nsq, mem := p.mem, factor := p.factor, firstFault := p.firstFault })

/-- A supply trip. With the last posted step in execution the owner stops, the step retires FAIL SUPPLY_TRIP with what the
owner reports, NEST_FAULT holds its sequence, SKIPPING is on, the unit keeps its state, and the nest is WAITING. With no
step the fault is recorded without a sequence, and SKIPPING turns on unless the nest is STOPPED. A step whose outcome was
sent before the trip retires with it before the trip is taken, as though it had arrived; one sent behind the trip's notice
is not taken first, and is late after it, so that it is discarded (R28, R44, R48, R50). Model's choice: log entries 12, 15. -/
def Obligations.SupplyTripFailsTheStep : Prop :=
  (∀ (n : NestId) (st : Step) (s : State), s.part.LastStep n st →
      (s.part.nsq.get n).state = .running ∨ (s.part.nsq.get n).state = .held →
      let t := { s.part with sent := s.part.sent.erase (.supplyTrip n) }.ownerStopped n st .stop
      let first := s.part.earlier (.supplyTrip n)
      (Uncompleted first n st → st.kind ≠ some .unitBegin → st.kind ≠ some .unitEnd →
        Answers (.supplyTripNotice n) s fun p =>
          s.part.Retires n st .fail .supplyTrip (t.leftFor n) p ∧ (p.nsq.get n).state = .waiting ∧
            (p.nsq.get n).hold = .none ∧ (p.nsq.get n).skipping = true ∧ p.word (nestAt n 7) = p.nestStateWord n ∧
            s.part.Records n .supplyTrip (some st.sequence) p ∧
            (p.nsq.get n).unit.state = (s.part.nsq.get n).unit.state ∧ t.ButForTheStep n st.slot p ∧ p.opc = t.opc) ∧
        ∀ o x, Completed first n st o →
          exec (.ownerOutcome o) { s with part := s.part.outcomeFirst o } = .next x →
          exec (.supplyTripNotice n) s = exec (.supplyTripNotice n) x) ∧
    ∀ (n : NestId) (s : State), (s.part.nsq.get n).step = none →
      let x := s.part.nsq.get n
      Answers (.supplyTripNotice n) s fun p =>
        p.nsq =
            s.part.nsq.put n
              { x with fault := .supplyTrip, faultSeq := none
                       skipping := decide (x.state ≠ .stopped) || x.skipping } ∧
          s.part.Records n .supplyTrip none p ∧ s.part.SetsOnly [factorFault n, factorFirstFault] p ∧
          (x.state ≠ .stopped → x.skipping = false → p.word (nestAt n 7) = p.nestStateWord n) ∧
          s.part.StoresOnly [nestAt n 7, nestAt n 8, ffStateAt, ffStepAt, ffTimeAt] p ∧
          p = { s.part with
                nsq := p.nsq, mem := p.mem, factor := p.factor, firstFault := p.firstFault
                sent := s.part.sent.erase (.supplyTrip n) }

/-! ### Chapter 3 -/

/-- Clamp motions. A CLAMP with the lid closed in OPEN, and an UNCLAMP in CLAMPED or CONTACT_OK, pass at once where the
sensor already reads, and otherwise start a motion of 2,000 ms; in DISCHARGING both are HELD FIXTURE, elsewhere REFUSED
(R55, R57, R69). The sensor that a motion waits for ends it and completes the step PASS; in any other state the sensor
reaches its image alone. The motion timer's expiry reverses a closing motion, leaves an opening one running, records
CLAMP_TIMEOUT, and completes the step FAIL CLAMP_TIMEOUT (R56, R57). Model's choice: log entries 10, 12. -/
def Obligations.ClampMotionsEnd : Prop :=
  (∀ (n : NestId) (st : Step) (s : Part),
    let f := s.fxc.get n
    let images (g : Fixture) : Results :=
      ⟨flag g.clampClosed 0 ||| flag g.clampOpen 1 ||| flag g.lidClosed 2, 0, 0, 0, 0⟩
    let held : Part × Answer := ({ s with fxc := s.fxc.put n { f with heldStep := true } }, .held .fixture)
    (f.state = .opened → f.lidClosed = true →
      s.handOff n .clamp st =
        if f.clampClosed then
          (s.showing n { f with state := .clamped, drive := .holdingClosed }, .done .pass .none (images f))
        else
          (s.showing n { f with state := .clamping, drive := .closing, motionTimer := some (s.now + 2000000) },
            .started)) ∧
      (f.state = .clamped ∨ f.state = .contactOk →
        s.handOff n .unclamp st =
          if f.clampOpen then
            (s.showing n { f with state := .opened, drive := .holdingOpen }, .done .pass .none (images f))
          else
            (s.showing n { f with state := .unclamping, drive := .opening, motionTimer := some (s.now + 2000000) },
              .started)) ∧
      (f.state = .discharging → s.handOff n .clamp st = held ∧ s.handOff n .unclamp st = held) ∧
      (f.state ≠ .discharging → f.state ≠ .opened ∨ f.lidClosed = false →
        s.handOff n .clamp st = (s, .done .refused .badState .zero)) ∧
      (f.state ≠ .discharging → f.state ≠ .clamped → f.state ≠ .contactOk →
        s.handOff n .unclamp st = (s, .done .refused .badState .zero))) ∧
  ∀ (n : NestId) (s : State),
    let f := s.part.fxc.get n
    let ends (c : Instr) (g : Fixture) (k : Kind) := Answers c s fun p =>
      p.fxc.get n = g ∧ s.part.Completes n k .pass .none (p.clampResults n) [] [] p ∧ s.part.SequencerKept n p ∧
        p.word (nestAt n 7) = p.nestStateWord n ∧ s.part.StoresOnly [nestAt n 7] p ∧ s.part.NestOnly n p ∧
        p = { s.part with fxc := p.fxc, nsq := p.nsq, mem := p.mem, sent := p.sent }
    let expires (g : Fixture) (k : Kind) := Answers (.motionTimerExpiry n) s fun p =>
      p.fxc.get n = g ∧ s.part.Completes n k .fail .clampTimeout (p.clampResults n) [] [] p ∧
        s.part.Records n .clampTimeout (s.part.nsq.get n).sequence p ∧
        (p.nsq.get n).state = (s.part.nsq.get n).state ∧ (p.nsq.get n).step = (s.part.nsq.get n).step ∧
        (f.state = .clamping → p.word (nestAt n 7) = p.nestStateWord n) ∧
        s.part.SetsOnly [factorFault n, factorFirstFault] p ∧
        s.part.StoresOnly [nestAt n 7, nestAt n 8, ffStateAt, ffStepAt, ffTimeAt] p ∧ s.part.NestOnly n p ∧
        p = { s.part with fxc := p.fxc, nsq := p.nsq, mem := p.mem, sent := p.sent, factor := p.factor
                          firstFault := p.firstFault }
    (f.state = .clamping →
      ends (.clampClosedSensor n)
        { f with state := .clamped, drive := .holdingClosed, clampClosed := true, motionTimer := none } .clamp) ∧
      (f.state ≠ .clamping → Answers (.clampClosedSensor n) s fun p =>
        p = { s.part with fxc := s.part.fxc.put n { f with clampClosed := true } }) ∧
      (f.state = .unclamping →
        ends (.clampOpenSensor n)
          { f with state := .opened, drive := .holdingOpen, clampOpen := true, motionTimer := none } .unclamp) ∧
      (f.state ≠ .unclamping → Answers (.clampOpenSensor n) s fun p =>
        p = { s.part with fxc := s.part.fxc.put n { f with clampOpen := true } }) ∧
      (f.state = .clamping → s.part.Due f.motionTimer →
        expires { f with state := .unclamping, drive := .opening, motionTimer := none } .clamp) ∧
      (f.state = .unclamping → s.part.Due f.motionTimer → expires { f with motionTimer := none } .unclamp) ∧
      (¬ s.part.Due f.motionTimer → exec (.motionTimerExpiry n) s = .next s)

/-- A lid opening on a nest without supply: CLAMPING reverses and fails a CLAMP LID_OPENED; CONTACT_OK becomes
CLAMPED, and a POWER_ON that waits in the power queue is withdrawn and fails LID_OPENED; elsewhere it reaches the
image alone. No nest fault is recorded (R59). Model's choice: log entry 12. -/
def Obligations.LidOpeningWithoutSupply : Prop :=
  ∀ (n : NestId) (s : State),
    let f := s.part.fxc.get n
    (f.state = .opened ∨ f.state = .clamped ∨ f.state = .discharging ∨ f.state = .unclamping →
      Answers (.lidOpening n) s fun p =>
        p = { s.part with fxc := s.part.fxc.put n { f with lidClosed := false } }) ∧
      (f.state = .clamping → Answers (.lidOpening n) s fun p =>
        p.fxc.get n = { f with state := .unclamping, drive := .opening, lidClosed := false, motionTimer := none } ∧
          s.part.Completes n .clamp .fail .lidOpened (p.clampResults n) [] [] p ∧ s.part.SequencerKept n p ∧
          p.word (nestAt n 7) = p.nestStateWord n ∧ s.part.StoresOnly [nestAt n 7] p ∧ s.part.NestOnly n p ∧
          p = { s.part with fxc := p.fxc, nsq := p.nsq, mem := p.mem, sent := p.sent }) ∧
      (f.state = .contactOk → s.part.powerEntry n = none → Answers (.lidOpening n) s fun p =>
        p.fxc.get n = { f with state := .clamped, lidClosed := false } ∧
          p.word (nestAt n 7) = p.nestStateWord n ∧ s.part.StoresOnly [nestAt n 7] p ∧ s.part.NestOnly n p ∧
          p = { s.part with fxc := p.fxc, mem := p.mem }) ∧
      ∀ e, f.state = .contactOk → s.part.powerEntry n = some e → Answers (.lidOpening n) s fun p =>
        (p.fxc.get n).state = .clamped ∧ (p.fxc.get n).lidClosed = false ∧ (p.fxc.get n).switchClosed = f.switchClosed ∧
          p.powerQueue = s.part.powerQueue.filter (fun e => e.nest ≠ n) ∧
          s.part.Completes n .powerOn .fail .lidOpened (p.powerOnResults n) [] [] p ∧ s.part.SequencerKept n p ∧
          p.word (nestAt n 7) = p.nestStateWord n ∧ s.part.StoresOnly [nestAt n 7] p ∧ s.part.NestOnly n p ∧
          p = { s.part with fxc := p.fxc, nsq := p.nsq, mem := p.mem, sent := p.sent, powerQueue := p.powerQueue }

/-- Four of the events that cut a nest's supply (a power-off request, a POWER_ON's end request, a lid opening and a fuse
trip), and POWER_OFF, which is handed over as a fifth: the switch opens, the comparator is disabled, the inrush timer
stops, the fuse trip is disarmed, a discharge of 20 ms begins, DISCHARGING is published, and the blocks take the
departure before any notice goes to the sequencer (R54, R60, R66, R67, R68, R70). The events without the supply they need
reach an image at most; that a POWER_ON's end request changes nothing in a nest not POWERING is log entry 10. Model's
choice: log entries 10, 12, 17. -/
def Obligations.SupplyCutBeginsADischarge : Prop :=
  (∀ (n : NestId) (c : Instr) (lid fuse : Bool) (notice : List Notice) (s : State),
      let f := s.part.fxc.get n
      (c = .powerOffRequest n ∧ f.state.supplied ∧ lid = f.lidClosed ∧ fuse = f.fuseTripped ∧ notice = []) ∨
        (c = .powerOnEndRequest n ∧ f.state = .powering ∧ lid = f.lidClosed ∧ fuse = f.fuseTripped ∧ notice = []) ∨
        (c = .lidOpening n ∧ f.state.supplied ∧ lid = false ∧ fuse = f.fuseTripped ∧ notice = [.lidAbort n]) ∨
        (c = .fuseTrip n ∧ f.state = .powered ∧ lid = f.lidClosed ∧ fuse = true ∧ notice = [.supplyTrip n]) →
      f.state = .powered ∨ s.part.powerQueue = [] →
      Answers c s fun p =>
        let g := { f.cut (s.part.now + 20000) with lidClosed := lid, fuseTripped := fuse }
        let u := (s.part.showing n g).runs (leaving n)
        p = { u with sent := u.sent ++ notice } ∧ p.fxc = s.part.fxc.put n g ∧
          p.word (nestAt n 7) = p.nestStateWord n ∧ p.powered n = false ∧ (p.buc.get n).on = false ∧
          (p.gmn.get n).running = false ∧ (∀ i, (p.channel n i).wire = none) ∧
          (∀ i, (p.stu.get n).lines.get i = .released) ∧ ∀ x, p.pcv.grant = some x → x.nest ≠ n) ∧
    (∀ (n : NestId) (st : Step) (s : Part),
      let f := s.fxc.get n
      (f.state = .powered →
        s.handOff n .powerOff st = ((s.showing n (f.cut (s.now + 20000))).runs (leaving n), .started)) ∧
        (f.state = .contactOk → s.handOff n .powerOff st = (s, .done .pass .none .zero)) ∧
        (f.state = .discharging →
          s.handOff n .powerOff st =
            ({ s with fxc := s.fxc.put n { f with heldStep := true } }, .held .fixture)) ∧
        (f.state ∉ [.powered, .contactOk, .discharging] →
          s.handOff n .powerOff st = (s, .done .refused .badState .zero))) ∧
    ∀ (n : NestId) (s : State),
      let f := s.part.fxc.get n
      (f.state.supplied = false → exec (.powerOffRequest n) s = .next s) ∧
        (f.state ≠ .powering → exec (.powerOnEndRequest n) s = .next s) ∧
        (f.state ≠ .powered → Answers (.fuseTrip n) s fun p =>
          p = { s.part with fxc := s.part.fxc.put n { f with fuseTripped := true } })

/-- A change of a sensor is written to its image at once. A change that the sensor table names is acted upon as its own
command; any other change reaches the image alone (R53). A CONTACT reads the images: every line of its mask closed gives
CONTACT_OK and PASS, an open one CLAMPED and FAIL CONTACT_OPEN; in DISCHARGING it is HELD FIXTURE, and it is REFUSED in
the states that do not allow it (R58, R69). -/
def Obligations.SensorImagesFollowTheInputs : Prop :=
  (∀ (n : NestId) (st : Step) (s : Part),
    let f := s.fxc.get n
    let mask : BitVec 16 := field (st.w 2) 0 16
    let results : Results := ⟨f.contacts.setWidth 32, 0, 0, 0, 0⟩
    let allClosed : Prop := ∀ i : Fin 16, mask.getLsbD i.val = true → f.contacts.getLsbD i.val = true
    (f.state = .clamped ∨ f.state = .contactOk →
      (allClosed → s.handOff n .contact st =
        (s.showing n { f with state := .contactOk }, .done .pass .none results)) ∧
        (¬ allClosed → s.handOff n .contact st =
          (s.showing n { f with state := .clamped }, .done .fail .contactOpen results))) ∧
      (f.state = .discharging →
        s.handOff n .contact st = ({ s with fxc := s.fxc.put n { f with heldStep := true } }, .held .fixture)) ∧
      (f.state ∉ [.clamped, .contactOk, .discharging] →
        s.handOff n .contact st = (s, .done .refused .badState .zero))) ∧
  ∀ (n : NestId) (s : State),
    let f := s.part.fxc.get n
    let image (c : SensorChange) (g : Fixture) := Answers (.sensorImageChange n c) s fun p =>
      p = { s.part with fxc := s.part.fxc.put n g }
    image (.clampClosed false) { f with clampClosed := false } ∧ image (.clampOpen false) { f with clampOpen := false } ∧
      image (.lidClosed true) { f with lidClosed := true } ∧ image (.fuse false) { f with fuseTripped := false } ∧
      (∀ above, image (.supply above) { f with supplyAbove := above }) ∧
      (∀ (i : Fin 16) (closed : Bool), Answers (.sensorImageChange n (.contact i closed)) s fun p =>
        (∀ j : Fin 16, (p.fxc.get n).contacts.getLsbD j.val = if j = i then closed else f.contacts.getLsbD j.val) ∧
          p.fxc.get n = { f with contacts := (p.fxc.get n).contacts } ∧ s.part.NestOnly n p ∧
          p = { s.part with fxc := p.fxc }) ∧
      exec (.sensorImageChange n (.clampClosed true)) s = exec (.clampClosedSensor n) s ∧
      exec (.sensorImageChange n (.clampOpen true)) s = exec (.clampOpenSensor n) s ∧
      exec (.sensorImageChange n (.lidClosed false)) s = exec (.lidOpening n) s ∧
      exec (.sensorImageChange n (.fuse true)) s = exec (.fuseTrip n) s

/-- The inrush timer's expiry in POWERING, with no POWER_ON waiting, samples the supply image. Above, the nest is POWERED
with its fuse trip armed, the bus controller and the gauge monitors start, and the POWER_ON passes; a fuse that already
reads tripped trips the supply at once, as the trip itself would. Below, the nest discharges and the POWER_ON fails
SUPPLY_LOW without a nest fault (R65, R70). Model's choice: log entries 10, 12, 17. -/
def Obligations.InrushExpirySamplesTheSupply : Prop :=
  ∀ (n : NestId) (s : State),
    let f := s.part.fxc.get n
    let answers (u : Part) (v : Verdict) (d : Detail) :=
      Answers (.inrushTimerExpiry n) s fun p =>
        p.fxc = u.fxc ∧ u.Completes n .powerOn v d (s.part.powerOnResults n) [] [] p ∧ u.SequencerKept n p ∧
          p.word (nestAt n 7) = p.nestStateWord n ∧ Bank.AgreeBut n u.nsq p.nsq ∧
          p = { u with nsq := p.nsq, sent := p.sent }
    (f.state = .powering → s.part.Due f.inrushTimer → s.part.powerQueue = [] →
      (f.supplyAbove = true → f.fuseTripped = false →
        let g := { f with state := .powered, inrushTimer := none, tripArmed := true }
        answers ((s.part.showing n g).runs (entering n)) .pass .none ∧
          ((s.part.showing n g).runs (entering n)).fxc = s.part.fxc.put n g) ∧
        (f.supplyAbove = true → f.fuseTripped = true → Answers (.inrushTimerExpiry n) s fun p =>
          p = ({ s.part with fxc := s.part.fxc.put n { f with fuseTripped := false } }).runs
            [.inrushTimerExpiry n, .fuseTrip n] ∧
            p.fxc = s.part.fxc.put n (f.cut (s.part.now + 20000))) ∧
        (f.supplyAbove = false →
          let g := f.cut (s.part.now + 20000)
          answers ((s.part.showing n g).runs (leaving n)) .fail .supplyLow ∧
            ((s.part.showing n g).runs (leaving n)).fxc = s.part.fxc.put n g)) ∧
      (¬ s.part.Due f.inrushTimer → exec (.inrushTimerExpiry n) s = .next s)

/-- The power budget. A POWER_ON in CONTACT_OK with the lid closed closes its switch at once with fewer than two nests
POWERING, and otherwise waits HELD POWER at the tail of the power queue; the rest are refused or HELD FIXTURE (R61, R62,
R63, R69). Every departure of a nest from POWERING grants the head of the queue: its switch closes with its limit and the
criteria as the table reads now, its nest is POWERING, its hold ends, and the other entries move up (R27, R63). Model's
choice: log entries 10, 12, 17. -/
def Obligations.FreedBudgetGrantsTheHead : Prop :=
  (∀ (n : NestId) (st : Step) (s : Part),
    let f := s.fxc.get n
    let w := (field (st.w 2) 0 16 : W16).toNat
    let window := max 10 (min w 500)
    let i := (field (st.w 3) 0 16 : W16).toNat
    let fuse := max 100 (min i 5000)
    let e : PowerEntry := ⟨n, st.sequence, window, field (st.w 2) 16 8, BitVec.ofNat 16 fuse, st.accepted⟩
    let taken : PowerOnRecord := ⟨decide (window ≠ w), decide (fuse ≠ i), none⟩
    let known : Prop := e.criteria.toNat ≤ 15
    (known → f.state = .contactOk → f.lidClosed = true → s.poweringCount < 2 →
      s.handOff n .powerOn st =
        (s.showing n
          ({ f with powerOn := some taken }.powersUp s.now (msBetween st.accepted s.timebase)
            (s.word (criteriaAt e.criteria.toNat)) e), .started)) ∧
      (known → f.state = .contactOk → f.lidClosed = true → 2 ≤ s.poweringCount →
        s.handOff n .powerOn st =
          ({ s with fxc := s.fxc.put n { f with powerOn := some taken }, powerQueue := s.powerQueue ++ [e] },
            .held .power)) ∧
      (known → f.state = .discharging →
        s.handOff n .powerOn st =
          ({ s with fxc := s.fxc.put n { f with powerOn := none, heldStep := true } }, .held .fixture)) ∧
      (known → f.state ≠ .discharging → f.state ≠ .contactOk ∨ f.lidClosed = false →
        s.handOff n .powerOn st = (s, .done .refused .badState .zero)) ∧
      (¬ known → s.handOff n .powerOn st = (s, .done .refused .badOperand .zero))) ∧
  ∀ (n : NestId) (c : Instr) (e : PowerEntry) (q : List PowerEntry) (s : State),
    let f := s.part.fxc.get n
    let g := s.part.fxc.get e.nest
    let enters : Prop := c = .inrushTimerExpiry n ∧ f.supplyAbove = true
    let u := s.part.runs
      (if enters then (if f.fuseTripped then entering n ++ leaving n else entering n) else leaving n)
    c = .powerOffRequest n ∨ c = .powerOnEndRequest n ∨ c = .lidOpening n ∨
      (c = .inrushTimerExpiry n ∧ s.part.Due f.inrushTimer) →
    f.state = .powering → s.part.powerQueue = e :: q → e.nest ≠ n → g.state = .contactOk →
    (∀ x, s.part.pcv.grant = some x → x.nest ≠ n) →
    Answers c s fun p =>
      p.powerQueue = q ∧
        p.fxc.get e.nest =
          g.powersUp s.part.now (msBetween e.accepted s.part.timebase) (s.part.word (criteriaAt e.criteria.toNat)) e ∧
        p.nsq.get e.nest =
          (if (s.part.nsq.get e.nest).state = .held then
            { s.part.nsq.get e.nest with state := .running, hold := .none } else s.part.nsq.get e.nest) ∧
        p.word (nestAt e.nest 7) = p.nestStateWord e.nest ∧ (p.fxc.get n).state ≠ .powering ∧
        p.poweringCount = s.part.poweringCount ∧
        s.part.StoresOnly ([nestAt n 7, nestAt e.nest 7] ++
          (List.finRange 16).flatMap fun k => [frameAt n k 6, frameAt n k 7]) p ∧
        (∀ m, m ≠ n → m ≠ e.nest → p.fxc.get m = s.part.fxc.get m ∧ p.nsq.get m = s.part.nsq.get m) ∧
        p = { s.part with
              fxc := p.fxc, nsq := p.nsq, mem := p.mem, sent := p.sent, powerQueue := p.powerQueue, stu := u.stu
              buc := u.buc, gmn := u.gmn, lpc := u.lpc, pcv := u.pcv }

/-- A withdrawal from the power queue removes the nest's entry, fixes its HELD POWER time, keeps the results for the
step, and grants nothing. Without an entry, a deadline finds a POWERING nest and ends its power-up (R61, R64, R66).
Model's choice: log entries 10, 12, 17. -/
def Obligations.PowerQueueWithdrawal : Prop :=
  ∀ (n : NestId) (cause : EndCause) (s : State),
    let f := s.part.fxc.get n
    (∀ e x, s.part.powerEntry n = some e → f.powerOn = some x → f.state = .contactOk →
      Answers (.powerQueueWithdrawal n cause) s fun p =>
        let ms := msBetween e.accepted s.part.timebase
        p.powerQueue = s.part.powerQueue.filter (fun e => e.nest ≠ n) ∧
          p.fxc.get n = { f with powerOn := some { x with heldMs := some ms } } ∧
          p.nsq.get n =
            { s.part.nsq.get n with
              report := some { Results.zero with w11 := flag x.windowClamped 0 ||| flag x.fuseClamped 1
                                                 w12 := wordOf ms } } ∧
          s.part.NestOnly n p ∧ p = { s.part with fxc := p.fxc, nsq := p.nsq, powerQueue := p.powerQueue }) ∧
      (s.part.powerEntry n = none → f.powerOn = none → f.state ≠ .powering ∨ cause = .stop →
        exec (.powerQueueWithdrawal n cause) s = .next s) ∧
      (s.part.powerEntry n = none → s.part.powerQueue = [] → f.state = .powering →
        Answers (.powerQueueWithdrawal n .deadline) s fun p =>
          let g := f.cut (s.part.now + 20000)
          let u := (s.part.showing n g).runs (leaving n)
          p = { u with nsq := p.nsq } ∧ p.fxc = s.part.fxc.put n g ∧ p.word (nestAt n 7) = p.nestStateWord n ∧
            u.SequencerKept n p ∧ Bank.AgreeBut n u.nsq p.nsq ∧
            (p.nsq.get n).report =
              if f.powerOn.isSome then some (s.part.powerOnResults n) else (u.nsq.get n).report)

/-- The discharge timer's expiry takes DISCHARGING to CONTACT_OK whatever the lid reads. A RUNNING POWER_OFF passes. A
step HELD FIXTURE is taken again: POWER_OFF passes, CLAMP is refused, POWER_ON with the lid open is refused, and with
two nests POWERING it goes on to wait HELD POWER (R68, R69). Under station STOP, and while its notice is on its way, the
step is not taken again (R72). Model's choice: log entries 10, 12, 19. -/
def Obligations.DischargeEndsInContactOk : Prop :=
  (∀ (n : NestId) (s : State), ¬ s.part.Due (s.part.fxc.get n).dischargeTimer →
    exec (.dischargeTimerExpiry n) s = .next s) ∧
  ∀ (n : NestId) (s : State),
    let f := s.part.fxc.get n
    let q := s.part.nsq.get n
    f.state = .discharging → s.part.Due f.dischargeTimer →
    let stopped := s.part.station = .stopped ∨ .stationStop n ∈ s.part.sent
    (f.heldStep = false ∨ stopped → Answers (.dischargeTimerExpiry n) s fun p =>
      p.fxc.get n = { f with state := .contactOk, dischargeTimer := none } ∧ s.part.SequencerKept n p ∧
        (q.state = .running → s.part.Completes n .powerOff .pass .none .zero [] [] p) ∧
        (q.state ≠ .running → p.sent = s.part.sent) ∧ p.word (nestAt n 7) = p.nestStateWord n ∧
        s.part.StoresOnly [nestAt n 7] p ∧ s.part.NestOnly n p ∧
        p = { s.part with fxc := p.fxc, nsq := p.nsq, mem := p.mem, sent := p.sent }) ∧
      (∀ (st : Step) (k : Kind), f.heldStep = true → ¬ stopped → q.state = .held → q.step = some st →
        st.kind = some k →
        let ends (v : Verdict) (d : Detail) := Answers (.dischargeTimerExpiry n) s fun p =>
          p.fxc.get n = { f with state := .contactOk, dischargeTimer := none, heldStep := false } ∧
            p.nsq.get n = { q with state := .running, hold := .none, report := some .zero } ∧
            p.sent = s.part.sent ++ [.ownerOutcome ⟨n, st.sequence, v, d, .zero⟩] ∧
            p.word (nestAt n 7) = p.nestStateWord n ∧ s.part.StoresOnly [nestAt n 7] p ∧ s.part.NestOnly n p ∧
            p = { s.part with fxc := p.fxc, nsq := p.nsq, mem := p.mem, sent := p.sent }
        (k = .powerOff → ends .pass .none) ∧ (k = .clamp → ends .refused .badState) ∧
          (k = .powerOn → st.criteria.toNat ≤ 15 → f.lidClosed = false → ends .refused .badState) ∧
          (k = .powerOn → st.criteria.toNat ≤ 15 → f.lidClosed = true → s.part.poweringCount = 2 →
            Answers (.dischargeTimerExpiry n) s fun p =>
              (p.fxc.get n).state = .contactOk ∧ (p.fxc.get n).switchClosed = f.switchClosed ∧
                (p.nsq.get n).state = .held ∧ (p.nsq.get n).hold = .power ∧ p.sent = s.part.sent ∧
                p.powerQueue =
                  s.part.powerQueue ++
                    [⟨n, st.sequence, st.inrushWindow.1, st.criteria, BitVec.ofNat 16 st.fuseLimit.1, st.accepted⟩] ∧
                p.word (nestAt n 7) = p.nestStateWord n ∧ s.part.StoresOnly [nestAt n 7] p ∧ s.part.NestOnly n p))

/-- The STOP input. A press with the station in RUN is a station STOP: the state and the level are shown, the STOP
factor is set, the power queue is emptied, every supplied nest's switch opens and its discharge begins, the blocks take
the departures, every closing clamp reverses, the first-fault record is offered STATION_STOP, and the STOP is sent to
every sequencer and to the panel. Any other change reaches the level alone (R71, R72). Model's choice: log entries 12 and
17, among them the order from nest 0 to nest 7. -/
def Obligations.StationStopCutsEverySupply : Prop :=
  (∀ (c : Instr) (s : State), c = .stationStop ∨ c = .stopLevelChange true → s.part.station = .run →
      let supplied := (List.finRange 8).filter fun n => (s.part.fxc.get n).state.supplied
      let u := ({ s.part with
          fxc := Bank.build fun n =>
            if (s.part.fxc.get n).state.supplied then (s.part.fxc.get n).cut (s.part.now + 20000)
            else s.part.fxc.get n }).runs (supplied.flatMap leaving)
      Answers c s fun p =>
        p.station = .stopped ∧ p.stopPressed = true ∧ p.word stationAt = 3 ∧ p.factor.getLsbD factorStop = true ∧
          p.powerQueue = [] ∧
          (∀ n,
            let f := s.part.fxc.get n
            let g := p.fxc.get n
            g = { (if f.state.supplied then f.cut (s.part.now + 20000)
                  else if f.state = .clamping then
                    { f with state := .unclamping, drive := .opening, motionTimer := none }
                  else f) with powerOn := g.powerOn } ∧
              (f.state.supplied = true ∨ f.state = .clamping → p.word (nestAt n 7) = p.nestStateWord n)) ∧
          (s.part.firstFault = none → p.firstFault = some ⟨8, .stationStop, none, s.part.timebase⟩ ∧
            p.factor.getLsbD factorFirstFault = true) ∧
          (s.part.firstFault.isSome → p.firstFault = s.part.firstFault) ∧
          p.sent = u.sent ++ (List.finRange 8).map Notice.stationStop ++ [.panelStop] ∧
          s.part.SetsOnly [factorStop, factorFirstFault] p ∧
          u.StoresOnly ([stationAt, ffStateAt, ffStepAt, ffTimeAt] ++
            (List.finRange 8).map fun n => nestAt n 7) p ∧
          p = { u with station := p.station, stopPressed := p.stopPressed, mem := p.mem, factor := p.factor
                       powerQueue := p.powerQueue, fxc := p.fxc, firstFault := p.firstFault, sent := p.sent }) ∧
    ∀ (pressed : Bool) (s : State), s.part.station = .stopped ∨ pressed = false →
      Answers (.stopLevelChange pressed) s fun p =>
        p = { s.part with stopPressed := pressed, mem := p.mem } ∧
          (s.part.stopPressed ≠ pressed →
            p.word stationAt = (flag (decide (s.part.station = .stopped)) 0 ||| flag pressed 1)) ∧
          s.part.StoresOnly [stationAt] p

/-! ### Chapter 4 -/

/-- Idle enforcement: every channel OFF at its rest level with its setting cleared, senders open, lines released, a
replay ended and reported cut, and the results of a stopped burst or settle kept for its step (R80, R82, R86, R90).
Model's choice: log entry 12. -/
def Obligations.IdleEnforcementRestsTheStimulus : Prop :=
  ∀ (n : NestId) (s : State), Answers (.idleEnforcement n) s fun p =>
    (∀ i, p.channel n i =
        ⟨⟨.off, false, 0, 0, 0, 0, 0⟩, 0, 0, (s.part.channel n i).restHigh, none, none, none⟩) ∧
      (∀ e, p.sender n e = ⟨0, 0, none⟩) ∧ (∀ i, (p.stu.get n).lines.get i = .released) ∧
      (p.stu.get n).replay = .none ∧
      p.sent = s.part.sent ++
        (if (s.part.stu.get n).replay = .none then [] else [.replayCut n]) ∧
      (∀ i b, (s.part.channel n i).burst = some b → (∀ j, j ≠ i → (s.part.channel n j).burst = none) →
        (p.nsq.get n).report = some ⟨b.periodWord, b.effectWord, wordOf b.emitted, 0, 0⟩) ∧
      (∀ e t, (s.part.sender n e).settle = some t → (∀ j, j ≠ e → (s.part.sender n j).settle = none) →
        (∀ i, (s.part.channel n i).burst = none) → (p.nsq.get n).report = some ⟨t.w11, 0, 0, 0, 0⟩) ∧
      s.part.SequencerKept n p ∧ s.part.NestOnly n p ∧
      p = { s.part with stu := p.stu, nsq := p.nsq, sent := p.sent }

/-- The course of a pulse channel. Once its ticks have run, the end of an active phase counts a burst's pulse; a boundary
gives the next period, or the pending setting's first, whose polarity fixes the rest level; the boundary after a burst's last pulse
turns the channel OFF and completes the step PASS; a stop request cuts the burst and keeps its results (R75, R76, R79,
R80). Model's choice: log entries 10, 12, 16. -/
def Obligations.PulsePeriods : Prop :=
  ∀ (n : NestId) (i : Fin 4) (s : State),
    let u := s.part.stu.get n
    let c := s.part.channel n i
    let becomes (cmd : Instr) (d : Channel) := Answers cmd s fun p =>
      p = { s.part with stu := s.part.stu.put n { u with channels := u.channels.put i d } }
    let off : Channel :=
      { c with setting := ⟨.off, c.setting.activeLow, 0, 0, 0, 0, 0⟩, settingE := 0, e := 0, wire := none
               pending := none, burst := none }
    let results (b : Burst) : Results := ⟨b.periodWord, b.effectWord, wordOf b.emitted, 0, 0⟩
    (∀ w, c.wire = some w →
      (w.inactive = true ∨ s.part.ticks < w.start + w.active → exec (.activePhaseEnd n i) s = .next s) ∧
        (w.inactive = false ∨ s.part.ticks < w.start + w.period → exec (.periodBoundary n i) s = .next s) ∧
        (w.inactive = false → w.start + w.active ≤ s.part.ticks → becomes (.activePhaseEnd n i)
          { c with
            wire := some { w with inactive := true }
            burst := if w.mode = .count then
                c.burst.map fun b => { b with emitted := b.emitted + 1, left := b.left - 1 }
              else c.burst }) ∧
        (w.inactive = true → w.start + w.period ≤ s.part.ticks →
          (∀ x, w.mode ≠ .count ∨ c.burst = none → c.pending = some x → becomes (.periodBoundary n i)
            { c with
              pending := none, restHigh := x.activeLow
              wire := some ⟨x.mode, x.activeLow, x.period, if x.mode = .narrow then x.width else x.period / 2,
                s.part.ticks, false⟩ }) ∧
            (w.mode ≠ .count ∨ c.burst = none → c.pending = none → becomes (.periodBoundary n i)
              { c with wire := some { w with start := s.part.ticks, inactive := false } }) ∧
            ∀ b, w.mode = .count → c.burst = some b →
              (b.left ≠ 0 → becomes (.periodBoundary n i)
                { c with wire := some { w with start := s.part.ticks, inactive := false } }) ∧
                (b.left = 0 → Answers (.periodBoundary n i) s fun p =>
                  s.part.Completes n .setPulse .pass .none (results b) [] [] p ∧ s.part.SequencerKept n p ∧
                    s.part.NestOnly n p ∧
                    p = { s.part with stu := s.part.stu.put n { u with channels := u.channels.put i off }
                                      nsq := p.nsq, sent := p.sent }))) ∧
      (c.wire = none → exec (.activePhaseEnd n i) s = .next s ∧ exec (.periodBoundary n i) s = .next s) ∧
      (∀ b, c.burst = some b → Answers (.burstStopRequest n i) s fun p =>
        p = { s.part with
              stu := s.part.stu.put n { u with channels := u.channels.put i off }
              nsq := s.part.nsq.put n { s.part.nsq.get n with report := some (results b) } }) ∧
      (c.burst = none → exec (.burstStopRequest n i) s = .next s)

/-- A SET_PULSE that passes its checks. OFF, or a target of 0, turns the channel OFF at once at the polarity's rest level.
The other modes form the period nearest to 10^13 / (T × G), held to at most 16,777,216 ticks with CLAMPED_LOW, never
marked CLAMPED_HIGH, and recover the effective input from that period; the setting is on the wire at once on an OFF
channel, pending on a running one. COUNT also begins its burst, of 65,536 pulses for an N of 0, and is started (R76, R78,
R79, R158, R159, R160). Model's choice: log entry 16. -/
def Obligations.SetPulseFormsThePeriod : Prop :=
  ∀ (n : NestId) (i : Fin 4) (mode : PulseMode) (st : Step) (s : Part),
    let target : W16 := field (st.w 3) 0 16
    let gain : BitVec 24 := field (st.w 4) 0 24
    let count := (field (st.w 5) 0 16 : W16).toNat
    let width := (field (st.w 6) 0 24 : BitVec 24).toNat
    let code := (field (st.w 2) 8 8 : BitVec 8).toNat
    let low := bitAt (st.w 2) 16
    let d := target.toNat * gain.toNat
    let formed := (10000000000000 + d / 2) / d
    let p := min formed 16777216
    let e := min ((10000000000000 + p * gain.toNat / 2) / (p * gain.toNat)) 65535
    let w := if width = 0 then 1 else min width (p - 1)
    let pulses := if count = 0 then 65536 else count
    let setting : PulseSetting :=
      ⟨mode, low, target, gain, p, if mode = .narrow then w else 0, if mode = .count then pulses else 0⟩
    let w12 := wordOf e ||| flag (decide (16777216 < formed)) 16 ||| flag (decide (mode = .narrow) && decide (w ≠ width)) 18
    let c := s.channel n i
    let becomes (x : Channel) : Part :=
      { s with stu := s.stu.put n { s.stu.get n with channels := (s.stu.get n).channels.put i x } }
    s.powered n = true → (field (st.w 2) 0 8 : BitVec 8).toNat = i.val →
    (code = 0 ∨ (code ≤ 3 ∧ target = 0 ∧ gain ≠ 0) →
      s.handOff n .setPulse st =
        (becomes { c with setting := ⟨.off, low, 0, 0, 0, 0, 0⟩, settingE := 0, e := 0, restHigh := low, wire := none
                          pending := none }, .done .pass .none .zero)) ∧
      ((mode = .continuous ∧ code = 1) ∨ (mode = .narrow ∧ code = 2) ∨ (mode = .count ∧ code = 3) →
        target ≠ 0 → gain ≠ 0 →
        9 ≤ p ∧
          (s.handOff n .setPulse st).2 =
            (if mode = .count then .started else .done .pass .none ⟨wordOf p, w12, 0, 0, 0⟩) ∧
          (s.handOff n .setPulse st).1 =
            becomes
              { c with
                setting := setting, settingE := BitVec.ofNat 16 e, e := BitVec.ofNat 16 e
                burst := if mode = .count then some ⟨st.sequence, 0, pulses, wordOf p, w12⟩ else c.burst
                pending := if c.wire.isNone then none else some setting
                restHigh := if c.wire.isNone then low else c.restHigh
                wire := if c.wire.isNone then
                    some ⟨mode, low, p, if mode = .narrow then w else p / 2, s.ticks, false⟩
                  else c.wire })

/-- A SET_SENDER applies its code at its hand-off, held to 200 to 60,000 with its mark, and 0 as an open circuit, and
settles for 5 ms (R81). The settle timer's expiry completes the SET_SENDER PASS with the applied code, a stop request
stops it and keeps the same results; the code stays applied in both (R81, R82). Model's choice: log entries 10, 12. -/
def Obligations.SenderSettles : Prop :=
  (∀ (n : NestId) (e : Fin 2) (st : Step) (s : Part),
    let code : W16 := field (st.w 3) 0 16
    let applied : W16 := if code = 0 then 0 else if code < 200 then 200 else if 60000 < code then 60000 else code
    let w11 : W32 := place applied 0 ||| flag (decide (applied ≠ code)) 16
    (field (st.w 2) 0 8 : BitVec 8).toNat = e.val → s.powered n = true →
    s.handOff n .setSender st =
      ({ s with
         stu := s.stu.put n { s.stu.get n with
           senders := (s.stu.get n).senders.put e ⟨applied, applied, some ⟨s.now + 5000, w11⟩⟩ } }, .started)) ∧
  ∀ (n : NestId) (e : Fin 2) (s : State),
    let u := s.part.stu.get n
    let x := s.part.sender n e
    let stu := s.part.stu.put n { u with senders := u.senders.put e { x with settle := none } }
    (∀ t, x.settle = some t →
      (t.due ≤ s.part.now → Answers (.senderSettleExpiry n e) s fun p =>
        s.part.Completes n .setSender .pass .none ⟨t.w11, 0, 0, 0, 0⟩ [] [] p ∧ s.part.SequencerKept n p ∧
          s.part.NestOnly n p ∧ p = { s.part with stu := stu, nsq := p.nsq, sent := p.sent }) ∧
        (s.part.now < t.due → exec (.senderSettleExpiry n e) s = .next s) ∧
        Answers (.senderSettleStopRequest n e) s fun p =>
          p = { s.part with
                stu := stu
                nsq := s.part.nsq.put n { s.part.nsq.get n with report := some ⟨t.w11, 0, 0, 0, 0⟩ } }) ∧
      (x.settle = none →
        exec (.senderSettleExpiry n e) s = .next s ∧ exec (.senderSettleStopRequest n e) s = .next s)

/-- The end of a replay. The gap timer's expiry, and an end-replay request in GAP, give each named channel with a
setting a fresh period with its kept setting and E, and each named sender its kept code; the others stay. After the
expiry a named sender settles for 5 ms, and only then is the replay reported ended; a request reports nothing (R89,
R91). Model's choice: log entries 10, 12. -/
def Obligations.ReplayRestores : Prop :=
  ∀ (n : NestId) (s : State),
    let u := s.part.stu.get n
    let restored (mask : BitVec 6) (p : Part) : Prop :=
      (∀ i : Fin 4, let c := s.part.channel n i
        p.channel n i =
          (if mask.getLsbD i.val ∧ c.setting.mode ≠ .off then
            { c with
              wire := some ⟨c.setting.mode, c.setting.activeLow, c.setting.period,
                if c.setting.mode = .narrow then c.setting.width else c.setting.period / 2, s.part.ticks, false⟩
              e := c.settingE }
          else c)) ∧
        (∀ e : Fin 2, let x := s.part.sender n e
          p.sender n e = (if mask.getLsbD (4 + e.val) then { x with e := x.code } else x)) ∧
        (p.stu.get n).lines = u.lines ∧ s.part.NestOnly n p ∧ p = { s.part with stu := p.stu, sent := p.sent }
    (∀ mask due, u.replay = .gap mask due →
      (s.part.now < due → exec (.gapExpiry n) s = .next s) ∧
      (due ≤ s.part.now → Answers (.gapExpiry n) s fun p =>
        restored mask p ∧
          (mask.getLsbD 4 = false → mask.getLsbD 5 = false →
            (p.stu.get n).replay = .none ∧ p.sent = s.part.sent ++ [.replayEnded n]) ∧
          (mask.getLsbD 4 = true ∨ mask.getLsbD 5 = true →
            (p.stu.get n).replay = .restore mask (s.part.now + 5000) ∧ p.sent = s.part.sent)) ∧
        (s.part.powered n = true → Answers (.endReplayRequest n) s fun p =>
          restored mask p ∧ (p.stu.get n).replay = .none ∧ p.sent = s.part.sent)) ∧
      (∀ mask due, u.replay = .restore mask due →
        (s.part.now < due → exec (.restoreSettleExpiry n) s = .next s) ∧
        (due ≤ s.part.now → Answers (.restoreSettleExpiry n) s fun p =>
          p = { s.part with stu := s.part.stu.put n { u with replay := .none }
                            sent := s.part.sent ++ [.replayEnded n] }) ∧
          (s.part.powered n = true → Answers (.endReplayRequest n) s fun p =>
            p = { s.part with stu := s.part.stu.put n { u with replay := .none } })) ∧
      (u.replay = .none →
        exec (.gapExpiry n) s = .next s ∧ exec (.restoreSettleExpiry n) s = .next s ∧
          exec (.endReplayRequest n) s = .next s) ∧
      (s.part.powered n = false → exec (.endReplayRequest n) s = .next s)

/-! ### Chapters 5 and 6: entering and leaving POWERED -/

/-- A nest entering POWERED. Its bus controller is ON at the rate that BUS_CFG reads now, idle, NORMAL, with no nack
counted. Its gauge monitors run from position 0 with the marks and counts cleared and each phase memory taken from the
pattern that stands (R94, R117). -/
def Obligations.EnteringPoweredStartsBusAndMonitors : Prop :=
  ∀ (n : NestId) (s : State),
    (Answers (.busStart n) s fun p =>
      let code := (s.part.word (nestAt n 3)).toNat % 4
      p.buc.get n =
          { s.part.buc.get n with
            on := true, rate := (p.buc.get n).rate, mute := false, nacks := 0, tx := none, rx := none } ∧
        (p.buc.get n).rate.map BitRate.kbits = [125, 250, 500, 1000][code]? ∧
        ((s.part.buc.get n).mute = true → p.word (nestAt n 7) = p.nestStateWord n) ∧
        s.part.StoresOnly [nestAt n 7] p ∧ s.part.NestOnly n p ∧
        p = { s.part with buc := p.buc, mem := p.mem }) ∧
      Answers (.monitorStart n) s fun p =>
        (∀ g, p.gauge n g =
          ⟨(s.part.gauge n g).image, patternIndex (s.part.gauge n g).image, 0, false, 0, 0, s.part.timebase⟩) ∧
          (p.gmn.get n).running = true ∧ (p.gmn.get n).check = (s.part.gmn.get n).check ∧ s.part.NestOnly n p ∧
          p = { s.part with gmn := p.gmn }

/-- A nest leaving POWERED. Its bus controller cuts every frame, stops every slot with its staging dropped and no line
part applied, disarms every filter with its capture kept, writes both status words of every slot, and is OFF. Its gauge
monitors freeze where they stand. What each held for the step in execution is kept for it, without a verdict (R95, R118,
R127). Model's choice: log entry 12. -/
def Obligations.LeavingPoweredStopsBusAndMonitors : Prop :=
  ∀ (n : NestId) (s : State),
    let b := s.part.buc.get n
    (Answers (.urgentStop n) s fun p =>
      let d := p.buc.get n
      d = { b with on := false, mute := false, nacks := 0, tx := none, rx := none, loadWait := none, check := none
                   slots := d.slots, filters := d.filters } ∧
        (∀ k, p.slot n k =
            { s.part.slot n k with
              state := .stopped, preload := false, due := none, pendingDue := none, stagedPayload := none
              stagedLines := none } ∧
          p.word (frameAt n k 6) = place (s.part.slot n k).sent 16 ∧
          p.word (frameAt n k 7) = place (s.part.slot n k).nack 0) ∧
        (∀ k, p.filter n k = { s.part.filter n k with armed := none }) ∧
        (∀ w, b.loadWait = some w → b.check = none → (p.nsq.get n).report = some ⟨w.w11, 0, 0, 0, 0⟩) ∧
        (∀ c, b.check = some c → (p.nsq.get n).report = some c.results) ∧
        (b.mute = true → p.word (nestAt n 7) = p.nestStateWord n) ∧ s.part.SequencerKept n p ∧
        s.part.StoresOnly
          (nestAt n 7 :: (List.finRange 16).flatMap fun k => [frameAt n k 6, frameAt n k 7]) p ∧
        s.part.NestOnly n p ∧ p = { s.part with buc := p.buc, nsq := p.nsq, mem := p.mem }) ∧
      Answers (.monitorFreeze n) s fun p =>
        p.gmn.get n = { s.part.gmn.get n with running := false, check := none } ∧
          (∀ c, (s.part.gmn.get n).check = some c →
            (p.nsq.get n).report = some (c.results (s.part.gauge n c.gauge))) ∧
          ((s.part.gmn.get n).check = none → p.nsq = s.part.nsq) ∧ s.part.SequencerKept n p ∧ s.part.NestOnly n p ∧
          p = { s.part with gmn := p.gmn, nsq := p.nsq }

/-! ### Chapter 5 -/

/-- FRAME_LOAD and SET_LINES. On a slot that is not RUNNING a FRAME_LOAD is applied at once, and on a RUNNING one it is
staged, with SUPERSEDED where it replaces a staged part; with WAIT it then waits for the slot's start. A SET_LINES with
sync and a mask stages its lines on a RUNNING slot, and is applied at once otherwise (R83, R84, R105, R106, R107). The NSQ
ends a bus step early: a waiting FRAME_LOAD keeps its marks, its staging is kept at a deadline, and the whole staged
change of the slot is dropped at a stop request; a running CHECK_FRAME gives the counts and the last capture examined,
which are 0 with none examined (R104, R108, R114). Model's choice: log entries 10, 12. -/
def Obligations.BusStepsEndEarly : Prop :=
  (∀ (mask value : Byte) (l : Bank 8 Line) (i : Fin 8),
    (driveLines mask value l).get i =
        (if mask.getLsbD i.val then (if value.getLsbD i.val then .high else .low) else l.get i) ∧
      (lineLevels l).getLsbD i.val = decide (l.get i = .high)) ∧
  (∀ (n : NestId) (k : Fin 16) (st : Step) (s : Part), s.powered n = true →
    let b := s.buc.get n
    let f := s.slot n k
    let lines := (s.stu.get n).lines
    let driven (mask value : Byte) : Bank 8 Stimulus :=
      s.stu.put n { s.stu.get n with lines := driveLines mask value lines }
    let slotted (g : FrameSlot) : Bank 8 Bus := s.buc.put n { b with slots := b.slots.put k g }
    ((field (st.w 2) 0 8 : Byte).toNat = k.val →
      let mask : Byte := field (st.w 2) 8 8
      let value : Byte := field (st.w 2) 16 8
      let sync := bitAt (st.w 2) 24
      let payload : BitVec 64 := st.w 4 ++ st.w 3
      (f.state ≠ .running →
        s.handOff n .frameLoad st =
          ({ s with buc := slotted { f with payload := payload, preload := true }
                    stu := if mask = 0 then s.stu else driven mask value }, .done .pass .none ⟨1, 0, 0, 0, 0⟩)) ∧
        (f.state = .running →
          let stagesLines := decide (mask ≠ 0) && sync
          let g := { f with stagedPayload := some payload
                            stagedLines := if stagesLines then some (mask, value) else f.stagedLines }
          let w11 : W32 := 2 ||| flag (f.stagedPayload.isSome || (stagesLines && f.stagedLines.isSome)) 2
          let t : Part :=
            { s with buc := slotted g, mem := s.mem.setWord (frameAt n k 6) (1#32 ||| 0x100 ||| place f.sent 16)
                     stu := if decide (mask ≠ 0) && !sync then driven mask value else s.stu }
          s.handOff n .frameLoad st =
            if bitAt (st.w 2) 25 then
              ({ t with buc := t.buc.put n { t.buc.get n with loadWait := some ⟨k, w11⟩ } }, .started)
            else (t, .done .pass .none ⟨w11, 0, 0, 0, 0⟩))) ∧
      ((field (st.w 2) 24 4 : BitVec 4).toNat = k.val →
        let mask : Byte := field (st.w 2) 0 8
        let value : Byte := field (st.w 2) 8 8
        let stages : Prop := bitAt (st.w 2) 16 = true ∧ mask ≠ 0 ∧ f.state = .running
        (stages →
          s.handOff n .setLines st =
            ({ s with buc := slotted { f with stagedLines := some (mask, value) }
                      mem := s.mem.setWord (frameAt n k 6) (1#32 ||| 0x100 ||| place f.sent 16) },
              .done .pass .none
                ⟨place (lineLevels lines) 0 ||| 0x10000 ||| flag f.stagedLines.isSome 17, 0, 0, 0, 0⟩)) ∧
          (¬ stages →
            s.handOff n .setLines st =
              ({ s with stu := driven mask value },
                .done .pass .none ⟨place (lineLevels (driveLines mask value lines)) 0, 0, 0, 0, 0⟩)))) ∧
  ∀ (n : NestId) (s : State),
    let b := s.part.buc.get n
    let kept (r : Results) := s.part.nsq.put n { s.part.nsq.get n with report := some r }
    (∀ w, b.loadWait = some w →
      let f := s.part.slot n w.slot
      (Answers (.frameLoadStopRequest n .deadline) s fun p =>
        p = { s.part with buc := s.part.buc.put n { b with loadWait := none }, nsq := kept ⟨w.w11, 0, 0, 0, 0⟩ }) ∧
        Answers (.frameLoadStopRequest n .stop) s fun p =>
          p.slot n w.slot = { f with stagedPayload := none, stagedLines := none } ∧
            (∀ k, k ≠ w.slot → p.slot n k = s.part.slot n k) ∧
            p.buc.get n = { b with loadWait := none, slots := (p.buc.get n).slots } ∧
            (f.stagedPayload.isSome ∨ f.stagedLines.isSome →
              p.word (frameAt n w.slot 6) = (slotStateCode f.state ||| place f.sent 16)) ∧
            (f.stagedPayload = none → f.stagedLines = none → p.mem = s.part.mem) ∧
            s.part.StoresOnly [frameAt n w.slot 6] p ∧ s.part.NestOnly n p ∧
            p = { s.part with buc := p.buc, nsq := kept ⟨w.w11, 0, 0, 0, 0⟩, mem := p.mem }) ∧
      (∀ c, b.check = some c →
        let w13 : W32 := place c.examined 0 ||| place c.unequal 16
        Answers (.checkFrameEndRequest n) s fun p =>
          (∀ r, c.last = some r → (p.nsq.get n).report =
            some ⟨r.payload.extractLsb' 0 32, r.payload.extractLsb' 32 32, w13, r.arrival,
              wordOf r.length.val ||| flag r.overrun 8⟩) ∧
            (c.last = none → (p.nsq.get n).report = some ⟨0, 0, w13, 0, 0⟩) ∧ s.part.SequencerKept n p ∧
            s.part.NestOnly n p ∧ p = { s.part with buc := s.part.buc.put n { b with check := none }, nsq := p.nsq }) ∧
      (b.loadWait = none → ∀ cause, exec (.frameLoadStopRequest n cause) s = .next s) ∧
      (b.check = none → exec (.checkFrameEndRequest n) s = .next s)

/-- A slot falls due. Every RUNNING slot due then has a pending transmission, which keeps an earlier due time, and the next
due time on the schedule; then the arbiter runs, and with an idle bus starts the transmission due furthest back, of
equals the one of the lower slot (R99, R100, R101). A FRAME_RUN stops the slots of its stop mask, clears MUTE where its
start mask names any slot, and starts the named slots that are then STOPPED, from their definitions; those with a phase
of 0 fall due at the hand-off. Both masks 0 change nothing (R96, R97, R98). Model's choice: log entries 10, 12, 14. -/
def Obligations.SlotFallsDue : Prop :=
  (∀ (n : NestId) (k : Fin 16) (s : State),
    let b := s.part.buc.get n
    let f := s.part.slot n k
    let next (d : Nat) (x : FrameSlot) : Option Nat :=
      let period := (x.frameDef.map FrameDef.periodMs).getD 0
      if period = 0 then none else some (d + 1000 * period)
    (f.due = none → exec (.slotDue n k) s = .next s) ∧
      ∀ d, f.due = some d →
        (s.part.now < d → exec (.slotDue n k) s = .next s) ∧
        (d ≤ s.part.now → f.state ≠ .running → Answers (.slotDue n k) s fun p =>
          p = { s.part with buc := s.part.buc.put n { b with slots := b.slots.put k { f with due := none } } }) ∧
        (d ≤ s.part.now → f.state = .running →
          Answers (.slotDue n k) s
            (Part.Arbitrates
              { s.part with
                buc := s.part.buc.put n { b with
                  slots := Bank.build fun j =>
                    let x := s.part.slot n j
                    if x.state = .running ∧ x.due = some d then
                      { x with pendingDue := some (x.pendingDue.getD d), due := next d x }
                    else x } }
              n))) ∧
  (∀ (b : Bus) (k : Fin 16), b.runningMask.getLsbD k.val = decide ((b.slots.get k).state = .running)) ∧
  ∀ (n : NestId) (st : Step) (s : Part), s.powered n = true →
    let b := s.buc.get n
    let start : W16 := field (st.w 2) 0 16
    let stop : W16 := field (st.w 2) 16 16
    let unmutes := decide (start ≠ 0) && b.mute
    let halted (k : Fin 16) := stop.getLsbD k.val && decide ((s.slot n k).state ≠ .stopped)
    let unmuted (k : Fin 16) := unmutes && decide ((s.slot n k).state = .muted)
    let started (k : Fin 16) :=
      start.getLsbD k.val && (decide ((s.slot n k).state = .stopped) || halted k || unmuted k)
    let latched (k : Fin 16) : FrameDef :=
      let w (i : Nat) := s.word (frameAt n k i)
      let extended := bitAt (w 0) 31
      { extended := extended
        ident := if extended then field (w 0) 0 29 else (field (w 0) 0 11 : BitVec 11).setWidth 29
        length := ⟨min (field (w 1) 0 4 : BitVec 4).toNat 8, by omega⟩
        periodMs := (field (w 1) 16 16 : W16).toNat, phaseMs := (field (w 2) 0 16 : W16).toNat }
    let after (k : Fin 16) : FrameSlot :=
      let f := s.slot n k
      let d := latched k
      if started k then
        { state := .running, frameDef := some d, preload := false
          payload := if f.preload then f.payload else s.word (frameAt n k 4) ++ s.word (frameAt n k 3)
          due := if d.phaseMs ≠ 0 then some (s.now + 1000 * d.phaseMs)
            else if d.periodMs = 0 then none else some (s.now + 1000 * d.periodMs)
          pendingDue := if d.phaseMs = 0 then some s.now else none
          stagedPayload := none, stagedLines := none, sent := 0, nack := 0 }
      else if halted k then
        { f with state := .stopped, pendingDue := none, due := none, stagedPayload := none, stagedLines := none }
      else if unmuted k then { f with state := .stopped } else f
    let p := (s.handOff n .frameRun st).1
    (start = 0 → stop = 0 → p = s) ∧
      (s.handOff n .frameRun st).2 =
        .done .pass .none ⟨place { b with slots := Bank.build after }.runningMask 0, 0, 0, 0, 0⟩ ∧
      (b.on = false ∨ b.tx.isSome ∨ b.rx.isSome ∨ (∀ k, started k = true → (latched k).phaseMs ≠ 0) →
        (∀ k, p.slot n k = after k) ∧
          p.buc.get n =
            { b with
              slots := (p.buc.get n).slots, mute := b.mute && !unmutes, nacks := if unmutes then 0 else b.nacks
              tx := b.tx.map fun t => if halted t.slot then { t with stopped := true } else t } ∧
          (∀ k, started k = true → p.word (frameAt n k 6) = 1 ∧ p.word (frameAt n k 7) = 0) ∧
          (∀ k, started k = false → (halted k || unmuted k) = true →
            p.word (frameAt n k 6) = (after k).statusWord) ∧
          (unmutes = true → p.word (nestAt n 7) = p.nestStateWord n) ∧
          s.StoresOnly ((if unmutes then [nestAt n 7] else []) ++ (List.finRange 16).flatMap fun k =>
            if started k then [frameAt n k 6, frameAt n k 7] else if halted k || unmuted k then [frameAt n k 6]
            else []) p ∧ s.NestOnly n p ∧ p = { s with buc := p.buc, mem := p.mem }) ∧
      ∀ (t : Transmission) (k : Fin 16), b.tx = none → started k = true → (latched k).phaseMs = 0 →
        ((((s.withTx n (some t)).handOff n .frameRun st).1).withTx n none).Arbitrates n p

/-- The ends of a transmission: acknowledged and not acknowledged are counted and shown, and a single-shot slot not
stopped meanwhile becomes STOPPED; then the arbiter runs. Lost arbitration counts nothing, becomes a reception with its
snapshot, and gives a slot still RUNNING its due back. The 16th nack in a row mutes the bus: every RUNNING slot, the
sending one too, loses its pending transmission and its staging and is MUTED, after which a single-shot sending slot is
STOPPED; BUS_MUTE is recorded without an abort, and a waiting FRAME_LOAD fails with its slot's staging dropped. Each word
of the slot is written only where what it shows has changed (R100, R102, R103, R104, R108). Model's choice: log entries
12, 13, 14. -/
def Obligations.TransmissionEnds : Prop :=
  ∀ (n : NestId) (t : Transmission) (s : State),
    let b := s.part.buc.get n
    let f := s.part.slot n t.slot
    let single := decide ((f.frameDef.map FrameDef.periodMs).getD 0 = 0) && !t.stopped
    let ended : SlotState := if single then .stopped else f.state
    let counted (g : FrameSlot) (nacks : Nat) (m : Memory) : Part :=
      { s.part with
        buc := s.part.buc.put n { b with tx := none, nacks := nacks, slots := b.slots.put t.slot g }, mem := m }
    let acked : FrameSlot := { f with sent := f.sent + 1, state := ended }
    b.tx = some t →
    Answers (.transmissionEnd n .acknowledged) s
        ((counted acked 0 (s.part.mem.setWord (frameAt n t.slot 6) acked.statusWord)).Arbitrates n) ∧
      (b.nacks + 1 < 16 →
        let g := { f with nack := f.nack + 1, state := ended }
        let m := s.part.mem.setWord (frameAt n t.slot 7) (place (f.nack + 1) 0)
        Answers (.transmissionEnd n .notAcknowledged) s
          ((counted g (b.nacks + 1)
            (if ended = f.state then m else m.setWord (frameAt n t.slot 6) g.statusWord)).Arbitrates n)) ∧
      (b.nacks + 1 = 16 → (∀ j, (s.part.slot n j).pendingDue.isSome → (s.part.slot n j).state = .running) →
        Answers (.transmissionEnd n .notAcknowledged) s fun p =>
          (p.buc.get n).mute = true ∧ (p.buc.get n).nacks = 16 ∧ (p.buc.get n).tx = none ∧
            (p.buc.get n).filters = b.filters ∧ (p.buc.get n).check = b.check ∧ (p.buc.get n).loadWait = none ∧
            (∀ j,
              let x := s.part.slot n j
              let muted := decide (x.state = .running)
              let dropped := muted || decide (b.loadWait.map LoadWait.slot = some j)
              p.slot n j =
                  { x with
                    state := if j = t.slot ∧ single = true then .stopped else if muted then .muted else x.state
                    nack := if j = t.slot then x.nack + 1 else x.nack
                    pendingDue := if muted then none else x.pendingDue, due := if muted then none else x.due
                    stagedPayload := if dropped then none else x.stagedPayload
                    stagedLines := if dropped then none else x.stagedLines } ∧
                (muted = true ∨ (dropped = true ∧ (x.stagedPayload.isSome ∨ x.stagedLines.isSome)) →
                  p.word (frameAt n j 6) = (p.slot n j).statusWord)) ∧
            s.part.Records n .busMute (s.part.nsq.get n).sequence p ∧
            (b.mute = false → p.word (nestAt n 7) = p.nestStateWord n) ∧
            (∀ w, b.loadWait = some w →
              s.part.Completes n .frameLoad .fail .busMute ⟨w.w11, 0, 0, 0, 0⟩ [] [] p) ∧
            (b.loadWait = none → p.sent = s.part.sent) ∧ (p.nsq.get n).step = (s.part.nsq.get n).step ∧
            p.word (frameAt n t.slot 7) = place (f.nack + 1) 0 ∧
            s.part.SetsOnly [factorFault n, factorFirstFault] p ∧
            s.part.StoresOnly ([nestAt n 7, nestAt n 8, ffStateAt, ffStepAt, ffTimeAt, frameAt n t.slot 7] ++
              (List.finRange 16).map fun k => frameAt n k 6) p ∧ s.part.NestOnly n p ∧
            p = { s.part with buc := p.buc, nsq := p.nsq, mem := p.mem, sent := p.sent, factor := p.factor
                              firstFault := p.firstFault }) ∧
      ∀ il, Answers (.transmissionEnd n (.arbitrationLost il)) s fun p =>
        p.slot n t.slot =
            { f with
              pendingDue := if f.state = .running ∧ t.stopped = false then some t.due else f.pendingDue } ∧
          (∀ j, j ≠ t.slot → p.slot n j = s.part.slot n j) ∧
          p.buc.get n = { b with tx := none, rx := some il, slots := (p.buc.get n).slots } ∧ s.part.NestOnly n p ∧
          p = { s.part with buc := p.buc }

/-- Reception. An ON controller latches the discrete outputs at a frame's start. A frame that ends in error or is a
remote frame changes no capture. A data frame is taken by each ARMED filter that matches it, into its record and its
capture slot, and by no other; a CHECK_FRAME on that filter examines it, clears FRESH, and passes if the masked payload
is the expected one; then the arbiter runs. The controller acknowledges what it received without error, and nothing when
OFF (R93, R100, R109, R110, R113). A CAPTURE_ARM disarms and arms the filters it names, and a CHECK_FRAME examines a FRESH
capture at its hand-off unless it is fresh-only (R111, R112, R113). Model's choice: log entries 10, 12. -/
def Obligations.ReceptionFillsTheMatchingFilters : Prop :=
  (∀ (n : NestId) (il : BitVec 4) (s : State),
      let b := s.part.buc.get n
      (b.on = true → Answers (.receptionStart n il) s fun p =>
        p = { s.part with buc := s.part.buc.put n { b with rx := some il } }) ∧
        (b.on = false → exec (.receptionStart n il) s = .next s) ∧
        (b.rx = none → ∀ how, exec (.receptionEnd n how) s = .next s)) ∧
    (∀ (b : Bus) (f : Frame), b.acknowledges (.data f) = (b.on && b.rx.isSome) ∧
      b.acknowledges .remote = (b.on && b.rx.isSome) ∧ b.acknowledges .error = false) ∧
    (∀ (n : NestId) (st : Step) (s : Part), s.powered n = true →
      let b := s.buc.get n
      let arm : Byte := field (st.w 2) 0 8
      let disarm : Byte := field (st.w 2) 8 8
      let p := (s.handOff n .captureArm st).1
      (∀ (k : Fin 8), p.filter n k =
          if arm.getLsbD k.val then
            ⟨some ⟨bitAt (s.word (captureAt n k 0)) 31, field (s.word (captureAt n k 0)) 0 29,
              field (s.word (captureAt n k 1)) 0 29⟩, ⟨0, 0, 0, 0, 0, false, 0, false, false⟩⟩
          else if disarm.getLsbD k.val then { s.filter n k with armed := none } else s.filter n k) ∧
        (∀ (k : Fin 8) (w : Nat), arm.getLsbD k.val = true → w ∈ [2, 3, 4, 5, 6, 7] →
          p.word (captureAt n k w) = 0) ∧
        (∀ k : Fin 8, (p.buc.get n).armedMask.getLsbD k.val = (p.filter n k).armed.isSome) ∧
        (s.handOff n .captureArm st).2 = .done .pass .none ⟨place (p.buc.get n).armedMask 0, 0, 0, 0, 0⟩ ∧
        p.buc.get n = { b with filters := (p.buc.get n).filters } ∧
        s.StoresOnly ((List.finRange 8).flatMap fun k =>
          if arm.getLsbD k.val then [2, 3, 4, 5, 6, 7].map fun w => captureAt n k w else []) p ∧
        s.NestOnly n p ∧ p = { s with buc := p.buc, mem := p.mem }) ∧
    (∀ (n : NestId) (k : Fin 8) (st : Step) (s : Part), s.powered n = true →
      (field (st.w 2) 0 8 : Byte).toNat = k.val →
      let b := s.buc.get n
      let x := s.filter n k
      let r := x.record
      let c : CheckFrame := ⟨k, st.w 4 ++ st.w 3, st.w 6 ++ st.w 5, 0, 0, none⟩
      let right := r.payload &&& c.mask = c.expected &&& c.mask
      let examined (check : Option CheckFrame) : Part :=
        { s with
          buc := s.buc.put n
            { b with check := check, filters := b.filters.put k { x with record := { r with fresh := false } } }
          mem := s.mem.setWord (captureAt n k 4) { r with fresh := false }.flagsWord }
      (bitAt (st.w 2) 8 = true → s.handOff n .checkFrame st = (examined (some c), .started)) ∧
        (bitAt (st.w 2) 8 = false →
          (r.fresh = false →
            s.handOff n .checkFrame st = ({ s with buc := s.buc.put n { b with check := some c } }, .started)) ∧
          (r.fresh = true → right → s.handOff n .checkFrame st =
            (examined none, .done .pass .none
              ⟨r.payload.extractLsb' 0 32, r.payload.extractLsb' 32 32, 1, r.arrival,
                wordOf r.length.val ||| flag r.overrun 8⟩)) ∧
          (r.fresh = true → ¬ right → s.handOff n .checkFrame st =
            (examined (some { c with examined := 1, unequal := 1, last := some r }), .started)))) ∧
    ∀ (n : NestId) (il : BitVec 4) (s : State),
      let b := s.part.buc.get n
      b.rx = some il →
      (∀ how, how = .remote ∨ how = .error →
        Answers (.receptionEnd n how) s
          (Part.Arbitrates { s.part with buc := s.part.buc.put n { b with rx := none } } n)) ∧
        ∀ (f : Frame), (f.extended = true ∨ f.ident &&& 0x7FF#29 = f.ident) →
          let takes (k : Fin 8) : Prop := ∃ d, (s.part.filter n k).armed = some d ∧ d.extended = f.extended ∧
            ∀ i, i < (if f.extended then 29 else 11) → d.mask.getLsbD i = true →
              f.ident.getLsbD i = d.ident.getLsbD i
          let taken (k : Fin 8) (fresh : Bool) : Capture :=
            let r := (s.part.filter n k).record
            ⟨payloadPrefix f.length f.payload, f.length, s.part.timebase, r.count + 1, f.ident, f.extended, il, fresh,
              r.overrun || r.fresh⟩
          (∀ (t : Transmission) (x : State), b.tx = none →
            exec (.receptionEnd n (.data f)) { s with part := s.part.withTx n (some t) } = .next x →
            Answers (.receptionEnd n (.data f)) s ((x.part.withTx n none).Arbitrates n)) ∧
          (b.on = false ∨ b.tx.isSome ∨ (∀ j, (s.part.slot n j).pendingDue = none) →
            Answers (.receptionEnd n (.data f)) s fun p =>
              (∀ k, ¬ takes k → p.filter n k = s.part.filter n k) ∧
                (∀ k, takes k →
                  let examined := b.check.map CheckFrame.filter = some k
                  p.filter n k = ⟨(s.part.filter n k).armed, taken k (decide ¬ examined)⟩ ∧
                    p.word (captureAt n k 2) = (payloadPrefix f.length f.payload).extractLsb' 0 32 ∧
                    p.word (captureAt n k 3) = (payloadPrefix f.length f.payload).extractLsb' 32 32 ∧
                    p.word (captureAt n k 5) = s.part.timebase ∧
                    p.word (captureAt n k 6) = (s.part.filter n k).record.count + 1 ∧
                    p.word (captureAt n k 7) = (place f.ident 0 ||| flag f.extended 31) ∧
                    p.word (captureAt n k 4) = (p.filter n k).record.flagsWord) ∧
                (b.check = none → (p.buc.get n).check = none ∧ p.sent = s.part.sent ∧ p.nsq = s.part.nsq) ∧
                (∀ c, b.check = some c → ¬ takes c.filter →
                  (p.buc.get n).check = some c ∧ p.sent = s.part.sent ∧ p.nsq = s.part.nsq) ∧
                (∀ c, b.check = some c → takes c.filter →
                  let payload := payloadPrefix f.length f.payload
                  let right := payload &&& c.mask = c.expected &&& c.mask
                  let after : CheckFrame :=
                    { c with
                      examined := if c.examined = 0xFFFF#16 then c.examined else c.examined + 1
                      unequal := if right ∨ c.unequal = 0xFFFF#16 then c.unequal else c.unequal + 1
                      last := some (taken c.filter true) }
                  (right → (p.buc.get n).check = none ∧
                    s.part.Completes n .checkFrame .pass .none after.results [] [] p) ∧
                    (¬ right → (p.buc.get n).check = some after ∧ p.sent = s.part.sent)) ∧
                p.buc.get n = { b with rx := none, check := (p.buc.get n).check, filters := (p.buc.get n).filters } ∧
                s.part.SequencerKept n p ∧
                s.part.StoresOnly
                  ((List.finRange 8).flatMap fun k => [2, 3, 4, 5, 6, 7].map fun w => captureAt n k w) p ∧
                s.part.NestOnly n p ∧ p = { s.part with buc := p.buc, nsq := p.nsq, mem := p.mem, sent := p.sent })

/-! ### Chapters 6 and 9 -/

/-- A coil event. A frozen monitor replaces the image alone, and so do the pair (0,0) and a return to the held pattern. Any
other energised pair becomes the phase memory, stamps the gauge and restarts a settle watch on it: the first is adopted,
a difference of 4 counts AMBIGUOUS without movement, and any other moves the position by its step, held at the limits
with the SAT mark, with a SKIP where the step is not 1. A GAUGE_ZERO on a POWERED nest zeroes the position, the mark and
the counts of each gauge named, keeps the phase memory and the timestamp, and passes at once (R115, R119, R120, R121,
R122, R123, R125). -/
def Obligations.CoilEventsMoveTheGauge : Prop :=
  (∀ (n : NestId) (st : Step) (s : Part), s.powered n = true →
      let u := s.gmn.get n
      let mask : BitVec 4 := field (st.w 2) 0 4
      (∀ g : Fin 4, (s.handOff n .gaugeZero st).1.gauge n g =
          if mask.getLsbD g.val then { u.gauges.get g with position := 0, sat := false, skips := 0, ambiguous := 0 }
          else u.gauges.get g) ∧
        (s.handOff n .gaugeZero st).2 = .done .pass .none .zero ∧
        (s.handOff n .gaugeZero st).1 =
          { s with gmn := s.gmn.put n { u with gauges := ((s.handOff n .gaugeZero st).1.gmn.get n).gauges } } ∧
        (mask = 0 → (s.handOff n .gaugeZero st).1 = s)) ∧
  ∀ (n : NestId) (g : Fin 4) (pair : CoilPair) (s : State),
    let u := s.part.gmn.get n
    let x := s.part.gauge n g
    let image := { x with image := pair }
    let becomes (y : Gauge) (check : Option GaugeCheck) := Answers (.coilEvent n g pair) s fun p =>
      p = { s.part with gmn := s.part.gmn.put n { u with gauges := u.gauges.put g y, check := check } }
    let stepped (y : Gauge) := becomes { y with lastChange := s.part.timebase }
      (u.check.map fun c =>
        if c.gauge = g then { c with due := s.part.now + 1000 * c.windowMs, lastStep := some s.part.timebase } else c)
    let bump (w : W16) : W16 := if w = 0xFFFF#16 then w else w + 1
    (u.running = false → becomes image u.check) ∧
      (u.running = true → pair = ⟨.zero, .zero⟩ → becomes image u.check) ∧
      ∀ i : Fin 8, u.running = true → patternIndex pair = some i →
        (x.phase = none → stepped { image with phase := some i }) ∧
          ∀ q : Fin 8, x.phase = some q →
            let d := (i.val + 8 - q.val) % 8
            let k : Int := if d ≤ 3 then d else (d : Int) - 8
            let sum := x.position.toInt + k
            (d = 0 → becomes image u.check) ∧
              (d = 4 → stepped { image with phase := some i, ambiguous := bump x.ambiguous }) ∧
              (d ≠ 0 → d ≠ 4 → stepped
                { image with
                  phase := some i
                  position := BitVec.ofInt 16 (max (-32768) (min 32767 sum))
                  sat := x.sat || decide (sum < -32768) || decide (32767 < sum)
                  skips := if d = 1 ∨ d = 7 then x.skips else bump x.skips })

/-- A gauge check. Its hand-off refuses a table that is not valid, then a nest not POWERED; otherwise the check record is
made with the source's E, the expected position with its mark, the tolerance and the window clamped, the window's timer
runs, and the step is started. The settle timer's expiry gives the verdict: FAIL SATURATED at a set SAT mark, otherwise
PASS where the deviation lies within the tolerance, otherwise FAIL DEVIATION, with E, Y, M, the deviation, the settle time
and the counts as results. An end request keeps the same results without a verdict. The gauge is not touched (R126, R127,
R162, R166, R167, R168, R169, R170, R171). Model's choice: log entries 10, 12. -/
def Obligations.SettlingJudgesTheGauge : Prop :=
  (∀ (n : NestId) (st : Step) (s : Part) (g : Fin 4) (source : Fin 6) (t : Fin 32),
      (field (st.w 2) 0 8 : Byte).toNat = g.val → (field (st.w 2) 8 8 : Byte).toNat = source.val →
      (field (st.w 2) 16 8 : Byte).toNat = t.val →
      let points := readTable s.mem t.val
      let window := (field (st.w 3) 16 16 : W16).toNat
      let e : W16 :=
        if h : source.val < 4 then ((s.stu.get n).channels.get ⟨source.val, h⟩).e
        else ((s.stu.get n).senders.get ⟨source.val - 4, by omega⟩).e
      let y := expectedPosition e.toNat points
      let c : GaugeCheck :=
        { gauge := g, source := source, points := points, e := e, mark := y.2, expected := BitVec.ofInt 16 y.1
          tolerance := min (field (st.w 3) 0 16 : W16).toNat 32767, windowMs := max 10 (min window 5000)
          windowClamped := decide (window < 10 ∨ 5000 < window), accepted := st.accepted
          due := s.now + 1000 * max 10 (min window 5000), lastStep := none }
      (tableValid points = false → s.handOff n .checkGauge st = (s, .done .refused .badTable .zero)) ∧
        (tableValid points = true → s.powered n = false →
          s.handOff n .checkGauge st = (s, .done .refused .badState .zero)) ∧
        (tableValid points = true → s.powered n = true → s.handOff n .checkGauge st =
          ({ s with gmn := s.gmn.put n { s.gmn.get n with check := some c } }, .started))) ∧
  ∀ (n : NestId) (s : State),
    let u := s.part.gmn.get n
    (∀ c, u.check = some c →
      let g := s.part.gauge n c.gauge
      let deviation := g.position.toInt - c.expected.toInt
      let ms : Nat := match c.lastStep with
        | some t => (t - c.accepted).toNat / 1000
        | none => 0
      let r : Results :=
        { w11 := place c.e 0 ||| flag (decide (c.mark = .below)) 16 ||| flag (decide (c.mark = .above)) 17 |||
            flag c.windowClamped 18
          w12 := place c.expected 0 ||| place g.position 16, w13 := BitVec.ofInt 32 deviation, w14 := wordOf ms
          w15 := place g.skips 0 ||| place g.ambiguous 16 }
      let v : Verdict × Detail :=
        if g.sat = true then (.fail, .saturated)
        else if deviation.natAbs ≤ c.tolerance then (.pass, .none) else (.fail, .deviation)
      (s.part.now < c.due → exec (.gaugeSettleExpiry n) s = .next s) ∧
      (c.due ≤ s.part.now → Answers (.gaugeSettleExpiry n) s fun p =>
        s.part.Completes n .checkGauge v.1 v.2 r [] [] p ∧ s.part.SequencerKept n p ∧ s.part.NestOnly n p ∧
          p = { s.part with gmn := s.part.gmn.put n { u with check := none }, nsq := p.nsq, sent := p.sent }) ∧
        Answers (.settleWatchEndRequest n) s fun p =>
          p = { s.part with
                gmn := s.part.gmn.put n { u with check := none }
                nsq := s.part.nsq.put n { s.part.nsq.get n with report := some r } }) ∧
      (u.check = none → exec (.gaugeSettleExpiry n) s = .next s ∧ exec (.settleWatchEndRequest n) s = .next s)

/-- Characteristic tables. A table read holds its m points, x in the low and y in the high half of each word; it is valid
when m lies from 2 to 16 and the x are strictly increasing. The expected position of a valid table: the end points with
their marks at and beyond the ends, and between two points the lower one's position plus the rounded term, without a mark;
it always lies between positions of the table (R163, R164). -/
def Obligations.ExpectedPositionFollowsTheTable : Prop :=
  (∀ (mem : Memory) (t : Nat),
      let m := (field (mem.word (tableAt t 0)) 0 8 : Byte).toNat
      let x (i : Nat) : W16 := field (mem.word (tableAt t (1 + i))) 0 16
      let y (i : Nat) : W16 := field (mem.word (tableAt t (1 + i))) 16 16
      (2 ≤ m → m ≤ 16 → (readTable mem t).length = m ∧
          ∀ i, i < m → (readTable mem t)[i]? = some ⟨(x i).toNat, (y i).toInt⟩) ∧
        (tableValid (readTable mem t) = true ↔
          2 ≤ m ∧ m ≤ 16 ∧ ∀ i, i + 1 < m → (x i).toNat < (x (i + 1)).toNat)) ∧
  ∀ (points : List TablePoint) (e : Nat), tableValid points = true →
    (∀ a, points.head? = some a → e ≤ a.x → expectedPosition e points = (a.y, .below)) ∧
      (∀ z, points.getLast? = some z → z.x ≤ e → expectedPosition e points = (z.y, .above)) ∧
      (∀ (i : Nat) (a b : TablePoint), points[i]? = some a → points[i + 1]? = some b → a.x ≤ e → e < b.x →
        i ≠ 0 ∨ a.x ≠ e → expectedPosition e points = (a.y + interpolate a b e, .none)) ∧
      ∃ lo ∈ points, ∃ hi ∈ points, lo.y ≤ (expectedPosition e points).1 ∧ (expectedPosition e points).1 ≤ hi.y

/-- The interpolation term: with a = |y' − y| × (E − x) and d = x' − x its magnitude is floor((a + floor(d/2)) / d), its
sign is that of y' − y, it is 0 where a is 0, and a mirrored segment gives the mirrored term (R165). -/
def Obligations.InterpolationRoundsHalvesAway : Prop :=
  ∀ (p q : TablePoint) (e : Nat), p.x < q.x → p.x ≤ e →
    let a := (q.y - p.y).natAbs * (e - p.x)
    let d := q.x - p.x
    (interpolate p q e).natAbs = (a + d / 2) / d ∧ (p.y ≤ q.y → 0 ≤ interpolate p q e) ∧
      (q.y ≤ p.y → interpolate p q e ≤ 0) ∧ (a = 0 → interpolate p q e = 0) ∧
      interpolate { p with y := -p.y } { q with y := -q.y } e = -interpolate p q e

/-! ### Chapter 7 -/

/-- Lamps. A CHECK_LAMPS on a POWERED nest takes the threshold its index names, at most 1,000,000 µA, and the pattern of
the currents: a mismatch waits, a match starts the stable window, and with a window of 0 passes at once. A lamp event
replaces the current, held to 1,000,000 µA, and a running watch takes the pattern of the currents against its threshold:
a match in MISMATCHED starts the stable window, or passes at once with a window of 0; a match in MATCHING leaves the
timer; a mismatch stops it. Its expiry passes the check; an end request keeps pattern and mismatch mask, one bit for each
lamp of the mask that differs from its expected bit (R129, R131, R132, R133, R134, R135, R136). Model's choice: log
entries 10, 12. -/
def Obligations.LampWatchFollowsThePattern : Prop :=
  ∀ (n : NestId) (s : State),
    let u := s.part.lpc.get n
    let result (w : LampWatch) (pattern : W16) : Results :=
      ⟨place pattern 0 ||| place ((pattern ^^^ w.expected) &&& w.mask) 16, flag w.windowClamped 0, 0, 0, 0⟩
    (∀ (st : Step) (i : Fin 16) (pattern : W16), (field (st.w 3) 0 8 : Byte).toNat = i.val →
      s.part.powered n = true →
      let threshold := min (s.part.word (thresholdAt i.val)).toNat 1000000
      let window := (field (st.w 3) 16 16 : W16).toNat
      let w : LampWatch :=
        { matching := false, threshold := threshold, mask := field (st.w 2) 0 16, expected := field (st.w 2) 16 16
          windowMs := min window 5000, windowClamped := decide (5000 < window), stableTimer := none
          pattern := pattern }
      let agrees := (pattern ^^^ w.expected) &&& w.mask = 0
      let starts (x : LampWatch) : Prop := s.part.handOff n .checkLamps st =
        ({ s.part with lpc := s.part.lpc.put n { u with watch := some x } }, .started)
      (∀ j : Fin 16, pattern.getLsbD j.val = decide (threshold ≤ u.currents.get j)) →
        (¬ agrees → starts w) ∧
          (agrees → window ≠ 0 → starts
            { w with matching := true, stableTimer := some (s.part.now + 1000 * min window 5000) }) ∧
          (agrees → window = 0 →
            s.part.handOff n .checkLamps st = (s.part, .done .pass .none (result w pattern)))) ∧
      (∀ (k : Fin 16) (current : W32),
        let currents := u.currents.put k (min current.toNat 1000000)
        (u.watch = none → Answers (.lampEvent n k current) s fun p =>
          p = { s.part with lpc := s.part.lpc.put n { u with currents := currents } }) ∧
          ∀ (w : LampWatch) (pattern : W16), u.watch = some w →
            (∀ j : Fin 16, pattern.getLsbD j.val = decide (w.threshold ≤ currents.get j)) →
            let agrees := (pattern ^^^ w.expected) &&& w.mask = 0
            let becomes (x : LampWatch) := Answers (.lampEvent n k current) s fun p =>
              p = { s.part with lpc := s.part.lpc.put n { u with currents := currents, watch := some x } }
            (¬ agrees → becomes { w with pattern := pattern, matching := false, stableTimer := none }) ∧
              (agrees → w.matching = true → w.windowMs ≠ 0 → becomes { w with pattern := pattern }) ∧
              (agrees → w.matching = false → w.windowMs ≠ 0 → becomes
                { w with pattern := pattern, matching := true
                         stableTimer := some (s.part.now + 1000 * w.windowMs) }) ∧
              (agrees → w.windowMs = 0 → Answers (.lampEvent n k current) s fun p =>
                s.part.Completes n .checkLamps .pass .none (result w pattern) [] [] p ∧ s.part.SequencerKept n p ∧
                  s.part.NestOnly n p ∧
                  p = { s.part with lpc := s.part.lpc.put n { u with currents := currents, watch := none }
                                    nsq := p.nsq, sent := p.sent })) ∧
      (∀ w, u.watch = some w →
        (w.matching = true → s.part.Due w.stableTimer → Answers (.stableTimerExpiry n) s fun p =>
          s.part.Completes n .checkLamps .pass .none (result w w.pattern) [] [] p ∧ s.part.SequencerKept n p ∧
            s.part.NestOnly n p ∧
            p = { s.part with lpc := s.part.lpc.put n { u with watch := none }, nsq := p.nsq, sent := p.sent }) ∧
          (w.matching = false ∨ ¬ s.part.Due w.stableTimer → exec (.stableTimerExpiry n) s = .next s) ∧
          Answers (.lampWatchEndRequest n) s fun p =>
            p = { s.part with
                  lpc := s.part.lpc.put n { u with watch := none }
                  nsq := s.part.nsq.put n { s.part.nsq.get n with report := some (result w w.pattern) } }) ∧
      (u.watch = none → exec (.stableTimerExpiry n) s = .next s ∧ exec (.lampWatchEndRequest n) s = .next s) ∧
      ∀ (w : LampWatch) (pattern : W16) (k : Fin 16),
        (w.mismatch pattern).getLsbD k.val =
          (w.mask.getLsbD k.val && (pattern.getLsbD k.val != w.expected.getLsbD k.val))

/-- Pulse capture. A CHECK_FREQ on a POWERED nest arms its input with the target clamped to 1 to 64 and counts cleared. A
level already held is no edge, and an edge that finds its input IDLE changes the level alone. In ARMED a qualifying edge
starts a sample; in PERIOD a qualifying edge, in WIDTH an opposite one, ends it; the Nth forms the mean, halves up, and
the value, and the window gives the verdict. An end request, and the nest leaving POWERED, make the input IDLE and keep
value 0, the samples collected and their sum (R136, R137, R138, R139, R140, R141, R142). Model's choice: log entries 10,
12, 20 for two edges of one tick, whose mean of 0 has a free frequency, and 18 for the counters of an input in IDLE or
between two WIDTH samples. -/
def Obligations.PulseCaptureMeasures : Prop :=
  ∀ (n : NestId) (s : State),
    let u := s.part.lpc.get n
    let results (c : PulseCapture) (x : PulseInput) (value : W32) : Results :=
      ⟨value, wordOf x.collected ||| flag c.targetClamped 8, x.sum.extractLsb' 0 32, x.sum.extractLsb' 32 32, 0⟩
    let idle := Bank.build fun j => { u.inputs.get j with capture := none, start := none }
    (∀ (st : Step) (i : Fin 4), (field (st.w 2) 0 8 : Byte).toNat = i.val → s.part.powered n = true →
      let target := (field (st.w 2) 16 8 : Byte).toNat
      let c : PulseCapture :=
        { sampling := false, width := bitAt (st.w 2) 8, falling := bitAt (st.w 2) 9, target := max 1 (min target 64)
          targetClamped := decide (target < 1 ∨ 64 < target), windowLow := st.w 3, windowHigh := st.w 4 }
      s.part.handOff n .checkFreq st =
        ({ s.part with
           lpc := s.part.lpc.put n
             { u with inputs := u.inputs.put i ⟨(u.inputs.get i).level, some c, none, 0, 0⟩ } }, .started)) ∧
      (∀ (i : Fin 4) (high : Bool),
        let x := u.inputs.get i
        let becomes (y : PulseInput) := Answers (.pulseEdge n i high) s fun p =>
          p = { s.part with lpc := s.part.lpc.put n { u with inputs := u.inputs.put i { y with level := high } } }
        (x.level = high → exec (.pulseEdge n i high) s = .next s) ∧
          (x.level ≠ high → x.capture = none → becomes x) ∧
          ∀ c, x.level ≠ high → x.capture = some c → x.collected < c.target →
            let qualifying : Bool := high != c.falling
            (c.sampling = false → qualifying = true →
              becomes { x with capture := some { c with sampling := true }, start := some s.part.ticks }) ∧
              (c.sampling = false → qualifying = false → becomes x) ∧
              (c.sampling = true → qualifying = c.width → becomes x) ∧
              ∀ first, c.sampling = true → qualifying ≠ c.width → x.start = some first →
                let done : PulseInput :=
                  { x with capture := some { c with sampling := !c.width }
                           start := if c.width = true then none else some s.part.ticks
                           collected := x.collected + 1, sum := x.sum + BitVec.ofNat 64 (s.part.ticks - first) }
                let mean := (done.sum.toNat + c.target / 2) / c.target
                let value :=
                  if c.width = false ∧ mean = 0 then Config.frequencyOfNoTicks done.sum.toNat c.target
                  else wordOf (if c.width = true then mean else min ((10000000000 + mean / 2) / mean) 4294967295)
                let v : Verdict × Detail :=
                  if c.windowLow ≤ value ∧ value ≤ c.windowHigh then (.pass, .none) else (.fail, .outOfWindow)
                (x.collected + 1 < c.target → becomes done) ∧
                  (x.collected + 1 = c.target → Answers (.pulseEdge n i high) s fun p =>
                    s.part.Completes n .checkFreq v.1 v.2 (results c done value) [] [] p ∧
                      s.part.SequencerKept n p ∧ s.part.NestOnly n p ∧
                      p = { s.part with
                            lpc := s.part.lpc.put n
                              { u with
                                inputs := u.inputs.put i { done with level := high, capture := none, start := none } }
                            nsq := p.nsq, sent := p.sent })) ∧
      (∀ i c, (u.inputs.get i).capture = some c → (∀ j, j ≠ i → (u.inputs.get j).capture = none) →
        let kept :=
          s.part.nsq.put n { s.part.nsq.get n with report := some (results c (u.inputs.get i) 0) }
        (Answers (.captureEndRequest n) s fun p =>
          p = { s.part with lpc := s.part.lpc.put n { u with inputs := idle }, nsq := kept }) ∧
          Answers (.lpcPowerDeparture n) s fun p =>
            p = { s.part with lpc := s.part.lpc.put n { u with inputs := idle, watch := none }, nsq := kept }) ∧
      ((∀ j, (u.inputs.get j).capture = none) → exec (.captureEndRequest n) s = .next s ∧
        Answers (.lpcPowerDeparture n) s fun p =>
          (∀ w, u.watch = some w → (p.nsq.get n).report = some w.results) ∧ (u.watch = none → p.nsq = s.part.nsq) ∧
            s.part.SequencerKept n p ∧ s.part.NestOnly n p ∧
            p = { s.part with lpc := s.part.lpc.put n { u with watch := none }, nsq := p.nsq })

/-! ### Chapter 8 -/

/-- The measurement. A MEASURE on a POWERED nest makes its record with the sweep, its scalings as exchange memory holds
them, and the sample count clamped to 1 to 256; a FREE converter is granted at once, a GRANTED one holds the step at the
queue's tail. The settle's expiry starts sampling. A sample below the Kth is summed, with the OVERRANGE mark at a limit
code. The Kth judges the point; with points left the route moves to the next one and settles; the last one opens the
route, drops the record, completes the MEASURE, and the converter passes on to the next waiting nest or is FREE (R146,
R147, R148, R149, R151, R152). Model's choice: log entries 10, 12. -/
def Obligations.SamplesCompleteTheSweep : Prop :=
  (∀ (n : NestId) (st : Step) (s : Part) (x : Fin 8) (count : Nat), count ∈ [1, 2, 4] →
      (field (st.w 2) 0 8 : Byte).toNat = x.val → (field (st.w 2) 8 8 : Byte).toNat = count → s.powered n = true →
      let k := (field (st.w 2) 16 16 : W16).toNat
      let m : Measurement :=
        { sweep := (sweepOf x count).map fun y =>
            ⟨y, field (s.word (scalingAt (8 * n.val + y.val) 0)) 0 16, s.word (scalingAt (8 * n.val + y.val) 1)⟩
          samples := max 1 (min k 256), samplesClamped := decide (k < 1 ∨ 256 < k), windowLow := st.w 3
          windowHigh := st.w 4, done := [] }
      (sweepOf x count).map Fin.val = (List.range count).map (x.val ^^^ ·) ∧
        (s.pcv.grant = none → s.handOff n .measure st =
          ({ s with
             pcv := { s.pcv with
               relays := s.pcv.relays ||| 1#64 <<< (8 * n.val + x.val)
               grant := some ⟨n, st.sequence, 0, false, some (s.now + 3000), none, 0, 0, false⟩
               records := s.pcv.records.put n (some m) } }, .started)) ∧
        (s.pcv.grant.isSome → s.handOff n .measure st =
          ({ s with
             pcv := { s.pcv with
               queue := s.pcv.queue ++ [(n, st.sequence)], records := s.pcv.records.put n (some m) } },
            .held .converter))) ∧
  ∀ (g : Grant) (s : State), s.part.pcv.grant = some g →
    (g.sampling = false → s.part.Due g.settleTimer → Answers .converterSettleExpiry s fun p =>
      p = { s.part with
            pcv := { s.part.pcv with
              grant := some { g with sampling := true, settleTimer := none
                                     sampleTimer := some (s.part.now + 20) } } }) ∧
      (g.sampling = true ∨ ¬ s.part.Due g.settleTimer → exec .converterSettleExpiry s = .next s) ∧
      ∀ (code : W16) (m : Measurement), s.part.pcv.records.get g.nest = some m → g.sampling = true →
        let sum := g.sum + code.toInt
        let limit := g.overrange || decide (code = 0x8000#16) || decide (code = 0x7FFF#16)
        (g.taken + 1 < m.samples → Answers (.sample code) s fun p =>
          p = { s.part with
                pcv := { s.part.pcv with
                  grant := some { g with sum := sum, taken := g.taken + 1, overrange := limit
                                         sampleTimer := some (s.part.now + 20) } } }) ∧
          ∀ x, g.taken + 1 = m.samples → m.sweep[g.position]? = some x →
            let m' := { m with done := m.done ++ [m.judge x sum limit] }
            let v : Verdict × Detail :=
              if m'.done.all PointValue.passed then (.pass, .none)
              else if m'.done.any PointValue.overrange then (.fail, .overrange) else (.fail, .outOfWindow)
            let freed : Converter :=
              { s.part.pcv with relays := 0, grant := none, records := s.part.pcv.records.put g.nest none }
            (∀ y, m.sweep[g.position + 1]? = some y → Answers (.sample code) s fun p =>
              p = { s.part with
                    pcv := { s.part.pcv with
                      relays := 1#64 <<< (routePoint g.nest y.point).val
                      grant := some ⟨g.nest, g.sequence, g.position + 1, false, some (s.part.now + 3000), none, 0, 0,
                        false⟩
                      records := s.part.pcv.records.put g.nest (some m') } }) ∧
              (∀ st, m.sweep[g.position + 1]? = none → (s.part.nsq.get g.nest).step = some st →
                st.kind = some .measure →
                Answers (.sample code) s
                  (Part.PassesOn
                    { s.part with
                      pcv := freed
                      nsq := s.part.nsq.put g.nest { s.part.nsq.get g.nest with report := some m'.results }
                      sent := s.part.sent ++ [.ownerOutcome ⟨g.nest, st.sequence, v.1, v.2, m'.results⟩] })) ∧
              (m.sweep[g.position + 1]? = none → s.part.pcv.queue = [] → Answers (.sample code) s fun p =>
                s.part.Completes g.nest .measure v.1 v.2 m'.results [] [] p ∧ s.part.SequencerKept g.nest p ∧
                  s.part.NestOnly g.nest p ∧ p = { s.part with pcv := freed, nsq := p.nsq, sent := p.sent })

/-- A point's value never meets the 32-bit clamp: for 1 to 256 codes it is the mean, halves away from zero, less the
offset, times the gain, over 65,536, halves away from zero; and the point passes when the value lies in the signed window
and no code was a limit (R150). -/
def Obligations.PointValueStandsAsComputed : Prop :=
  ∀ (m : Measurement) (p : SweepPoint) (sum : Int) (limit : Bool), 1 ≤ m.samples → m.samples ≤ 256 →
    -32768 * (m.samples : Int) ≤ sum → sum ≤ 32767 * (m.samples : Int) →
    let mean := halfAway sum m.samples
    let value := halfAway ((mean - p.offset.toInt) * p.gain.toInt) 65536
    mean ≤ 32767 ∧ -32768 ≤ mean ∧ (m.judge p sum limit).value.toInt = value ∧
      (m.judge p sum limit).overrange = limit ∧
      ((m.judge p sum limit).passed = true ↔ m.windowLow.toInt ≤ value ∧ value ≤ m.windowHigh.toInt ∧ limit = false)

/-- The converter freed early. An end request, or the granted nest leaving POWERED, opens the route, keeps the results of
the points complete, drops the record and passes the converter on: queued nests not POWERED are withdrawn, and the first
POWERED one is granted, its route point closes and its hold ends. A withdrawal, or a waiting nest leaving POWERED, removes
the nest's entry and grants nothing. Without an entry or a grant of the nest nothing changes (R145, R148, R153, R154,
R155, R156). Model's choice: log entries 10, 12. -/
def Obligations.ConverterPassesOn : Prop :=
  ∀ (n : NestId) (s : State),
    let c := s.part.pcv
    let kept (m : Measurement) := s.part.nsq.put n { s.part.nsq.get n with report := some m.results }
    (∀ g m, c.grant = some g → g.nest = n → c.records.get n = some m → c.queue.all (fun e => e.1 ≠ n) = true →
      ∀ cmd, cmd = .converterEndRequest n ∨ cmd = .converterPowerDeparture n →
        Answers cmd s
          (Part.PassesOn
            { s.part with
              pcv := { c with relays := 0, grant := none, records := c.records.put n none }, nsq := kept m })) ∧
      (∀ m, c.queue.any (fun e => e.1 = n) = true → c.records.get n = some m → (∀ g, c.grant = some g → g.nest ≠ n) →
        ∀ cmd, cmd = .converterWithdrawal n ∨ cmd = .converterPowerDeparture n → Answers cmd s fun p =>
          p = { s.part with pcv := { c with queue := c.queue.filter fun e => e.1 ≠ n }, nsq := kept m }) ∧
      ((∀ g, c.grant = some g → g.nest ≠ n) → exec (.converterEndRequest n) s = .next s) ∧
      (c.queue.any (fun e => e.1 = n) = false → exec (.converterWithdrawal n) s = .next s) ∧
      (c.queue.any (fun e => e.1 = n) = false → (∀ g, c.grant = some g → g.nest ≠ n) →
        exec (.converterPowerDeparture n) s = .next s)

/-! ### Chapter 10 -/

/-- The panel link. A poll falls due on its schedule and, on an idle link, starts with the poll command, the two lamp
bytes as the lamps stand, and the fourth byte; on a running transfer it waits. A byte's end moves the buffered byte
into shift and loads the next: of the poll, or of the prompt text as exchange memory holds it then. The end of a text
transfer shows its SENDING entry with its timestamp and answer timer; the end of a clear, of a cut transfer and of a poll
that no SHOWN prompt or no press answers shows none; after each the link starts a pending poll, else a QUEUED head's text,
which ends a hold of its step, else a clear, else is IDLE. A PROMPT makes an entry at the queue's tail with its operands
clamped; an only entry on an idle link is sent and started, any other is held (R27, R173, R174, R175, R178, R182, R183).
Model's choice: log entry 10. -/
def Obligations.PanelLinkShiftsBytes : Prop :=
  (∀ (lamps : Bank 8 Lamp) (k : Fin 4),
      (lampByte lamps 0).extractLsb' (2 * k.val) 2 = (lampCode (lamps.get ⟨k.val, by omega⟩)).setWidth 2 ∧
        (lampByte lamps 4).extractLsb' (2 * k.val) 2 = (lampCode (lamps.get ⟨4 + k.val, by omega⟩)).setWidth 2) ∧
    ∀ s : State,
      let o := s.part.opc
      let becomes (c : Instr) (x : Panel) := Answers c s fun p => p = { s.part with opc := x }
      let goesOn (c : Instr) (x : Panel) := Answers c s { s.part with opc := x }.ServesLink
      let quiet (x : Panel) : Panel :=
        { x with link := .idle, shift := none, buffered := none, rest := [], cursor := none, index := 0, cut := false
                 byteTimer := none }
      (s.part.now < o.pollTimer → exec .pollDue s = .next s) ∧
        (o.pollTimer ≤ s.part.now → o.link ≠ .idle → becomes .pollDue { o with pollTimer := o.pollTimer + 10000, pollPending := true }) ∧
        (o.pollTimer ≤ s.part.now → o.link = .idle → s.part.linkWaits = false → becomes .pollDue
          { o with link := .poll, shift := some 0x71, buffered := some (lampByte o.lamps 0)
                   rest := [lampByte o.lamps 4, 0], cursor := none, index := 0, cut := false
                   byteTimer := some (s.part.now + 32), pollTimer := o.pollTimer + 10000, pollPending := false }) ∧
        (∀ r : Byte,
          (o.link = .idle → exec (.byteEnd r) s = .next s) ∧
            (∀ b, o.link ≠ .idle → o.buffered = some b → o.cursor = none → becomes (.byteEnd r)
              { o with shift := some b, buffered := o.rest.head?, rest := o.rest.tail, index := o.index + 1
                       byteTimer := some (s.part.now + 32) }) ∧
            (∀ b c, o.link ≠ .idle → o.buffered = some b → o.cursor = some c → becomes (.byteEnd r)
              { o with shift := some b, index := o.index + 1, byteTimer := some (s.part.now + 32)
                       buffered := if c.loaded < 64 then
                           some (s.part.mem.byte (0x25000 + c.text.toNat * 64 + c.loaded)) else none
                       cursor := some { c with loaded := if c.loaded < 64 then c.loaded + 1 else c.loaded } }) ∧
            (∀ e q, o.link = .text → o.buffered = none → o.cut = false → o.prompts = e :: q → e.state = .sending →
              goesOn (.byteEnd r)
                { quiet o with
                  prompts :=
                    { e with state := .shown, firstShown := some (e.firstShown.getD s.part.timebase)
                             answerTimer := some (s.part.now + 1000000 * e.timeoutS) } :: q }) ∧
            (o.link ≠ .idle → o.buffered = none → o.cut = true ∨ o.link = .clear → goesOn (.byteEnd r) (quiet o)) ∧
            (o.link = .poll → o.index = 3 → o.buffered = none → o.cut = false →
              (∀ e, o.prompts.head? = some e → e.state ≠ .shown) ∨
                ((o.buttonPass = .pending → r.getLsbD 0 = false) ∧ (o.buttonFail = .pending → r.getLsbD 1 = false) ∧
                  (o.buttonRepeat = .pending → r.getLsbD 2 = false)) →
              goesOn (.byteEnd r)
                { quiet o with buttonPass := (o.buttonPass.sample (r.getLsbD 0)).1
                               buttonFail := (o.buttonFail.sample (r.getLsbD 1)).1
                               buttonRepeat := (o.buttonRepeat.sample (r.getLsbD 2)).1 })) ∧
        ∀ (n : NestId) (st : Step),
          let timeout := (field (st.w 3) 0 16 : W16).toNat
          let gap := (field (st.w 3) 16 16 : W16).toNat
          let limit := (field (st.w 2) 8 8 : Byte).toNat
          let e : PromptEntry :=
            { nest := n, sequence := st.sequence, state := .queued, text := field (st.w 2) 0 8
              timeoutS := max 1 (min timeout 65), repeatLimit := min limit 3, replayMask := field (st.w 2) 16 6
              gapMs := max 100 (min gap 5000), code := field (st.w 4) 0 16, repeats := 0, firstShown := none
              answerTimer := none
              marks := flag (decide (timeout < 1 ∨ 65 < timeout)) 0 ||| flag (decide (gap < 100 ∨ 5000 < gap)) 1 |||
                flag (decide (3 < limit)) 2 }
          ((o.link ≠ .idle ∨ o.prompts ≠ []) → (o.link = .idle → s.part.linkWaits = false) →
            (∀ x ∈ o.prompts, x.nest ≠ n) →
            s.part.handOff n .prompt st =
              ({ s.part with opc := { o with prompts := o.prompts ++ [e] } }, .held .panel)) ∧
            (o.link = .idle → s.part.linkWaits = false → o.prompts = [] → (s.part.nsq.get n).state ≠ .held →
              s.part.handOff n .prompt st =
                ({ s.part with
                   opc :=
                     { o with
                       link := .text, shift := some (0x80 + BitVec.ofNat 8 n.val)
                       buffered := some (s.part.mem.byte (0x25000 + e.text.toNat * 64)), rest := []
                       cursor := some ⟨n, e.text, 1⟩, index := 0, cut := false
                       byteTimer := some (s.part.now + 32), clearPending := false
                       prompts := [{ e with state := .sending }] } }, .started))

/-- Button acceptance. The end of each poll's fourth byte moves every button's state as the table gives, whatever the
prompt queue holds: a press is accepted when a released sample is followed by two pressed ones, once for each hold. A
press accepted with no prompt SHOWN is spent. Every state is LATCHED after either reset (R176). -/
def Obligations.ButtonsAcceptAFreshPress : Prop :=
  (∀ (b : Button) (pressed : Bool),
      (b.sample pressed).1 = (if pressed = false then .idle else if b = .idle then .pending else .latched) ∧
        ((b.sample pressed).2 = true ↔ b = .pending ∧ pressed = true) ∧
        ((b.sample false).1.sample true).2 = false ∧ (((b.sample false).1.sample true).1.sample true).2 = true ∧
        (((b.sample false).1.sample true).1.sample true).1 = .latched) ∧
    (∀ (r : Byte) (s : State), s.part.opc.link = .poll → s.part.opc.index = 3 → s.part.opc.buffered = none →
      s.part.opc.cut = false →
      Answers (.byteEnd r) s fun p =>
        p.opc.buttonPass = (s.part.opc.buttonPass.sample (r.getLsbD 0)).1 ∧
          p.opc.buttonFail = (s.part.opc.buttonFail.sample (r.getLsbD 1)).1 ∧
          p.opc.buttonRepeat = (s.part.opc.buttonRepeat.sample (r.getLsbD 2)).1 ∧
          ((∀ e, s.part.headEntry = some e → e.state ≠ .shown) → p.sent = s.part.sent ∧ p.stu = s.part.stu)) ∧
    ∀ (c : Instr) (s : State), c = .powerOnReset ∨ c = .reset →
      Answers c s fun p =>
        p.opc.buttonPass = .latched ∧ p.opc.buttonFail = .latched ∧ p.opc.buttonRepeat = .latched

/-- An answer event at a poll's end, for the SHOWN head of the prompt queue: FAIL before PASS before REPEAT. PASS and
FAIL complete the PROMPT and remove the entry, and the panel is cleared or goes to the next prompt, whose hold ends; the
results kept for the NSQ, should it end the step otherwise, have answer 0 (R188; log entry 15).
REPEAT with a repeat left, a mask and supply starts a replay: named channels that are not OFF lose their period and their
pending setting, named senders are driven to the clamped replay code, and the gap timer runs. It is ignored otherwise (R88,
R177, R181, R183, R184, R186). Model's choice: log entries 12, 15. -/
def Obligations.AcceptedPressAnswersThePrompt : Prop :=
  ∀ (r : Byte) (e : PromptEntry) (q : List PromptEntry) (s : State),
    let o := s.part.opc
    let pass := o.buttonPass = .pending ∧ r.getLsbD 0 = true
    let fail := o.buttonFail = .pending ∧ r.getLsbD 1 = true
    let again := o.buttonRepeat = .pending ∧ r.getLsbD 2 = true
    let waited : Nat := match e.firstShown with
      | some t => (s.part.timebase - t).toNat / 1000
      | none => 0
    let results (answer : W32) : Results := ⟨answer ||| wordOf e.repeats <<< 8, wordOf waited, e.marks, 0, 0⟩
    let v : Verdict × Detail := if fail then (.fail, .operator) else (.pass, .none)
    o.link = .poll → o.index = 3 → o.buffered = none → o.cut = false → o.prompts = e :: q → e.state = .shown →
    o.pollPending = false → o.clearPending = false →
    (pass ∨ fail → q = [] → Answers (.byteEnd r) s fun p =>
      s.part.Sends e.nest .prompt v.1 v.2 (results (if fail then 2 else 1)) [] [] p ∧
        (p.nsq.get e.nest).report = some (results 0) ∧ s.part.SequencerKept e.nest p ∧ p.opc.prompts = [] ∧ p.opc.link = .clear ∧ p.opc.shift = some 0x7E ∧
        p.opc.byteTimer = some (s.part.now + 32) ∧ p.opc.clearPending = false ∧ p.opc.lamps = o.lamps ∧
        s.part.NestOnly e.nest p ∧ p = { s.part with opc := p.opc, nsq := p.nsq, sent := p.sent }) ∧
      (∀ x t, pass ∨ fail → q = x :: t → x.state = .queued → (∀ y ∈ q, y.nest ≠ e.nest) →
        (s.part.nsq.get x.nest).state = .held →
        Answers (.byteEnd r) s fun p =>
          s.part.Sends e.nest .prompt v.1 v.2 (results (if fail then 2 else 1)) [] [] p ∧
            (p.nsq.get e.nest).report = some (results 0) ∧ p.opc.prompts = { x with state := .sending } :: t ∧ p.opc.link = .text ∧
            p.opc.shift = some (0x80 + BitVec.ofNat 8 x.nest.val) ∧
            p.opc.buffered = some (s.part.mem.byte (0x25000 + x.text.toNat * 64)) ∧
            p.nsq.get x.nest = { s.part.nsq.get x.nest with state := .running, hold := .none } ∧
            p.word (nestAt x.nest 7) = p.nestStateWord x.nest ∧ s.part.StoresOnly [nestAt x.nest 7] p) ∧
      (¬ pass → ¬ fail → again → e.repeats < e.repeatLimit → e.replayMask ≠ 0 → s.part.powered e.nest = true →
        (s.part.stu.get e.nest).replay = .none →
        Answers (.byteEnd r) s fun p =>
          let u := s.part.stu.get e.nest
          let code : W16 := if e.code = 0 then 0 else BitVec.ofNat 16 (max 200 (min e.code.toNat 60000))
          p.opc.prompts = { e with state := .replaying, repeats := e.repeats + 1, answerTimer := none } :: q ∧
            (∀ c : Fin 4, (p.stu.get e.nest).channels.get c =
              if e.replayMask.getLsbD c.val = true ∧ (u.channels.get c).setting.mode ≠ .off then
                { u.channels.get c with wire := none, pending := none, e := 0 }
              else u.channels.get c) ∧
            (∀ x : Fin 2, (p.stu.get e.nest).senders.get x =
              if e.replayMask.getLsbD (4 + x.val) = true then { u.senders.get x with e := code }
              else u.senders.get x) ∧
            (p.stu.get e.nest).lines = u.lines ∧
            (p.stu.get e.nest).replay = .gap e.replayMask (s.part.now + 1000 * e.gapMs) ∧ p.opc.link = .idle ∧
            s.part.NestOnly e.nest p ∧ p = { s.part with opc := p.opc, stu := p.stu }) ∧
      (¬ pass → ¬ fail → again → e.repeatLimit ≤ e.repeats ∨ e.replayMask = 0 ∨ s.part.powered e.nest = false ∨
          (s.part.stu.get e.nest).replay ≠ .none →
        Answers (.byteEnd r) s fun p =>
          p.opc.prompts = e :: q ∧ p.opc.link = .idle ∧ p = { s.part with opc := p.opc })

/-- The SHOWN head's answer timer expires: its step completes TIMEOUT NO_ANSWER and its entry is removed; an idle link
starts the next prompt's text, whose hold ends, or a clear, and a busy one goes on with its transfer; without such an entry
nothing happens. A replay that ended shows the entry again, whatever is queued behind it, with a fresh timer and the
first-SHOWN timestamp kept; a cut one leaves it REPLAYING with the timer stopped. A report that arrives late, on a replay
whose entry has been withdrawn, is discarded (R175, R181, R183, R185, R187). Model's choice: log entries 10, 12. -/
def Obligations.ShownPromptTimesOutOrShowsAgain : Prop :=
  ∀ s : State,
    let o := s.part.opc
    (∀ e q, o.prompts = e :: q → e.state = .shown → s.part.Due e.answerTimer → (∀ y ∈ q, y.nest ≠ e.nest) →
      Answers .answerTimerExpiry s fun p =>
        let waited : Nat := match e.firstShown with
          | some t => (s.part.timebase - t).toNat / 1000
          | none => 0
        s.part.Completes e.nest .prompt .timeout .noAnswer
            ⟨wordOf e.repeats <<< 8, wordOf waited, e.marks, 0, 0⟩ [] [] p ∧
          s.part.SequencerKept e.nest p ∧
          { s.part with
            opc := { o with prompts := q, clearPending := o.clearPending || q.isEmpty }
            nsq := s.part.nsq.put e.nest (p.nsq.get e.nest), sent := p.sent }.ServesLink p) ∧
      ((∀ e, o.prompts.head? = some e → e.state ≠ .shown ∨ ¬ s.part.Due e.answerTimer) →
        exec .answerTimerExpiry s = .next s) ∧
      (∀ n,
        (s.part.Late (.replayEnded n) → Answers (.replayEndedReport n) s fun p =>
            p = { s.part with sent := s.part.sent.erase (.late (.replayEnded n)) }) ∧
          (s.part.Late (.replayCut n) → Answers (.replayCutReport n) s fun p =>
            p = { s.part with sent := s.part.sent.erase (.late (.replayCut n)) })) ∧
      (∀ e q, o.prompts = e :: q → e.state = .replaying →
        (¬ s.part.Late (.replayEnded e.nest) → Answers (.replayEndedReport e.nest) s fun p =>
          p = { s.part with
                opc := { o with
                  prompts := { e with state := .shown, firstShown := some (e.firstShown.getD s.part.timebase)
                                      answerTimer := some (s.part.now + 1000000 * e.timeoutS) } :: q }
                sent := s.part.sent.erase (.replayEnded e.nest) }) ∧
          (¬ s.part.Late (.replayCut e.nest) → Answers (.replayCutReport e.nest) s fun p =>
            p = { s.part with opc := { o with prompts := { e with answerTimer := none } :: q }
                              sent := s.part.sent.erase (.replayCut e.nest) })) ∧
      ∀ n, (∀ e, o.prompts.head? = some e → e.nest ≠ n ∨ e.state ≠ .replaying) →
        (¬ s.part.Late (.replayEnded n) → Answers (.replayEndedReport n) s fun p =>
          p = { s.part with sent := s.part.sent.erase (.replayEnded n) }) ∧
          (¬ s.part.Late (.replayCut n) → Answers (.replayCutReport n) s fun p => p = { s.part with sent := s.part.sent.erase (.replayCut n) })

/-- A prompt withdrawn for the NSQ keeps its results and leaves the queue: from behind the head nothing changes on the
link; a SENDING head's transfer is cut after the byte in shift; any other head gives way, at once on an idle link, to the
next prompt, whose hold ends, or to a clear; a REPLAYING head's replay ends besides, and what it drove is restored where
the nest is POWERED; a report on it still on its way is late (R187). The station STOP removes every entry so, and the
clear follows, at once on an idle link with no poll pending (R91, R174, R175, R181, R183, R188, R189). Model's choice: log
entries 10, 12; 11 for a STOP that finds a CLEAR pending; 19 for one that finds a PROMPT handed over after a RESUME. -/
def Obligations.PromptsAreWithdrawn : Prop :=
  ∀ s : State,
    let o := s.part.opc
    let results (e : PromptEntry) : Results :=
      ⟨wordOf e.repeats <<< 8, wordOf (match e.firstShown with
        | some t => (s.part.timebase - t).toNat / 1000
        | none => 0), e.marks, 0, 0⟩
    let kept (e : PromptEntry) := s.part.nsq.put e.nest { s.part.nsq.get e.nest with report := some (results e) }
    let restored (mask : BitVec 6) (u v : Stimulus) : Prop :=
      (∀ c : Fin 4, v.channels.get c =
        if mask.getLsbD c.val = true ∧ (u.channels.get c).setting.mode ≠ .off then
          let f := (u.channels.get c).setting
          { u.channels.get c with
            wire := some ⟨f.mode, f.activeLow, f.period, f.active, s.part.ticks, false⟩, e := (u.channels.get c).settingE }
        else u.channels.get c) ∧
        (∀ x : Fin 2, v.senders.get x =
          if mask.getLsbD (4 + x.val) = true then { u.senders.get x with e := (u.senders.get x).code }
          else u.senders.get x) ∧
        v = { u with channels := v.channels, senders := v.senders, replay := .none }
    let replayEnds (n : NestId) (v : Stimulus) : Prop :=
      let u := s.part.stu.get n
      (u.replay = .none ∨ s.part.powered n = false → v = u) ∧
        (∀ mask due, u.replay = .gap mask due → s.part.powered n = true → restored mask u v) ∧
        ∀ mask due, u.replay = .restore mask due → s.part.powered n = true → v = { u with replay := .none }
    (∀ n, (∀ e ∈ o.prompts, e.nest ≠ n) → exec (.promptWithdrawal n) s = .next s) ∧
      (∀ h q e, o.prompts = h :: q → h.nest ≠ e.nest → s.part.promptEntry e.nest = some e →
        Answers (.promptWithdrawal e.nest) s fun p =>
          p = { s.part with opc := { o with prompts := o.prompts.filter fun x => x.nest ≠ e.nest }, nsq := kept e }) ∧
      (∀ e q, o.prompts = e :: q → e.state = .sending → o.link = .text → (∀ x ∈ q, x.nest ≠ e.nest) →
        Answers (.promptWithdrawal e.nest) s fun p =>
          p = { s.part with
                opc := { o with prompts := q, buffered := none, cut := true
                                clearPending := o.clearPending || q.isEmpty }
                nsq := kept e }) ∧
      (∀ e q, o.prompts = e :: q → e.state ≠ .sending → (∀ y ∈ q, y.nest ≠ e.nest) →
        Answers (.promptWithdrawal e.nest) s fun p =>
          (e.state = .replaying → replayEnds e.nest (p.stu.get e.nest)) ∧
            (e.state ≠ .replaying → p.stu = s.part.stu) ∧ Bank.AgreeBut e.nest s.part.stu p.stu ∧
            { s.part with
              opc := { o with prompts := q, clearPending := o.clearPending || q.isEmpty }
              nsq := kept e, stu := p.stu
              sent := if e.state = PromptState.replaying then replaysLate [e.nest] s.part.sent else s.part.sent }.ServesLink p) ∧
      (o.prompts.Pairwise (fun a b => a.nest ≠ b.nest) →
        let replays := (o.prompts.filter fun e => decide (e.state = .replaying)).map PromptEntry.nest
        let cuts := decide (o.link = .text) && o.prompts.any fun e => decide (e.state = .sending)
        Answers .panelStationStop s fun p =>
          (∀ e ∈ o.prompts, p.nsq.get e.nest = { s.part.nsq.get e.nest with report := some (results e) }) ∧
            (∀ n, (∀ e ∈ o.prompts, e.nest ≠ n) → p.nsq.get n = s.part.nsq.get n) ∧
            (∀ e ∈ o.prompts, e.state = .replaying → replayEnds e.nest (p.stu.get e.nest)) ∧
            (∀ n, (∀ e ∈ o.prompts, e.nest = n → e.state ≠ .replaying) → p.stu.get n = s.part.stu.get n) ∧
            { s.part with
              opc := { o with prompts := [], clearPending := true, cut := o.cut || cuts
                              buffered := if cuts then none else o.buffered }
              nsq := p.nsq, stu := p.stu
              sent := replaysLate replays (s.part.sent.erase .panelStop) }.ServesLink p)

/-! ### The whole machine -/

/-- A refused hand-off leaves every output, queue, timer and setting as it found them, and its results are 0. The stimulus,
bus, gauge, lamp, pulse and converter kinds are all refused on a nest that is not POWERED (R30, R87). -/
def Obligations.RefusedHandOffChangesNothing : Prop :=
  (∀ (n : NestId) (k : Kind) (st : Step) (s t : Part) (d : Detail) (r : Results),
      s.handOff n k st = (t, .done .refused d r) → t = s ∧ r = .zero) ∧
    ∀ (n : NestId) (k : Kind) (st : Step) (s : Part), s.powered n = false →
      k ∈ [.setPulse, .setSender, .setLines, .frameRun, .frameLoad, .captureArm, .checkFrame, .gaugeZero, .checkGauge,
        .checkLamps, .checkFreq, .measure] →
      ∃ d, d ∈ [.badState, .badOperand, .badTable] ∧ s.handOff n k st = (s, .done .refused d .zero)

/-- The state after reset is safe. -/
def Obligations.ResetIsSafe : Prop := State.reset.part.Safe ∧ State.reset.pending = []

/-- Every step keeps the canonical form of exchange memory and the slots of the steps in execution within the pool (section
1.1, R11). -/
def Obligations.StepKeepsMemoryFormed : Prop :=
  ∀ s t : State, s.part.MemoryFormed → step s = .next t → t.part.MemoryFormed

/-- Every step keeps the watch queue without repeats, and all entries of the prompt queue behind its head QUEUED (R5,
R180). -/
def Obligations.StepKeepsTheQueues : Prop :=
  ∀ s t : State, s.part.WatchQueueDistinct → s.part.HeadAlone → step s = .next t →
    t.part.WatchQueueDistinct ∧ t.part.HeadAlone

/-- Every step keeps the power budget of two nests POWERING, and every supply switch closed only in POWERING and POWERED
(R59, R62). While station STOP is latched, every step keeps all nests without supply and the power queue empty, so no
switch closes (R71, R72). -/
def Obligations.StepKeepsTheSupplyGuarded : Prop :=
  ∀ s t : State, s.part.BudgetKept → s.part.SwitchesGuarded → step s = .next t →
    t.part.BudgetKept ∧ t.part.SwitchesGuarded ∧ (s.part.StopCutsSupply → t.part.StopCutsSupply)

/-- Every step keeps the route open while the converter is FREE, and exactly one point closed, of the granted nest, while
it is GRANTED (R145). -/
def Obligations.StepKeepsTheRouteGuarded : Prop :=
  ∀ s t : State, s.part.RouteGuarded → step s = .next t → t.part.RouteGuarded

/-- Every step keeps a nest RUNNING or HELD exactly while a step of it is in execution (section 2.1, R10, R46), and every
outcome on its way that is not late, the outcome of the step in execution on its nest (R28): one of a step that has
retired never stands against a later step. Model's choice: log entry 12. -/
def Obligations.StepKeepsStepsMatched : Prop :=
  ∀ s t : State, s.part.StepsMatch → step s = .next t →
    t.part.StepsMatch ∧ (s.part.OutcomesCurrent → t.part.OutcomesCurrent)
end

