-- ==== Sys2Proof/Laws/Bank.lean ====
section
/-! SUPPORT. Reading a bank after a change of it. -/

namespace Sys2Proof.Bank

variable {k : Nat} {α : Type}

@[simp] theorem get_put_same (b : Bank k α) (i : Fin k) (x : α) : (b.put i x).get i = x := by
  simp [get, put]

theorem get_put (b : Bank k α) (i j : Fin k) (x : α) : (b.put i x).get j = if i = j then x else b.get j := by
  simp [get, put, Vector.getElem_set, Fin.ext_iff]

@[simp] theorem get_put_other (b : Bank k α) {i j : Fin k} (x : α) (h : i ≠ j) : (b.put i x).get j = b.get j := by
  simp [get_put, h]

theorem get_modify (b : Bank k α) (i j : Fin k) (f : α → α) :
    (b.modify i f).get j = if i = j then f (b.get j) else b.get j := by
  by_cases h : i = j
  · subst h; simp [modify]
  · simp [modify, h]

@[simp] theorem get_modify_same (b : Bank k α) (i : Fin k) (f : α → α) : (b.modify i f).get i = f (b.get i) := by
  simp [modify]

@[simp] theorem get_modify_other (b : Bank k α) {i j : Fin k} (f : α → α) (h : i ≠ j) :
    (b.modify i f).get j = b.get j := by
  simp [modify, h]

@[simp] theorem get_fill (x : α) (i : Fin k) : (fill x).get i = x := by simp [get, fill]

@[simp] theorem get_build (f : Fin k → α) (i : Fin k) : (build f).get i = f i := by simp [get, build]

/-- Two banks with the same things are the same. -/
theorem ext_get {a b : Bank k α} (h : ∀ i, a.get i = b.get i) : a = b := by
  obtain ⟨a⟩ := a
  obtain ⟨b⟩ := b
  congr 1
  ext i hi
  exact h ⟨i, hi⟩

@[simp] theorem put_get (b : Bank k α) (i : Fin k) : b.put i (b.get i) = b := by
  apply ext_get
  intro j
  rw [get_put]
  split <;> simp_all

@[simp] theorem modify_modify (b : Bank k α) (i : Fin k) (f g : α → α) :
    (b.modify i f).modify i g = b.modify i (fun x => g (f x)) := by
  apply ext_get
  intro j
  simp only [get_modify]
  split <;> simp_all

@[simp] theorem put_put (b : Bank k α) (i : Fin k) (x y : α) : (b.put i x).put i y = b.put i y := by
  apply ext_get
  intro j
  simp only [get_put]
  split <;> rfl

end Sys2Proof.Bank
end

