-- ==== Sys2Proof/Laws/Memory.lean ====
section
/-! SUPPORT. Exchange memory: a byte read after a write, and the canonical form, which every operation keeps. -/

namespace Sys2Proof.Machine.Memory

/-! ### A byte after a write -/

theorem byte_dropCell (m : Memory) (a b : Nat) : (dropCell a m).byte b = if b = a then unlisted else m.byte b := by
  induction m with
  | nil => simp [dropCell, byte]
  | cons c m ih =>
    obtain ⟨d, v⟩ := c
    by_cases hd : d = a
    · subst hd
      simp only [dropCell, if_true, ih, byte]
      by_cases hb : d = b
      · simp [hb]
      · simp [hb]
    · simp only [dropCell, hd, if_false, byte, ih]
      by_cases hb : d = b
      · subst hb; simp [hd]
      · simp [hb]

/-- `m` has no cell at address `a`. -/
def Lacks (a : Nat) (m : Memory) : Prop := ∀ c ∈ m, c.1 ≠ a

theorem dropCell_lacks (a : Nat) (m : Memory) : Lacks a (dropCell a m) := by
  induction m with
  | nil => simp [dropCell, Lacks]
  | cons c m ih =>
    intro d hd
    by_cases hc : c.1 = a
    · simp only [dropCell, hc, if_true] at hd
      exact ih d hd
    · simp only [dropCell, hc, if_false, List.mem_cons] at hd
      rcases hd with rfl | hd
      · exact hc
      · exact ih d hd

theorem byte_insertCell {m : Memory} {a : Nat} (v : Byte) (h : Lacks a m) (b : Nat) :
    (insertCell (a, v) m).byte b = if b = a then v else m.byte b := by
  induction m with
  | nil =>
    by_cases hb : b = a
    · simp [insertCell, byte, hb]
    · simp [insertCell, byte, hb, Ne.symm hb]
  | cons d m ih =>
    have hd : d.1 ≠ a := h d (by simp)
    have hm : Lacks a m := fun c hc => h c (by simp [hc])
    obtain ⟨d, w⟩ := d
    simp only [insertCell]
    split
    · by_cases hb : b = a
      · simp [byte, hb]
      · simp [byte, hb, Ne.symm hb]
    · simp only [byte, ih hm]
      by_cases hb : d = b
      · subst hb; simp [show d ≠ a from hd]
      · simp [hb]

/-- The byte written reads back, and every other byte reads as before. -/
theorem byte_setByte (m : Memory) (a : Nat) (v : Byte) (b : Nat) :
    (m.setByte a v).byte b = if b = a then v else m.byte b := by
  unfold setByte
  split
  · rename_i h; simp [byte_dropCell, h]
  · rw [byte_insertCell v (dropCell_lacks a m)]
    by_cases hb : b = a <;> simp [hb, byte_dropCell]

/-! ### A word after a write -/

theorem byte_setWordByte (m : Memory) (i k : Nat) (v : W32) (b : Nat) :
    (m.setWordByte i k v).byte b = if b = 4 * i + k then v.extractLsb' (8 * k) 8 else m.byte b := byte_setByte ..

/-- A whole-word write changes the word's four bytes alone. -/
theorem byte_setWord_other (m : Memory) {i b : Nat} (v : W32) (h : b / 4 ≠ i) : (m.setWord i v).byte b = m.byte b := by
  have h0 : b ≠ 4 * i := by omega
  have h1 : b ≠ 4 * i + 1 := by omega
  have h2 : b ≠ 4 * i + 2 := by omega
  have h3 : b ≠ 4 * i + 3 := by omega
  simp [setWord, byte_setWordByte, h0, h1, h2, h3]

/-- A word written reads back. -/
@[simp] theorem word_setWord_same (m : Memory) (i : Nat) (v : W32) : (m.setWord i v).word i = v := by
  have h0 (k : Nat) (hk : k ≠ 0) : 4 * i ≠ 4 * i + k := by omega
  simp only [word, setWord, byte_setWordByte, Nat.add_left_cancel_iff, Nat.add_zero, if_true]
  simp only [show (2 : Nat) ≠ 3 by decide, show (1 : Nat) ≠ 3 by decide, show (1 : Nat) ≠ 2 by decide,
    h0 3 (by decide), h0 2 (by decide), h0 1 (by decide), if_false]
  ext j hj
  simp only [BitVec.getElem_append, BitVec.getElem_extractLsb']
  repeat' split
  all_goals (rw [← BitVec.getLsbD_eq_getElem]; congr 1; omega)

/-- Every other word reads as before. -/
theorem word_setWord_other (m : Memory) {i j : Nat} (v : W32) (h : i ≠ j) : (m.setWord i v).word j = m.word j := by
  simp only [word]
  rw [byte_setWord_other, byte_setWord_other, byte_setWord_other, byte_setWord_other] <;> omega

theorem word_setWord (m : Memory) (i j : Nat) (v : W32) :
    (m.setWord i v).word j = if i = j then v else m.word j := by
  split
  · rename_i h; subst h; simp
  · rename_i h; exact word_setWord_other m v h

/-- A host write changes the bytes it names and no other (R1). -/
theorem byte_hostWrite (m : Memory) (i : Nat) (bytes : BitVec 4) (v : W32) (b : Nat) :
    (m.hostWrite i bytes v).byte b =
      if b / 4 = i ∧ bytes.getLsbD (b % 4) then v.extractLsb' (8 * (b % 4)) 8 else m.byte b := by
  have hput (k : Nat) (m : Memory) :
      (if bytes.getLsbD k then m.setWordByte i k v else m).byte b =
        if b = 4 * i + k ∧ bytes.getLsbD k then v.extractLsb' (8 * k) 8 else m.byte b := by
    by_cases hk : bytes.getLsbD k <;> simp [hk, byte_setWordByte]
  simp only [hostWrite, hput]
  by_cases hi : b / 4 = i
  · have hb : b = 4 * i + b % 4 := by omega
    have : b % 4 < 4 := Nat.mod_lt _ (by decide)
    generalize hr : b % 4 = r at *
    rw [hi]
    rcases (by omega : r = 0 ∨ r = 1 ∨ r = 2 ∨ r = 3) with rfl | rfl | rfl | rfl <;>
      simp only [true_and, Nat.add_left_cancel_iff, hb] <;> simp
  · have h (k : Nat) (hk : k < 4) : b ≠ 4 * i + k := by omega
    simp only [hi, h 0 (by decide), h 1 (by decide), h 2 (by decide), h 3 (by decide), false_and, if_false]

/-! ### The canonical form -/

theorem wf_cons {c : Host.Cell} {m : Memory} :
    wf (c :: m) = true ↔ c.1 < size ∧ c.2 ≠ unlisted ∧ (∀ d ∈ m, c.1 < d.1) ∧ wf m = true := by
  simp [wf, and_assoc]

theorem dropCell_subset (a : Nat) (m : Memory) : ∀ c ∈ dropCell a m, c ∈ m := by
  induction m with
  | nil => simp [dropCell]
  | cons d m ih =>
    intro c hc
    by_cases h : d.1 = a
    · simp only [dropCell, h, if_true] at hc
      exact List.mem_cons_of_mem _ (ih c hc)
    · simp only [dropCell, h, if_false, List.mem_cons] at hc
      rcases hc with rfl | hc
      · simp
      · exact List.mem_cons_of_mem _ (ih c hc)

theorem wf_dropCell (a : Nat) {m : Memory} (h : m.wf = true) : (dropCell a m).wf = true := by
  induction m with
  | nil => rfl
  | cons d m ih =>
    obtain ⟨h1, h2, h3, h4⟩ := wf_cons.mp h
    by_cases hd : d.1 = a
    · simp only [dropCell, hd, if_true]; exact ih h4
    · simp only [dropCell, hd, if_false]
      exact wf_cons.mpr ⟨h1, h2, fun c hc => h3 c (dropCell_subset a m c hc), ih h4⟩

theorem mem_insertCell {c d : Host.Cell} {m : Memory} (h : d ∈ insertCell c m) : d = c ∨ d ∈ m := by
  induction m with
  | nil => simpa [insertCell] using h
  | cons e m ih =>
    simp only [insertCell] at h
    split at h
    · simpa using h
    · rcases List.mem_cons.mp h with rfl | h
      · simp
      · rcases ih h with rfl | h <;> simp [*]

theorem wf_insertCell {m : Memory} {c : Host.Cell} (h : m.wf = true) (hs : c.1 < size) (hv : c.2 ≠ unlisted)
    (hl : Lacks c.1 m) : (insertCell c m).wf = true := by
  induction m with
  | nil => exact wf_cons.mpr ⟨hs, hv, by simp, rfl⟩
  | cons d m ih =>
    obtain ⟨h1, h2, h3, h4⟩ := wf_cons.mp h
    simp only [insertCell]
    split
    · rename_i hlt
      refine wf_cons.mpr ⟨hs, hv, fun e he => ?_, h⟩
      rcases List.mem_cons.mp he with rfl | he
      · exact hlt
      · exact Nat.lt_trans hlt (h3 e he)
    · rename_i hlt
      have hne : d.1 ≠ c.1 := hl d (by simp)
      refine wf_cons.mpr ⟨h1, h2, fun e he => ?_, ih h4 fun e he => hl e (by simp [he])⟩
      rcases mem_insertCell he with rfl | he
      · omega
      · exact h3 e he

/-- A byte write inside the window keeps the canonical form. -/
theorem wf_setByte {m : Memory} {a : Nat} (v : Byte) (h : m.wf = true) (ha : a < size) : (m.setByte a v).wf = true := by
  unfold setByte
  split
  · exact wf_dropCell a h
  · exact wf_insertCell (wf_dropCell a h) ha (by assumption) (dropCell_lacks a m)

/-- A whole-word write inside the window keeps the canonical form. -/
theorem wf_setWord {m : Memory} {i : Nat} (v : W32) (h : m.wf = true) (hi : i < 0x10000) :
    (m.setWord i v).wf = true := by
  unfold setWord setWordByte
  refine wf_setByte _ (wf_setByte _ (wf_setByte _ (wf_setByte _ h ?_) ?_) ?_) ?_ <;> unfold size <;> omega

/-- A host write inside the window keeps the canonical form. -/
theorem wf_hostWrite {m : Memory} {i : Nat} (bytes : BitVec 4) (v : W32) (h : m.wf = true) (hi : i < 0x10000) :
    (m.hostWrite i bytes v).wf = true := by
  have hput (k : Nat) (hk : k < 4) {m : Memory} (h : m.wf = true) :
      (if bytes.getLsbD k then m.setWordByte i k v else m).wf = true := by
    split
    · exact wf_setByte _ h (by unfold size; omega)
    · exact h
  exact hput 3 (by decide) (hput 2 (by decide) (hput 1 (by decide) (hput 0 (by decide) h)))

/-- Clearing words keeps the canonical form. -/
theorem wf_clearWords {m : Memory} (p : Nat → Bool) (h : m.wf = true) : (m.clearWords p).wf = true := by
  induction m with
  | nil => rfl
  | cons d m ih =>
    obtain ⟨h1, h2, h3, h4⟩ := wf_cons.mp h
    simp only [clearWords, List.filter_cons]
    split
    · exact wf_cons.mpr ⟨h1, h2, fun e he => h3 e (List.mem_of_mem_filter he), ih h4⟩
    · exact ih h4

/-- A byte of a cleared word reads as unlisted, and every other byte as before. -/
theorem byte_clearWords (m : Memory) (p : Nat → Bool) (b : Nat) :
    (m.clearWords p).byte b = if p (b / 4) then unlisted else m.byte b := by
  induction m with
  | nil => simp [clearWords, byte]
  | cons d m ih =>
    obtain ⟨a, v⟩ := d
    simp only [clearWords, List.filter_cons] at ih ⊢
    by_cases ha : a = b
    · subst ha
      by_cases hp : p (a / 4)
      · simpa [hp] using ih
      · simp [hp, byte]
    · by_cases hp : p (a / 4)
      · simp only [hp, byte, ha]; simpa using ih
      · simp only [hp, byte, ha]; simpa [byte, ha] using ih

/-- Equal bytes make equal words. -/
theorem word_congr {m m' : Memory} {i : Nat} (h : ∀ b, b / 4 = i → m.byte b = m'.byte b) : m.word i = m'.word i := by
  simp only [word]
  rw [h (4 * i), h (4 * i + 1), h (4 * i + 2), h (4 * i + 3)] <;> omega

end Sys2Proof.Machine.Memory
end

