-- ==== Sys2Proof/Laws/State.lean ====
section
/-! SUPPORT. Each field of the part after each of the plain updates, and what is computed from fields. -/

namespace Sys2Proof.Machine.Part

variable (s : Part)

/-! ### `modNsq` -/

@[simp] theorem modNsq_ticks (n : NestId) (f : Nsq → Nsq) : (s.modNsq n f).ticks = s.ticks := rfl
@[simp] theorem modNsq_mem (n : NestId) (f : Nsq → Nsq) : (s.modNsq n f).mem = s.mem := rfl
@[simp] theorem modNsq_watchQueue (n : NestId) (f : Nsq → Nsq) : (s.modNsq n f).watchQueue = s.watchQueue := rfl
@[simp] theorem modNsq_factor (n : NestId) (f : Nsq → Nsq) : (s.modNsq n f).factor = s.factor := rfl
@[simp] theorem modNsq_mask (n : NestId) (f : Nsq → Nsq) : (s.modNsq n f).mask = s.mask := rfl
@[simp] theorem modNsq_firstFault (n : NestId) (f : Nsq → Nsq) : (s.modNsq n f).firstFault = s.firstFault := rfl
@[simp] theorem modNsq_station (n : NestId) (f : Nsq → Nsq) : (s.modNsq n f).station = s.station := rfl
@[simp] theorem modNsq_stopPressed (n : NestId) (f : Nsq → Nsq) : (s.modNsq n f).stopPressed = s.stopPressed := rfl
@[simp] theorem modNsq_nsq (n : NestId) (f : Nsq → Nsq) : (s.modNsq n f).nsq = s.nsq.modify n f := rfl
@[simp] theorem modNsq_fxc (n : NestId) (f : Nsq → Nsq) : (s.modNsq n f).fxc = s.fxc := rfl
@[simp] theorem modNsq_powerQueue (n : NestId) (f : Nsq → Nsq) : (s.modNsq n f).powerQueue = s.powerQueue := rfl
@[simp] theorem modNsq_stu (n : NestId) (f : Nsq → Nsq) : (s.modNsq n f).stu = s.stu := rfl
@[simp] theorem modNsq_buc (n : NestId) (f : Nsq → Nsq) : (s.modNsq n f).buc = s.buc := rfl
@[simp] theorem modNsq_gmn (n : NestId) (f : Nsq → Nsq) : (s.modNsq n f).gmn = s.gmn := rfl
@[simp] theorem modNsq_lpc (n : NestId) (f : Nsq → Nsq) : (s.modNsq n f).lpc = s.lpc := rfl
@[simp] theorem modNsq_pcv (n : NestId) (f : Nsq → Nsq) : (s.modNsq n f).pcv = s.pcv := rfl
@[simp] theorem modNsq_opc (n : NestId) (f : Nsq → Nsq) : (s.modNsq n f).opc = s.opc := rfl
@[simp] theorem modNsq_sent (n : NestId) (f : Nsq → Nsq) : (s.modNsq n f).sent = s.sent := rfl
@[simp] theorem modNsq_choices (n : NestId) (f : Nsq → Nsq) : (s.modNsq n f).choices = s.choices := rfl
@[simp] theorem modNsq_now (n : NestId) (f : Nsq → Nsq) : (s.modNsq n f).now = s.now := rfl
@[simp] theorem modNsq_timebase (n : NestId) (f : Nsq → Nsq) : (s.modNsq n f).timebase = s.timebase := rfl
@[simp] theorem modNsq_dueIn (n : NestId) (f : Nsq → Nsq) (us : Nat) : (s.modNsq n f).dueIn us = s.dueIn us := rfl
@[simp] theorem modNsq_dueInMs (n : NestId) (f : Nsq → Nsq) (ms : Nat) : (s.modNsq n f).dueInMs ms = s.dueInMs ms := rfl
@[simp] theorem modNsq_word (n : NestId) (f : Nsq → Nsq) (w : Nat) : (s.modNsq n f).word w = s.word w := rfl
@[simp] theorem modNsq_powered (n : NestId) (f : Nsq → Nsq) (j : NestId) : (s.modNsq n f).powered j = s.powered j := rfl

@[simp] theorem modNsq_underStop (n : NestId) (f : Nsq → Nsq) (j : NestId) :
    (s.modNsq n f).underStop j = s.underStop j := rfl

/-! ### `modFxc` -/

@[simp] theorem modFxc_ticks (n : NestId) (f : Fixture → Fixture) : (s.modFxc n f).ticks = s.ticks := rfl
@[simp] theorem modFxc_mem (n : NestId) (f : Fixture → Fixture) : (s.modFxc n f).mem = s.mem := rfl
@[simp] theorem modFxc_watchQueue (n : NestId) (f : Fixture → Fixture) : (s.modFxc n f).watchQueue = s.watchQueue := rfl
@[simp] theorem modFxc_factor (n : NestId) (f : Fixture → Fixture) : (s.modFxc n f).factor = s.factor := rfl
@[simp] theorem modFxc_mask (n : NestId) (f : Fixture → Fixture) : (s.modFxc n f).mask = s.mask := rfl
@[simp] theorem modFxc_firstFault (n : NestId) (f : Fixture → Fixture) : (s.modFxc n f).firstFault = s.firstFault := rfl
@[simp] theorem modFxc_station (n : NestId) (f : Fixture → Fixture) : (s.modFxc n f).station = s.station := rfl
@[simp] theorem modFxc_stopPressed (n : NestId) (f : Fixture → Fixture) :
    (s.modFxc n f).stopPressed = s.stopPressed := rfl
@[simp] theorem modFxc_nsq (n : NestId) (f : Fixture → Fixture) : (s.modFxc n f).nsq = s.nsq := rfl
@[simp] theorem modFxc_fxc (n : NestId) (f : Fixture → Fixture) : (s.modFxc n f).fxc = s.fxc.modify n f := rfl
@[simp] theorem modFxc_powerQueue (n : NestId) (f : Fixture → Fixture) : (s.modFxc n f).powerQueue = s.powerQueue := rfl
@[simp] theorem modFxc_stu (n : NestId) (f : Fixture → Fixture) : (s.modFxc n f).stu = s.stu := rfl
@[simp] theorem modFxc_buc (n : NestId) (f : Fixture → Fixture) : (s.modFxc n f).buc = s.buc := rfl
@[simp] theorem modFxc_gmn (n : NestId) (f : Fixture → Fixture) : (s.modFxc n f).gmn = s.gmn := rfl
@[simp] theorem modFxc_lpc (n : NestId) (f : Fixture → Fixture) : (s.modFxc n f).lpc = s.lpc := rfl
@[simp] theorem modFxc_pcv (n : NestId) (f : Fixture → Fixture) : (s.modFxc n f).pcv = s.pcv := rfl
@[simp] theorem modFxc_opc (n : NestId) (f : Fixture → Fixture) : (s.modFxc n f).opc = s.opc := rfl
@[simp] theorem modFxc_sent (n : NestId) (f : Fixture → Fixture) : (s.modFxc n f).sent = s.sent := rfl
@[simp] theorem modFxc_choices (n : NestId) (f : Fixture → Fixture) : (s.modFxc n f).choices = s.choices := rfl
@[simp] theorem modFxc_now (n : NestId) (f : Fixture → Fixture) : (s.modFxc n f).now = s.now := rfl
@[simp] theorem modFxc_timebase (n : NestId) (f : Fixture → Fixture) : (s.modFxc n f).timebase = s.timebase := rfl
@[simp] theorem modFxc_dueIn (n : NestId) (f : Fixture → Fixture) (us : Nat) :
    (s.modFxc n f).dueIn us = s.dueIn us := rfl
@[simp] theorem modFxc_dueInMs (n : NestId) (f : Fixture → Fixture) (ms : Nat) :
    (s.modFxc n f).dueInMs ms = s.dueInMs ms := rfl
@[simp] theorem modFxc_word (n : NestId) (f : Fixture → Fixture) (w : Nat) : (s.modFxc n f).word w = s.word w := rfl
@[simp] theorem modFxc_executing (n : NestId) (f : Fixture → Fixture) (j : NestId) (kind : Kind) :
    (s.modFxc n f).executing j kind = s.executing j kind := rfl
@[simp] theorem modFxc_keptBack (n : NestId) (f : Fixture → Fixture) (j : NestId) (kind : Kind) :
    (s.modFxc n f).keptBack j kind = s.keptBack j kind := rfl
@[simp] theorem modFxc_underStop (n : NestId) (f : Fixture → Fixture) (j : NestId) :
    (s.modFxc n f).underStop j = s.underStop j := rfl

/-! ### `modStu` -/

@[simp] theorem modStu_ticks (n : NestId) (f : Stimulus → Stimulus) : (s.modStu n f).ticks = s.ticks := rfl
@[simp] theorem modStu_mem (n : NestId) (f : Stimulus → Stimulus) : (s.modStu n f).mem = s.mem := rfl
@[simp] theorem modStu_watchQueue (n : NestId) (f : Stimulus → Stimulus) :
    (s.modStu n f).watchQueue = s.watchQueue := rfl
@[simp] theorem modStu_factor (n : NestId) (f : Stimulus → Stimulus) : (s.modStu n f).factor = s.factor := rfl
@[simp] theorem modStu_mask (n : NestId) (f : Stimulus → Stimulus) : (s.modStu n f).mask = s.mask := rfl
@[simp] theorem modStu_firstFault (n : NestId) (f : Stimulus → Stimulus) :
    (s.modStu n f).firstFault = s.firstFault := rfl
@[simp] theorem modStu_station (n : NestId) (f : Stimulus → Stimulus) : (s.modStu n f).station = s.station := rfl
@[simp] theorem modStu_stopPressed (n : NestId) (f : Stimulus → Stimulus) :
    (s.modStu n f).stopPressed = s.stopPressed := rfl
@[simp] theorem modStu_nsq (n : NestId) (f : Stimulus → Stimulus) : (s.modStu n f).nsq = s.nsq := rfl
@[simp] theorem modStu_fxc (n : NestId) (f : Stimulus → Stimulus) : (s.modStu n f).fxc = s.fxc := rfl
@[simp] theorem modStu_powerQueue (n : NestId) (f : Stimulus → Stimulus) :
    (s.modStu n f).powerQueue = s.powerQueue := rfl
@[simp] theorem modStu_stu (n : NestId) (f : Stimulus → Stimulus) : (s.modStu n f).stu = s.stu.modify n f := rfl
@[simp] theorem modStu_buc (n : NestId) (f : Stimulus → Stimulus) : (s.modStu n f).buc = s.buc := rfl
@[simp] theorem modStu_gmn (n : NestId) (f : Stimulus → Stimulus) : (s.modStu n f).gmn = s.gmn := rfl
@[simp] theorem modStu_lpc (n : NestId) (f : Stimulus → Stimulus) : (s.modStu n f).lpc = s.lpc := rfl
@[simp] theorem modStu_pcv (n : NestId) (f : Stimulus → Stimulus) : (s.modStu n f).pcv = s.pcv := rfl
@[simp] theorem modStu_opc (n : NestId) (f : Stimulus → Stimulus) : (s.modStu n f).opc = s.opc := rfl
@[simp] theorem modStu_sent (n : NestId) (f : Stimulus → Stimulus) : (s.modStu n f).sent = s.sent := rfl
@[simp] theorem modStu_choices (n : NestId) (f : Stimulus → Stimulus) : (s.modStu n f).choices = s.choices := rfl
@[simp] theorem modStu_now (n : NestId) (f : Stimulus → Stimulus) : (s.modStu n f).now = s.now := rfl
@[simp] theorem modStu_timebase (n : NestId) (f : Stimulus → Stimulus) : (s.modStu n f).timebase = s.timebase := rfl
@[simp] theorem modStu_dueIn (n : NestId) (f : Stimulus → Stimulus) (us : Nat) :
    (s.modStu n f).dueIn us = s.dueIn us := rfl
@[simp] theorem modStu_dueInMs (n : NestId) (f : Stimulus → Stimulus) (ms : Nat) :
    (s.modStu n f).dueInMs ms = s.dueInMs ms := rfl
@[simp] theorem modStu_word (n : NestId) (f : Stimulus → Stimulus) (w : Nat) : (s.modStu n f).word w = s.word w := rfl
@[simp] theorem modStu_powered (n : NestId) (f : Stimulus → Stimulus) (j : NestId) :
    (s.modStu n f).powered j = s.powered j := rfl
@[simp] theorem modStu_executing (n : NestId) (f : Stimulus → Stimulus) (j : NestId) (kind : Kind) :
    (s.modStu n f).executing j kind = s.executing j kind := rfl
@[simp] theorem modStu_keptBack (n : NestId) (f : Stimulus → Stimulus) (j : NestId) (kind : Kind) :
    (s.modStu n f).keptBack j kind = s.keptBack j kind := rfl
@[simp] theorem modStu_underStop (n : NestId) (f : Stimulus → Stimulus) (j : NestId) :
    (s.modStu n f).underStop j = s.underStop j := rfl
@[simp] theorem modStu_nestStateWord (n : NestId) (f : Stimulus → Stimulus) (j : NestId) :
    (s.modStu n f).nestStateWord j = s.nestStateWord j := rfl

/-! ### `modBuc` -/

@[simp] theorem modBuc_ticks (n : NestId) (f : Bus → Bus) : (s.modBuc n f).ticks = s.ticks := rfl
@[simp] theorem modBuc_mem (n : NestId) (f : Bus → Bus) : (s.modBuc n f).mem = s.mem := rfl
@[simp] theorem modBuc_watchQueue (n : NestId) (f : Bus → Bus) : (s.modBuc n f).watchQueue = s.watchQueue := rfl
@[simp] theorem modBuc_factor (n : NestId) (f : Bus → Bus) : (s.modBuc n f).factor = s.factor := rfl
@[simp] theorem modBuc_mask (n : NestId) (f : Bus → Bus) : (s.modBuc n f).mask = s.mask := rfl
@[simp] theorem modBuc_firstFault (n : NestId) (f : Bus → Bus) : (s.modBuc n f).firstFault = s.firstFault := rfl
@[simp] theorem modBuc_station (n : NestId) (f : Bus → Bus) : (s.modBuc n f).station = s.station := rfl
@[simp] theorem modBuc_stopPressed (n : NestId) (f : Bus → Bus) : (s.modBuc n f).stopPressed = s.stopPressed := rfl
@[simp] theorem modBuc_nsq (n : NestId) (f : Bus → Bus) : (s.modBuc n f).nsq = s.nsq := rfl
@[simp] theorem modBuc_fxc (n : NestId) (f : Bus → Bus) : (s.modBuc n f).fxc = s.fxc := rfl
@[simp] theorem modBuc_powerQueue (n : NestId) (f : Bus → Bus) : (s.modBuc n f).powerQueue = s.powerQueue := rfl
@[simp] theorem modBuc_stu (n : NestId) (f : Bus → Bus) : (s.modBuc n f).stu = s.stu := rfl
@[simp] theorem modBuc_buc (n : NestId) (f : Bus → Bus) : (s.modBuc n f).buc = s.buc.modify n f := rfl
@[simp] theorem modBuc_gmn (n : NestId) (f : Bus → Bus) : (s.modBuc n f).gmn = s.gmn := rfl
@[simp] theorem modBuc_lpc (n : NestId) (f : Bus → Bus) : (s.modBuc n f).lpc = s.lpc := rfl
@[simp] theorem modBuc_pcv (n : NestId) (f : Bus → Bus) : (s.modBuc n f).pcv = s.pcv := rfl
@[simp] theorem modBuc_opc (n : NestId) (f : Bus → Bus) : (s.modBuc n f).opc = s.opc := rfl
@[simp] theorem modBuc_sent (n : NestId) (f : Bus → Bus) : (s.modBuc n f).sent = s.sent := rfl
@[simp] theorem modBuc_choices (n : NestId) (f : Bus → Bus) : (s.modBuc n f).choices = s.choices := rfl
@[simp] theorem modBuc_now (n : NestId) (f : Bus → Bus) : (s.modBuc n f).now = s.now := rfl
@[simp] theorem modBuc_timebase (n : NestId) (f : Bus → Bus) : (s.modBuc n f).timebase = s.timebase := rfl
@[simp] theorem modBuc_dueIn (n : NestId) (f : Bus → Bus) (us : Nat) : (s.modBuc n f).dueIn us = s.dueIn us := rfl
@[simp] theorem modBuc_dueInMs (n : NestId) (f : Bus → Bus) (ms : Nat) : (s.modBuc n f).dueInMs ms = s.dueInMs ms := rfl
@[simp] theorem modBuc_word (n : NestId) (f : Bus → Bus) (w : Nat) : (s.modBuc n f).word w = s.word w := rfl
@[simp] theorem modBuc_powered (n : NestId) (f : Bus → Bus) (j : NestId) : (s.modBuc n f).powered j = s.powered j := rfl
@[simp] theorem modBuc_executing (n : NestId) (f : Bus → Bus) (j : NestId) (kind : Kind) :
    (s.modBuc n f).executing j kind = s.executing j kind := rfl
@[simp] theorem modBuc_keptBack (n : NestId) (f : Bus → Bus) (j : NestId) (kind : Kind) :
    (s.modBuc n f).keptBack j kind = s.keptBack j kind := rfl
@[simp] theorem modBuc_underStop (n : NestId) (f : Bus → Bus) (j : NestId) :
    (s.modBuc n f).underStop j = s.underStop j := rfl

/-! ### `modGmn` -/

@[simp] theorem modGmn_ticks (n : NestId) (f : Gauges → Gauges) : (s.modGmn n f).ticks = s.ticks := rfl
@[simp] theorem modGmn_mem (n : NestId) (f : Gauges → Gauges) : (s.modGmn n f).mem = s.mem := rfl
@[simp] theorem modGmn_watchQueue (n : NestId) (f : Gauges → Gauges) : (s.modGmn n f).watchQueue = s.watchQueue := rfl
@[simp] theorem modGmn_factor (n : NestId) (f : Gauges → Gauges) : (s.modGmn n f).factor = s.factor := rfl
@[simp] theorem modGmn_mask (n : NestId) (f : Gauges → Gauges) : (s.modGmn n f).mask = s.mask := rfl
@[simp] theorem modGmn_firstFault (n : NestId) (f : Gauges → Gauges) : (s.modGmn n f).firstFault = s.firstFault := rfl
@[simp] theorem modGmn_station (n : NestId) (f : Gauges → Gauges) : (s.modGmn n f).station = s.station := rfl
@[simp] theorem modGmn_stopPressed (n : NestId) (f : Gauges → Gauges) :
    (s.modGmn n f).stopPressed = s.stopPressed := rfl
@[simp] theorem modGmn_nsq (n : NestId) (f : Gauges → Gauges) : (s.modGmn n f).nsq = s.nsq := rfl
@[simp] theorem modGmn_fxc (n : NestId) (f : Gauges → Gauges) : (s.modGmn n f).fxc = s.fxc := rfl
@[simp] theorem modGmn_powerQueue (n : NestId) (f : Gauges → Gauges) : (s.modGmn n f).powerQueue = s.powerQueue := rfl
@[simp] theorem modGmn_stu (n : NestId) (f : Gauges → Gauges) : (s.modGmn n f).stu = s.stu := rfl
@[simp] theorem modGmn_buc (n : NestId) (f : Gauges → Gauges) : (s.modGmn n f).buc = s.buc := rfl
@[simp] theorem modGmn_gmn (n : NestId) (f : Gauges → Gauges) : (s.modGmn n f).gmn = s.gmn.modify n f := rfl
@[simp] theorem modGmn_lpc (n : NestId) (f : Gauges → Gauges) : (s.modGmn n f).lpc = s.lpc := rfl
@[simp] theorem modGmn_pcv (n : NestId) (f : Gauges → Gauges) : (s.modGmn n f).pcv = s.pcv := rfl
@[simp] theorem modGmn_opc (n : NestId) (f : Gauges → Gauges) : (s.modGmn n f).opc = s.opc := rfl
@[simp] theorem modGmn_sent (n : NestId) (f : Gauges → Gauges) : (s.modGmn n f).sent = s.sent := rfl
@[simp] theorem modGmn_choices (n : NestId) (f : Gauges → Gauges) : (s.modGmn n f).choices = s.choices := rfl
@[simp] theorem modGmn_now (n : NestId) (f : Gauges → Gauges) : (s.modGmn n f).now = s.now := rfl
@[simp] theorem modGmn_timebase (n : NestId) (f : Gauges → Gauges) : (s.modGmn n f).timebase = s.timebase := rfl
@[simp] theorem modGmn_dueIn (n : NestId) (f : Gauges → Gauges) (us : Nat) : (s.modGmn n f).dueIn us = s.dueIn us := rfl
@[simp] theorem modGmn_dueInMs (n : NestId) (f : Gauges → Gauges) (ms : Nat) :
    (s.modGmn n f).dueInMs ms = s.dueInMs ms := rfl
@[simp] theorem modGmn_word (n : NestId) (f : Gauges → Gauges) (w : Nat) : (s.modGmn n f).word w = s.word w := rfl
@[simp] theorem modGmn_powered (n : NestId) (f : Gauges → Gauges) (j : NestId) :
    (s.modGmn n f).powered j = s.powered j := rfl
@[simp] theorem modGmn_executing (n : NestId) (f : Gauges → Gauges) (j : NestId) (kind : Kind) :
    (s.modGmn n f).executing j kind = s.executing j kind := rfl
@[simp] theorem modGmn_keptBack (n : NestId) (f : Gauges → Gauges) (j : NestId) (kind : Kind) :
    (s.modGmn n f).keptBack j kind = s.keptBack j kind := rfl
@[simp] theorem modGmn_underStop (n : NestId) (f : Gauges → Gauges) (j : NestId) :
    (s.modGmn n f).underStop j = s.underStop j := rfl
@[simp] theorem modGmn_nestStateWord (n : NestId) (f : Gauges → Gauges) (j : NestId) :
    (s.modGmn n f).nestStateWord j = s.nestStateWord j := rfl

/-! ### `modLpc` -/

@[simp] theorem modLpc_ticks (n : NestId) (f : Watcher → Watcher) : (s.modLpc n f).ticks = s.ticks := rfl
@[simp] theorem modLpc_mem (n : NestId) (f : Watcher → Watcher) : (s.modLpc n f).mem = s.mem := rfl
@[simp] theorem modLpc_watchQueue (n : NestId) (f : Watcher → Watcher) : (s.modLpc n f).watchQueue = s.watchQueue := rfl
@[simp] theorem modLpc_factor (n : NestId) (f : Watcher → Watcher) : (s.modLpc n f).factor = s.factor := rfl
@[simp] theorem modLpc_mask (n : NestId) (f : Watcher → Watcher) : (s.modLpc n f).mask = s.mask := rfl
@[simp] theorem modLpc_firstFault (n : NestId) (f : Watcher → Watcher) : (s.modLpc n f).firstFault = s.firstFault := rfl
@[simp] theorem modLpc_station (n : NestId) (f : Watcher → Watcher) : (s.modLpc n f).station = s.station := rfl
@[simp] theorem modLpc_stopPressed (n : NestId) (f : Watcher → Watcher) :
    (s.modLpc n f).stopPressed = s.stopPressed := rfl
@[simp] theorem modLpc_nsq (n : NestId) (f : Watcher → Watcher) : (s.modLpc n f).nsq = s.nsq := rfl
@[simp] theorem modLpc_fxc (n : NestId) (f : Watcher → Watcher) : (s.modLpc n f).fxc = s.fxc := rfl
@[simp] theorem modLpc_powerQueue (n : NestId) (f : Watcher → Watcher) : (s.modLpc n f).powerQueue = s.powerQueue := rfl
@[simp] theorem modLpc_stu (n : NestId) (f : Watcher → Watcher) : (s.modLpc n f).stu = s.stu := rfl
@[simp] theorem modLpc_buc (n : NestId) (f : Watcher → Watcher) : (s.modLpc n f).buc = s.buc := rfl
@[simp] theorem modLpc_gmn (n : NestId) (f : Watcher → Watcher) : (s.modLpc n f).gmn = s.gmn := rfl
@[simp] theorem modLpc_lpc (n : NestId) (f : Watcher → Watcher) : (s.modLpc n f).lpc = s.lpc.modify n f := rfl
@[simp] theorem modLpc_pcv (n : NestId) (f : Watcher → Watcher) : (s.modLpc n f).pcv = s.pcv := rfl
@[simp] theorem modLpc_opc (n : NestId) (f : Watcher → Watcher) : (s.modLpc n f).opc = s.opc := rfl
@[simp] theorem modLpc_sent (n : NestId) (f : Watcher → Watcher) : (s.modLpc n f).sent = s.sent := rfl
@[simp] theorem modLpc_choices (n : NestId) (f : Watcher → Watcher) : (s.modLpc n f).choices = s.choices := rfl
@[simp] theorem modLpc_now (n : NestId) (f : Watcher → Watcher) : (s.modLpc n f).now = s.now := rfl
@[simp] theorem modLpc_timebase (n : NestId) (f : Watcher → Watcher) : (s.modLpc n f).timebase = s.timebase := rfl
@[simp] theorem modLpc_dueIn (n : NestId) (f : Watcher → Watcher) (us : Nat) :
    (s.modLpc n f).dueIn us = s.dueIn us := rfl
@[simp] theorem modLpc_dueInMs (n : NestId) (f : Watcher → Watcher) (ms : Nat) :
    (s.modLpc n f).dueInMs ms = s.dueInMs ms := rfl
@[simp] theorem modLpc_word (n : NestId) (f : Watcher → Watcher) (w : Nat) : (s.modLpc n f).word w = s.word w := rfl
@[simp] theorem modLpc_powered (n : NestId) (f : Watcher → Watcher) (j : NestId) :
    (s.modLpc n f).powered j = s.powered j := rfl
@[simp] theorem modLpc_executing (n : NestId) (f : Watcher → Watcher) (j : NestId) (kind : Kind) :
    (s.modLpc n f).executing j kind = s.executing j kind := rfl
@[simp] theorem modLpc_keptBack (n : NestId) (f : Watcher → Watcher) (j : NestId) (kind : Kind) :
    (s.modLpc n f).keptBack j kind = s.keptBack j kind := rfl
@[simp] theorem modLpc_underStop (n : NestId) (f : Watcher → Watcher) (j : NestId) :
    (s.modLpc n f).underStop j = s.underStop j := rfl
@[simp] theorem modLpc_nestStateWord (n : NestId) (f : Watcher → Watcher) (j : NestId) :
    (s.modLpc n f).nestStateWord j = s.nestStateWord j := rfl

/-! ### `modPcv` -/

@[simp] theorem modPcv_ticks (f : Converter → Converter) : (s.modPcv f).ticks = s.ticks := rfl
@[simp] theorem modPcv_mem (f : Converter → Converter) : (s.modPcv f).mem = s.mem := rfl
@[simp] theorem modPcv_watchQueue (f : Converter → Converter) : (s.modPcv f).watchQueue = s.watchQueue := rfl
@[simp] theorem modPcv_factor (f : Converter → Converter) : (s.modPcv f).factor = s.factor := rfl
@[simp] theorem modPcv_mask (f : Converter → Converter) : (s.modPcv f).mask = s.mask := rfl
@[simp] theorem modPcv_firstFault (f : Converter → Converter) : (s.modPcv f).firstFault = s.firstFault := rfl
@[simp] theorem modPcv_station (f : Converter → Converter) : (s.modPcv f).station = s.station := rfl
@[simp] theorem modPcv_stopPressed (f : Converter → Converter) : (s.modPcv f).stopPressed = s.stopPressed := rfl
@[simp] theorem modPcv_nsq (f : Converter → Converter) : (s.modPcv f).nsq = s.nsq := rfl
@[simp] theorem modPcv_fxc (f : Converter → Converter) : (s.modPcv f).fxc = s.fxc := rfl
@[simp] theorem modPcv_powerQueue (f : Converter → Converter) : (s.modPcv f).powerQueue = s.powerQueue := rfl
@[simp] theorem modPcv_stu (f : Converter → Converter) : (s.modPcv f).stu = s.stu := rfl
@[simp] theorem modPcv_buc (f : Converter → Converter) : (s.modPcv f).buc = s.buc := rfl
@[simp] theorem modPcv_gmn (f : Converter → Converter) : (s.modPcv f).gmn = s.gmn := rfl
@[simp] theorem modPcv_lpc (f : Converter → Converter) : (s.modPcv f).lpc = s.lpc := rfl
@[simp] theorem modPcv_pcv (f : Converter → Converter) : (s.modPcv f).pcv = f s.pcv := rfl
@[simp] theorem modPcv_opc (f : Converter → Converter) : (s.modPcv f).opc = s.opc := rfl
@[simp] theorem modPcv_sent (f : Converter → Converter) : (s.modPcv f).sent = s.sent := rfl
@[simp] theorem modPcv_choices (f : Converter → Converter) : (s.modPcv f).choices = s.choices := rfl
@[simp] theorem modPcv_now (f : Converter → Converter) : (s.modPcv f).now = s.now := rfl
@[simp] theorem modPcv_timebase (f : Converter → Converter) : (s.modPcv f).timebase = s.timebase := rfl
@[simp] theorem modPcv_dueIn (f : Converter → Converter) (us : Nat) : (s.modPcv f).dueIn us = s.dueIn us := rfl
@[simp] theorem modPcv_dueInMs (f : Converter → Converter) (ms : Nat) : (s.modPcv f).dueInMs ms = s.dueInMs ms := rfl
@[simp] theorem modPcv_word (f : Converter → Converter) (w : Nat) : (s.modPcv f).word w = s.word w := rfl
@[simp] theorem modPcv_powered (f : Converter → Converter) (j : NestId) : (s.modPcv f).powered j = s.powered j := rfl
@[simp] theorem modPcv_executing (f : Converter → Converter) (j : NestId) (kind : Kind) :
    (s.modPcv f).executing j kind = s.executing j kind := rfl
@[simp] theorem modPcv_keptBack (f : Converter → Converter) (j : NestId) (kind : Kind) :
    (s.modPcv f).keptBack j kind = s.keptBack j kind := rfl
@[simp] theorem modPcv_underStop (f : Converter → Converter) (j : NestId) :
    (s.modPcv f).underStop j = s.underStop j := rfl
@[simp] theorem modPcv_nestStateWord (f : Converter → Converter) (j : NestId) :
    (s.modPcv f).nestStateWord j = s.nestStateWord j := rfl

/-! ### `modOpc` -/

@[simp] theorem modOpc_ticks (f : Panel → Panel) : (s.modOpc f).ticks = s.ticks := rfl
@[simp] theorem modOpc_mem (f : Panel → Panel) : (s.modOpc f).mem = s.mem := rfl
@[simp] theorem modOpc_watchQueue (f : Panel → Panel) : (s.modOpc f).watchQueue = s.watchQueue := rfl
@[simp] theorem modOpc_factor (f : Panel → Panel) : (s.modOpc f).factor = s.factor := rfl
@[simp] theorem modOpc_mask (f : Panel → Panel) : (s.modOpc f).mask = s.mask := rfl
@[simp] theorem modOpc_firstFault (f : Panel → Panel) : (s.modOpc f).firstFault = s.firstFault := rfl
@[simp] theorem modOpc_station (f : Panel → Panel) : (s.modOpc f).station = s.station := rfl
@[simp] theorem modOpc_stopPressed (f : Panel → Panel) : (s.modOpc f).stopPressed = s.stopPressed := rfl
@[simp] theorem modOpc_nsq (f : Panel → Panel) : (s.modOpc f).nsq = s.nsq := rfl
@[simp] theorem modOpc_fxc (f : Panel → Panel) : (s.modOpc f).fxc = s.fxc := rfl
@[simp] theorem modOpc_powerQueue (f : Panel → Panel) : (s.modOpc f).powerQueue = s.powerQueue := rfl
@[simp] theorem modOpc_stu (f : Panel → Panel) : (s.modOpc f).stu = s.stu := rfl
@[simp] theorem modOpc_buc (f : Panel → Panel) : (s.modOpc f).buc = s.buc := rfl
@[simp] theorem modOpc_gmn (f : Panel → Panel) : (s.modOpc f).gmn = s.gmn := rfl
@[simp] theorem modOpc_lpc (f : Panel → Panel) : (s.modOpc f).lpc = s.lpc := rfl
@[simp] theorem modOpc_pcv (f : Panel → Panel) : (s.modOpc f).pcv = s.pcv := rfl
@[simp] theorem modOpc_opc (f : Panel → Panel) : (s.modOpc f).opc = f s.opc := rfl
@[simp] theorem modOpc_sent (f : Panel → Panel) : (s.modOpc f).sent = s.sent := rfl
@[simp] theorem modOpc_choices (f : Panel → Panel) : (s.modOpc f).choices = s.choices := rfl
@[simp] theorem modOpc_now (f : Panel → Panel) : (s.modOpc f).now = s.now := rfl
@[simp] theorem modOpc_timebase (f : Panel → Panel) : (s.modOpc f).timebase = s.timebase := rfl
@[simp] theorem modOpc_dueIn (f : Panel → Panel) (us : Nat) : (s.modOpc f).dueIn us = s.dueIn us := rfl
@[simp] theorem modOpc_dueInMs (f : Panel → Panel) (ms : Nat) : (s.modOpc f).dueInMs ms = s.dueInMs ms := rfl
@[simp] theorem modOpc_word (f : Panel → Panel) (w : Nat) : (s.modOpc f).word w = s.word w := rfl
@[simp] theorem modOpc_powered (f : Panel → Panel) (j : NestId) : (s.modOpc f).powered j = s.powered j := rfl
@[simp] theorem modOpc_executing (f : Panel → Panel) (j : NestId) (kind : Kind) :
    (s.modOpc f).executing j kind = s.executing j kind := rfl
@[simp] theorem modOpc_keptBack (f : Panel → Panel) (j : NestId) (kind : Kind) :
    (s.modOpc f).keptBack j kind = s.keptBack j kind := rfl
@[simp] theorem modOpc_underStop (f : Panel → Panel) (j : NestId) :
    (s.modOpc f).underStop j = s.underStop j := rfl
@[simp] theorem modOpc_nestStateWord (f : Panel → Panel) (j : NestId) :
    (s.modOpc f).nestStateWord j = s.nestStateWord j := rfl

/-! ### `put` -/

@[simp] theorem put_ticks (i : Nat) (v : W32) : (s.put i v).ticks = s.ticks := rfl
@[simp] theorem put_mem (i : Nat) (v : W32) : (s.put i v).mem = s.mem.setWord i v := rfl
@[simp] theorem put_watchQueue (i : Nat) (v : W32) : (s.put i v).watchQueue = s.watchQueue := rfl
@[simp] theorem put_factor (i : Nat) (v : W32) : (s.put i v).factor = s.factor := rfl
@[simp] theorem put_mask (i : Nat) (v : W32) : (s.put i v).mask = s.mask := rfl
@[simp] theorem put_firstFault (i : Nat) (v : W32) : (s.put i v).firstFault = s.firstFault := rfl
@[simp] theorem put_station (i : Nat) (v : W32) : (s.put i v).station = s.station := rfl
@[simp] theorem put_stopPressed (i : Nat) (v : W32) : (s.put i v).stopPressed = s.stopPressed := rfl
@[simp] theorem put_nsq (i : Nat) (v : W32) : (s.put i v).nsq = s.nsq := rfl
@[simp] theorem put_fxc (i : Nat) (v : W32) : (s.put i v).fxc = s.fxc := rfl
@[simp] theorem put_powerQueue (i : Nat) (v : W32) : (s.put i v).powerQueue = s.powerQueue := rfl
@[simp] theorem put_stu (i : Nat) (v : W32) : (s.put i v).stu = s.stu := rfl
@[simp] theorem put_buc (i : Nat) (v : W32) : (s.put i v).buc = s.buc := rfl
@[simp] theorem put_gmn (i : Nat) (v : W32) : (s.put i v).gmn = s.gmn := rfl
@[simp] theorem put_lpc (i : Nat) (v : W32) : (s.put i v).lpc = s.lpc := rfl
@[simp] theorem put_pcv (i : Nat) (v : W32) : (s.put i v).pcv = s.pcv := rfl
@[simp] theorem put_opc (i : Nat) (v : W32) : (s.put i v).opc = s.opc := rfl
@[simp] theorem put_sent (i : Nat) (v : W32) : (s.put i v).sent = s.sent := rfl
@[simp] theorem put_choices (i : Nat) (v : W32) : (s.put i v).choices = s.choices := rfl
@[simp] theorem put_now (i : Nat) (v : W32) : (s.put i v).now = s.now := rfl
@[simp] theorem put_timebase (i : Nat) (v : W32) : (s.put i v).timebase = s.timebase := rfl
@[simp] theorem put_dueIn (i : Nat) (v : W32) (us : Nat) : (s.put i v).dueIn us = s.dueIn us := rfl
@[simp] theorem put_dueInMs (i : Nat) (v : W32) (ms : Nat) : (s.put i v).dueInMs ms = s.dueInMs ms := rfl
@[simp] theorem put_powered (i : Nat) (v : W32) (j : NestId) : (s.put i v).powered j = s.powered j := rfl
@[simp] theorem put_executing (i : Nat) (v : W32) (j : NestId) (kind : Kind) :
    (s.put i v).executing j kind = s.executing j kind := rfl
@[simp] theorem put_keptBack (i : Nat) (v : W32) (j : NestId) (kind : Kind) :
    (s.put i v).keptBack j kind = s.keptBack j kind := rfl
@[simp] theorem put_underStop (i : Nat) (v : W32) (j : NestId) :
    (s.put i v).underStop j = s.underStop j := rfl
@[simp] theorem put_nestStateWord (i : Nat) (v : W32) (j : NestId) :
    (s.put i v).nestStateWord j = s.nestStateWord j := rfl

/-! ### `putNest` -/

@[simp] theorem putNest_ticks (n : NestId) (k : Nat) (v : W32) : (s.putNest n k v).ticks = s.ticks := rfl
@[simp] theorem putNest_mem (n : NestId) (k : Nat) (v : W32) :
    (s.putNest n k v).mem = s.mem.setWord (nestAt n k) v := rfl
@[simp] theorem putNest_watchQueue (n : NestId) (k : Nat) (v : W32) : (s.putNest n k v).watchQueue = s.watchQueue := rfl
@[simp] theorem putNest_factor (n : NestId) (k : Nat) (v : W32) : (s.putNest n k v).factor = s.factor := rfl
@[simp] theorem putNest_mask (n : NestId) (k : Nat) (v : W32) : (s.putNest n k v).mask = s.mask := rfl
@[simp] theorem putNest_firstFault (n : NestId) (k : Nat) (v : W32) : (s.putNest n k v).firstFault = s.firstFault := rfl
@[simp] theorem putNest_station (n : NestId) (k : Nat) (v : W32) : (s.putNest n k v).station = s.station := rfl
@[simp] theorem putNest_stopPressed (n : NestId) (k : Nat) (v : W32) :
    (s.putNest n k v).stopPressed = s.stopPressed := rfl
@[simp] theorem putNest_nsq (n : NestId) (k : Nat) (v : W32) : (s.putNest n k v).nsq = s.nsq := rfl
@[simp] theorem putNest_fxc (n : NestId) (k : Nat) (v : W32) : (s.putNest n k v).fxc = s.fxc := rfl
@[simp] theorem putNest_powerQueue (n : NestId) (k : Nat) (v : W32) : (s.putNest n k v).powerQueue = s.powerQueue := rfl
@[simp] theorem putNest_stu (n : NestId) (k : Nat) (v : W32) : (s.putNest n k v).stu = s.stu := rfl
@[simp] theorem putNest_buc (n : NestId) (k : Nat) (v : W32) : (s.putNest n k v).buc = s.buc := rfl
@[simp] theorem putNest_gmn (n : NestId) (k : Nat) (v : W32) : (s.putNest n k v).gmn = s.gmn := rfl
@[simp] theorem putNest_lpc (n : NestId) (k : Nat) (v : W32) : (s.putNest n k v).lpc = s.lpc := rfl
@[simp] theorem putNest_pcv (n : NestId) (k : Nat) (v : W32) : (s.putNest n k v).pcv = s.pcv := rfl
@[simp] theorem putNest_opc (n : NestId) (k : Nat) (v : W32) : (s.putNest n k v).opc = s.opc := rfl
@[simp] theorem putNest_sent (n : NestId) (k : Nat) (v : W32) : (s.putNest n k v).sent = s.sent := rfl
@[simp] theorem putNest_choices (n : NestId) (k : Nat) (v : W32) : (s.putNest n k v).choices = s.choices := rfl
@[simp] theorem putNest_now (n : NestId) (k : Nat) (v : W32) : (s.putNest n k v).now = s.now := rfl
@[simp] theorem putNest_timebase (n : NestId) (k : Nat) (v : W32) : (s.putNest n k v).timebase = s.timebase := rfl
@[simp] theorem putNest_dueIn (n : NestId) (k : Nat) (v : W32) (us : Nat) :
    (s.putNest n k v).dueIn us = s.dueIn us := rfl
@[simp] theorem putNest_dueInMs (n : NestId) (k : Nat) (v : W32) (ms : Nat) :
    (s.putNest n k v).dueInMs ms = s.dueInMs ms := rfl
@[simp] theorem putNest_powered (n : NestId) (k : Nat) (v : W32) (j : NestId) :
    (s.putNest n k v).powered j = s.powered j := rfl
@[simp] theorem putNest_executing (n : NestId) (k : Nat) (v : W32) (j : NestId) (kind : Kind) :
    (s.putNest n k v).executing j kind = s.executing j kind := rfl
@[simp] theorem putNest_keptBack (n : NestId) (k : Nat) (v : W32) (j : NestId) (kind : Kind) :
    (s.putNest n k v).keptBack j kind = s.keptBack j kind := rfl
@[simp] theorem putNest_underStop (n : NestId) (k : Nat) (v : W32) (j : NestId) :
    (s.putNest n k v).underStop j = s.underStop j := rfl
@[simp] theorem putNest_nestStateWord (n : NestId) (k : Nat) (v : W32) (j : NestId) :
    (s.putNest n k v).nestStateWord j = s.nestStateWord j := rfl

/-! ### `send` -/

@[simp] theorem send_ticks (msg : Notice) : (s.send msg).ticks = s.ticks := rfl
@[simp] theorem send_mem (msg : Notice) : (s.send msg).mem = s.mem := rfl
@[simp] theorem send_watchQueue (msg : Notice) : (s.send msg).watchQueue = s.watchQueue := rfl
@[simp] theorem send_factor (msg : Notice) : (s.send msg).factor = s.factor := rfl
@[simp] theorem send_mask (msg : Notice) : (s.send msg).mask = s.mask := rfl
@[simp] theorem send_firstFault (msg : Notice) : (s.send msg).firstFault = s.firstFault := rfl
@[simp] theorem send_station (msg : Notice) : (s.send msg).station = s.station := rfl
@[simp] theorem send_stopPressed (msg : Notice) : (s.send msg).stopPressed = s.stopPressed := rfl
@[simp] theorem send_nsq (msg : Notice) : (s.send msg).nsq = s.nsq := rfl
@[simp] theorem send_fxc (msg : Notice) : (s.send msg).fxc = s.fxc := rfl
@[simp] theorem send_powerQueue (msg : Notice) : (s.send msg).powerQueue = s.powerQueue := rfl
@[simp] theorem send_stu (msg : Notice) : (s.send msg).stu = s.stu := rfl
@[simp] theorem send_buc (msg : Notice) : (s.send msg).buc = s.buc := rfl
@[simp] theorem send_gmn (msg : Notice) : (s.send msg).gmn = s.gmn := rfl
@[simp] theorem send_lpc (msg : Notice) : (s.send msg).lpc = s.lpc := rfl
@[simp] theorem send_pcv (msg : Notice) : (s.send msg).pcv = s.pcv := rfl
@[simp] theorem send_opc (msg : Notice) : (s.send msg).opc = s.opc := rfl
@[simp] theorem send_sent (msg : Notice) : (s.send msg).sent = s.sent ++ [msg] := rfl
@[simp] theorem send_choices (msg : Notice) : (s.send msg).choices = s.choices := rfl
@[simp] theorem send_now (msg : Notice) : (s.send msg).now = s.now := rfl
@[simp] theorem send_timebase (msg : Notice) : (s.send msg).timebase = s.timebase := rfl
@[simp] theorem send_dueIn (msg : Notice) (us : Nat) : (s.send msg).dueIn us = s.dueIn us := rfl
@[simp] theorem send_dueInMs (msg : Notice) (ms : Nat) : (s.send msg).dueInMs ms = s.dueInMs ms := rfl
@[simp] theorem send_word (msg : Notice) (w : Nat) : (s.send msg).word w = s.word w := rfl
@[simp] theorem send_powered (msg : Notice) (j : NestId) : (s.send msg).powered j = s.powered j := rfl
@[simp] theorem send_executing (msg : Notice) (j : NestId) (kind : Kind) :
    (s.send msg).executing j kind = s.executing j kind := rfl
@[simp] theorem send_keptBack (msg : Notice) (j : NestId) (kind : Kind) :
    (s.send msg).keptBack j kind = s.keptBack j kind := rfl
@[simp] theorem send_nestStateWord (msg : Notice) (j : NestId) :
    (s.send msg).nestStateWord j = s.nestStateWord j := rfl

/-! ### `took` -/

@[simp] theorem took_ticks (msg : Notice) : (s.took msg).ticks = s.ticks := rfl
@[simp] theorem took_mem (msg : Notice) : (s.took msg).mem = s.mem := rfl
@[simp] theorem took_watchQueue (msg : Notice) : (s.took msg).watchQueue = s.watchQueue := rfl
@[simp] theorem took_factor (msg : Notice) : (s.took msg).factor = s.factor := rfl
@[simp] theorem took_mask (msg : Notice) : (s.took msg).mask = s.mask := rfl
@[simp] theorem took_firstFault (msg : Notice) : (s.took msg).firstFault = s.firstFault := rfl
@[simp] theorem took_station (msg : Notice) : (s.took msg).station = s.station := rfl
@[simp] theorem took_stopPressed (msg : Notice) : (s.took msg).stopPressed = s.stopPressed := rfl
@[simp] theorem took_nsq (msg : Notice) : (s.took msg).nsq = s.nsq := rfl
@[simp] theorem took_fxc (msg : Notice) : (s.took msg).fxc = s.fxc := rfl
@[simp] theorem took_powerQueue (msg : Notice) : (s.took msg).powerQueue = s.powerQueue := rfl
@[simp] theorem took_stu (msg : Notice) : (s.took msg).stu = s.stu := rfl
@[simp] theorem took_buc (msg : Notice) : (s.took msg).buc = s.buc := rfl
@[simp] theorem took_gmn (msg : Notice) : (s.took msg).gmn = s.gmn := rfl
@[simp] theorem took_lpc (msg : Notice) : (s.took msg).lpc = s.lpc := rfl
@[simp] theorem took_pcv (msg : Notice) : (s.took msg).pcv = s.pcv := rfl
@[simp] theorem took_opc (msg : Notice) : (s.took msg).opc = s.opc := rfl
@[simp] theorem took_sent (msg : Notice) : (s.took msg).sent = s.sent.erase msg := rfl
@[simp] theorem took_choices (msg : Notice) : (s.took msg).choices = s.choices := rfl
@[simp] theorem took_now (msg : Notice) : (s.took msg).now = s.now := rfl
@[simp] theorem took_timebase (msg : Notice) : (s.took msg).timebase = s.timebase := rfl
@[simp] theorem took_dueIn (msg : Notice) (us : Nat) : (s.took msg).dueIn us = s.dueIn us := rfl
@[simp] theorem took_dueInMs (msg : Notice) (ms : Nat) : (s.took msg).dueInMs ms = s.dueInMs ms := rfl
@[simp] theorem took_word (msg : Notice) (w : Nat) : (s.took msg).word w = s.word w := rfl
@[simp] theorem took_powered (msg : Notice) (j : NestId) : (s.took msg).powered j = s.powered j := rfl
@[simp] theorem took_executing (msg : Notice) (j : NestId) (kind : Kind) :
    (s.took msg).executing j kind = s.executing j kind := rfl
@[simp] theorem took_keptBack (msg : Notice) (j : NestId) (kind : Kind) :
    (s.took msg).keptBack j kind = s.keptBack j kind := rfl
@[simp] theorem took_nestStateWord (msg : Notice) (j : NestId) :
    (s.took msg).nestStateWord j = s.nestStateWord j := rfl

/-! ### `markLate` -/

@[simp] theorem markLate_ticks (ended : Notice → Bool) : (s.markLate ended).ticks = s.ticks := rfl
@[simp] theorem markLate_mem (ended : Notice → Bool) : (s.markLate ended).mem = s.mem := rfl
@[simp] theorem markLate_watchQueue (ended : Notice → Bool) : (s.markLate ended).watchQueue = s.watchQueue := rfl
@[simp] theorem markLate_factor (ended : Notice → Bool) : (s.markLate ended).factor = s.factor := rfl
@[simp] theorem markLate_mask (ended : Notice → Bool) : (s.markLate ended).mask = s.mask := rfl
@[simp] theorem markLate_firstFault (ended : Notice → Bool) : (s.markLate ended).firstFault = s.firstFault := rfl
@[simp] theorem markLate_station (ended : Notice → Bool) : (s.markLate ended).station = s.station := rfl
@[simp] theorem markLate_stopPressed (ended : Notice → Bool) : (s.markLate ended).stopPressed = s.stopPressed := rfl
@[simp] theorem markLate_nsq (ended : Notice → Bool) : (s.markLate ended).nsq = s.nsq := rfl
@[simp] theorem markLate_fxc (ended : Notice → Bool) : (s.markLate ended).fxc = s.fxc := rfl
@[simp] theorem markLate_powerQueue (ended : Notice → Bool) : (s.markLate ended).powerQueue = s.powerQueue := rfl
@[simp] theorem markLate_stu (ended : Notice → Bool) : (s.markLate ended).stu = s.stu := rfl
@[simp] theorem markLate_buc (ended : Notice → Bool) : (s.markLate ended).buc = s.buc := rfl
@[simp] theorem markLate_gmn (ended : Notice → Bool) : (s.markLate ended).gmn = s.gmn := rfl
@[simp] theorem markLate_lpc (ended : Notice → Bool) : (s.markLate ended).lpc = s.lpc := rfl
@[simp] theorem markLate_pcv (ended : Notice → Bool) : (s.markLate ended).pcv = s.pcv := rfl
@[simp] theorem markLate_opc (ended : Notice → Bool) : (s.markLate ended).opc = s.opc := rfl
@[simp] theorem markLate_sent (ended : Notice → Bool) :
    (s.markLate ended).sent = s.sent.map fun m => if ended m then .late m else m := rfl
@[simp] theorem markLate_choices (ended : Notice → Bool) : (s.markLate ended).choices = s.choices := rfl
@[simp] theorem markLate_now (ended : Notice → Bool) : (s.markLate ended).now = s.now := rfl
@[simp] theorem markLate_timebase (ended : Notice → Bool) : (s.markLate ended).timebase = s.timebase := rfl
@[simp] theorem markLate_dueIn (ended : Notice → Bool) (us : Nat) : (s.markLate ended).dueIn us = s.dueIn us := rfl
@[simp] theorem markLate_dueInMs (ended : Notice → Bool) (ms : Nat) :
    (s.markLate ended).dueInMs ms = s.dueInMs ms := rfl
@[simp] theorem markLate_word (ended : Notice → Bool) (w : Nat) : (s.markLate ended).word w = s.word w := rfl
@[simp] theorem markLate_powered (ended : Notice → Bool) (j : NestId) :
    (s.markLate ended).powered j = s.powered j := rfl
@[simp] theorem markLate_executing (ended : Notice → Bool) (j : NestId) (kind : Kind) :
    (s.markLate ended).executing j kind = s.executing j kind := rfl
@[simp] theorem markLate_keptBack (ended : Notice → Bool) (j : NestId) (kind : Kind) :
    (s.markLate ended).keptBack j kind = s.keptBack j kind := rfl
@[simp] theorem markLate_nestStateWord (ended : Notice → Bool) (j : NestId) :
    (s.markLate ended).nestStateWord j = s.nestStateWord j := rfl

/-! ### `setFactor` -/

@[simp] theorem setFactor_ticks (i : Nat) : (s.setFactor i).ticks = s.ticks := rfl
@[simp] theorem setFactor_mem (i : Nat) : (s.setFactor i).mem = s.mem := rfl
@[simp] theorem setFactor_watchQueue (i : Nat) : (s.setFactor i).watchQueue = s.watchQueue := rfl
@[simp] theorem setFactor_factor (i : Nat) : (s.setFactor i).factor = s.factor ||| 1#19 <<< i := rfl
@[simp] theorem setFactor_mask (i : Nat) : (s.setFactor i).mask = s.mask := rfl
@[simp] theorem setFactor_firstFault (i : Nat) : (s.setFactor i).firstFault = s.firstFault := rfl
@[simp] theorem setFactor_station (i : Nat) : (s.setFactor i).station = s.station := rfl
@[simp] theorem setFactor_stopPressed (i : Nat) : (s.setFactor i).stopPressed = s.stopPressed := rfl
@[simp] theorem setFactor_nsq (i : Nat) : (s.setFactor i).nsq = s.nsq := rfl
@[simp] theorem setFactor_fxc (i : Nat) : (s.setFactor i).fxc = s.fxc := rfl
@[simp] theorem setFactor_powerQueue (i : Nat) : (s.setFactor i).powerQueue = s.powerQueue := rfl
@[simp] theorem setFactor_stu (i : Nat) : (s.setFactor i).stu = s.stu := rfl
@[simp] theorem setFactor_buc (i : Nat) : (s.setFactor i).buc = s.buc := rfl
@[simp] theorem setFactor_gmn (i : Nat) : (s.setFactor i).gmn = s.gmn := rfl
@[simp] theorem setFactor_lpc (i : Nat) : (s.setFactor i).lpc = s.lpc := rfl
@[simp] theorem setFactor_pcv (i : Nat) : (s.setFactor i).pcv = s.pcv := rfl
@[simp] theorem setFactor_opc (i : Nat) : (s.setFactor i).opc = s.opc := rfl
@[simp] theorem setFactor_sent (i : Nat) : (s.setFactor i).sent = s.sent := rfl
@[simp] theorem setFactor_choices (i : Nat) : (s.setFactor i).choices = s.choices := rfl
@[simp] theorem setFactor_now (i : Nat) : (s.setFactor i).now = s.now := rfl
@[simp] theorem setFactor_timebase (i : Nat) : (s.setFactor i).timebase = s.timebase := rfl
@[simp] theorem setFactor_dueIn (i : Nat) (us : Nat) : (s.setFactor i).dueIn us = s.dueIn us := rfl
@[simp] theorem setFactor_dueInMs (i : Nat) (ms : Nat) : (s.setFactor i).dueInMs ms = s.dueInMs ms := rfl
@[simp] theorem setFactor_word (i : Nat) (w : Nat) : (s.setFactor i).word w = s.word w := rfl
@[simp] theorem setFactor_powered (i : Nat) (j : NestId) : (s.setFactor i).powered j = s.powered j := rfl
@[simp] theorem setFactor_executing (i : Nat) (j : NestId) (kind : Kind) :
    (s.setFactor i).executing j kind = s.executing j kind := rfl
@[simp] theorem setFactor_keptBack (i : Nat) (j : NestId) (kind : Kind) :
    (s.setFactor i).keptBack j kind = s.keptBack j kind := rfl
@[simp] theorem setFactor_underStop (i : Nat) (j : NestId) :
    (s.setFactor i).underStop j = s.underStop j := rfl
@[simp] theorem setFactor_nestStateWord (i : Nat) (j : NestId) :
    (s.setFactor i).nestStateWord j = s.nestStateWord j := rfl

/-! ### Words -/

@[simp] theorem put_word_same (i : Nat) (v : W32) : (s.put i v).word i = v := Memory.word_setWord_same ..
theorem put_word (i j : Nat) (v : W32) : (s.put i v).word j = if i = j then v else s.word j := Memory.word_setWord ..
@[simp] theorem put_word_other {i j : Nat} (v : W32) (h : i ≠ j) : (s.put i v).word j = s.word j :=
  Memory.word_setWord_other _ v h
@[simp] theorem putNest_word_same (n : NestId) (k : Nat) (v : W32) : (s.putNest n k v).word (nestAt n k) = v :=
  Memory.word_setWord_same ..
theorem putNest_word (n : NestId) (k j : Nat) (v : W32) :
    (s.putNest n k v).word j = if nestAt n k = j then v else s.word j := Memory.word_setWord ..

end Sys2Proof.Machine.Part
end

