-- ==== Sys2Proof/Laws/Ops.lean ====
section
/-! SUPPORT. What the shared operations can do, and what each leaves as it was. -/

namespace Sys2Proof.Machine.Part

variable (s : Part)

/-! ### Tracking a nest's state word -/

/-- `track` does what `f` does, and besides writes NEST_STATE, when the word's value has changed. -/
theorem track_eq (n : NestId) (f : Part → Part) :
    s.track n f = f s ∧ (f s).nestStateWord n = s.nestStateWord n ∨
      s.track n f = (f s).putNest n 7 ((f s).nestStateWord n) ∧ (f s).nestStateWord n ≠ s.nestStateWord n := by
  unfold track
  by_cases h : (f s).nestStateWord n = s.nestStateWord n
  · simp [h]
  · simp [h]

@[simp] theorem track_ticks (n : NestId) (f : Part → Part) : (s.track n f).ticks = (f s).ticks := by
  simp only [track]; split <;> simp
@[simp] theorem track_watchQueue (n : NestId) (f : Part → Part) : (s.track n f).watchQueue = (f s).watchQueue := by
  simp only [track]; split <;> simp
@[simp] theorem track_factor (n : NestId) (f : Part → Part) : (s.track n f).factor = (f s).factor := by
  simp only [track]; split <;> simp
@[simp] theorem track_mask (n : NestId) (f : Part → Part) : (s.track n f).mask = (f s).mask := by
  simp only [track]; split <;> simp
@[simp] theorem track_firstFault (n : NestId) (f : Part → Part) : (s.track n f).firstFault = (f s).firstFault := by
  simp only [track]; split <;> simp
@[simp] theorem track_station (n : NestId) (f : Part → Part) : (s.track n f).station = (f s).station := by
  simp only [track]; split <;> simp
@[simp] theorem track_stopPressed (n : NestId) (f : Part → Part) : (s.track n f).stopPressed = (f s).stopPressed := by
  simp only [track]; split <;> simp
@[simp] theorem track_nsq (n : NestId) (f : Part → Part) : (s.track n f).nsq = (f s).nsq := by
  simp only [track]; split <;> simp
@[simp] theorem track_fxc (n : NestId) (f : Part → Part) : (s.track n f).fxc = (f s).fxc := by
  simp only [track]; split <;> simp
@[simp] theorem track_powerQueue (n : NestId) (f : Part → Part) : (s.track n f).powerQueue = (f s).powerQueue := by
  simp only [track]; split <;> simp
@[simp] theorem track_stu (n : NestId) (f : Part → Part) : (s.track n f).stu = (f s).stu := by
  simp only [track]; split <;> simp
@[simp] theorem track_buc (n : NestId) (f : Part → Part) : (s.track n f).buc = (f s).buc := by
  simp only [track]; split <;> simp
@[simp] theorem track_gmn (n : NestId) (f : Part → Part) : (s.track n f).gmn = (f s).gmn := by
  simp only [track]; split <;> simp
@[simp] theorem track_lpc (n : NestId) (f : Part → Part) : (s.track n f).lpc = (f s).lpc := by
  simp only [track]; split <;> simp
@[simp] theorem track_pcv (n : NestId) (f : Part → Part) : (s.track n f).pcv = (f s).pcv := by
  simp only [track]; split <;> simp
@[simp] theorem track_opc (n : NestId) (f : Part → Part) : (s.track n f).opc = (f s).opc := by
  simp only [track]; split <;> simp
@[simp] theorem track_sent (n : NestId) (f : Part → Part) : (s.track n f).sent = (f s).sent := by
  simp only [track]; split <;> simp
@[simp] theorem track_choices (n : NestId) (f : Part → Part) : (s.track n f).choices = (f s).choices := by
  simp only [track]; split <;> simp
@[simp] theorem track_nestStateWord (n m : NestId) (f : Part → Part) : (s.track n f).nestStateWord m = (f s).nestStateWord m := by
  simp only [track]; split <;> simp
@[simp] theorem track_powered (n m : NestId) (f : Part → Part) : (s.track n f).powered m = (f s).powered m := by
  simp only [track]; split <;> simp
@[simp] theorem track_now (n : NestId) (f : Part → Part) : (s.track n f).now = (f s).now := by
  simp only [track]; split <;> simp
@[simp] theorem track_timebase (n : NestId) (f : Part → Part) : (s.track n f).timebase = (f s).timebase := by
  simp only [track]; split <;> simp

/-- `track` stores to NEST_STATE alone, besides what `f` stores. -/
theorem track_word_other (n : NestId) (f : Part → Part) {i : Nat} (h : nestAt n 7 ≠ i) :
    (s.track n f).word i = (f s).word i := by
  simp only [track]; split
  · rfl
  · exact put_word_other _ _ h

/-- After `track`, NEST_STATE shows the nest's state if it showed it before. -/
theorem track_word_same (n : NestId) (f : Part → Part)
    (h : (f s).word (nestAt n 7) = s.nestStateWord n) : (s.track n f).word (nestAt n 7) = (f s).nestStateWord n := by
  simp only [track]; split
  · simp_all
  · simp

/-! ### What `writeNestState` leaves -/

@[simp] theorem writeNestState_ticks (n : NestId) : (s.writeNestState n).ticks = s.ticks := by
  simp [writeNestState]
@[simp] theorem writeNestState_watchQueue (n : NestId) : (s.writeNestState n).watchQueue = s.watchQueue := by
  simp [writeNestState]
@[simp] theorem writeNestState_factor (n : NestId) : (s.writeNestState n).factor = s.factor := by
  simp [writeNestState]
@[simp] theorem writeNestState_mask (n : NestId) : (s.writeNestState n).mask = s.mask := by
  simp [writeNestState]
@[simp] theorem writeNestState_firstFault (n : NestId) : (s.writeNestState n).firstFault = s.firstFault := by
  simp [writeNestState]
@[simp] theorem writeNestState_station (n : NestId) : (s.writeNestState n).station = s.station := by
  simp [writeNestState]
@[simp] theorem writeNestState_stopPressed (n : NestId) : (s.writeNestState n).stopPressed = s.stopPressed := by
  simp [writeNestState]
@[simp] theorem writeNestState_nsq (n : NestId) : (s.writeNestState n).nsq = s.nsq := by
  simp [writeNestState]
@[simp] theorem writeNestState_fxc (n : NestId) : (s.writeNestState n).fxc = s.fxc := by
  simp [writeNestState]
@[simp] theorem writeNestState_powerQueue (n : NestId) : (s.writeNestState n).powerQueue = s.powerQueue := by
  simp [writeNestState]
@[simp] theorem writeNestState_stu (n : NestId) : (s.writeNestState n).stu = s.stu := by
  simp [writeNestState]
@[simp] theorem writeNestState_buc (n : NestId) : (s.writeNestState n).buc = s.buc := by
  simp [writeNestState]
@[simp] theorem writeNestState_gmn (n : NestId) : (s.writeNestState n).gmn = s.gmn := by
  simp [writeNestState]
@[simp] theorem writeNestState_lpc (n : NestId) : (s.writeNestState n).lpc = s.lpc := by
  simp [writeNestState]
@[simp] theorem writeNestState_pcv (n : NestId) : (s.writeNestState n).pcv = s.pcv := by
  simp [writeNestState]
@[simp] theorem writeNestState_opc (n : NestId) : (s.writeNestState n).opc = s.opc := by
  simp [writeNestState]
@[simp] theorem writeNestState_sent (n : NestId) : (s.writeNestState n).sent = s.sent := by
  simp [writeNestState]
@[simp] theorem writeNestState_choices (n : NestId) : (s.writeNestState n).choices = s.choices := by
  simp [writeNestState]

/-! ### What `offerFault` leaves -/

@[simp] theorem offerFault_ticks (source : Fin 9) (kind : FaultKind) (seq : Option W16) :
    (s.offerFault source kind seq).ticks = s.ticks := by
  simp only [offerFault]; (repeat' split) <;> simp
@[simp] theorem offerFault_watchQueue (source : Fin 9) (kind : FaultKind) (seq : Option W16) :
    (s.offerFault source kind seq).watchQueue = s.watchQueue := by
  simp only [offerFault]; (repeat' split) <;> simp
@[simp] theorem offerFault_mask (source : Fin 9) (kind : FaultKind) (seq : Option W16) :
    (s.offerFault source kind seq).mask = s.mask := by
  simp only [offerFault]; (repeat' split) <;> simp
@[simp] theorem offerFault_station (source : Fin 9) (kind : FaultKind) (seq : Option W16) :
    (s.offerFault source kind seq).station = s.station := by
  simp only [offerFault]; (repeat' split) <;> simp
@[simp] theorem offerFault_stopPressed (source : Fin 9) (kind : FaultKind) (seq : Option W16) :
    (s.offerFault source kind seq).stopPressed = s.stopPressed := by
  simp only [offerFault]; (repeat' split) <;> simp
@[simp] theorem offerFault_nsq (source : Fin 9) (kind : FaultKind) (seq : Option W16) :
    (s.offerFault source kind seq).nsq = s.nsq := by
  simp only [offerFault]; (repeat' split) <;> simp
@[simp] theorem offerFault_fxc (source : Fin 9) (kind : FaultKind) (seq : Option W16) :
    (s.offerFault source kind seq).fxc = s.fxc := by
  simp only [offerFault]; (repeat' split) <;> simp
@[simp] theorem offerFault_powerQueue (source : Fin 9) (kind : FaultKind) (seq : Option W16) :
    (s.offerFault source kind seq).powerQueue = s.powerQueue := by
  simp only [offerFault]; (repeat' split) <;> simp
@[simp] theorem offerFault_stu (source : Fin 9) (kind : FaultKind) (seq : Option W16) :
    (s.offerFault source kind seq).stu = s.stu := by
  simp only [offerFault]; (repeat' split) <;> simp
@[simp] theorem offerFault_buc (source : Fin 9) (kind : FaultKind) (seq : Option W16) :
    (s.offerFault source kind seq).buc = s.buc := by
  simp only [offerFault]; (repeat' split) <;> simp
@[simp] theorem offerFault_gmn (source : Fin 9) (kind : FaultKind) (seq : Option W16) :
    (s.offerFault source kind seq).gmn = s.gmn := by
  simp only [offerFault]; (repeat' split) <;> simp
@[simp] theorem offerFault_lpc (source : Fin 9) (kind : FaultKind) (seq : Option W16) :
    (s.offerFault source kind seq).lpc = s.lpc := by
  simp only [offerFault]; (repeat' split) <;> simp
@[simp] theorem offerFault_pcv (source : Fin 9) (kind : FaultKind) (seq : Option W16) :
    (s.offerFault source kind seq).pcv = s.pcv := by
  simp only [offerFault]; (repeat' split) <;> simp
@[simp] theorem offerFault_opc (source : Fin 9) (kind : FaultKind) (seq : Option W16) :
    (s.offerFault source kind seq).opc = s.opc := by
  simp only [offerFault]; (repeat' split) <;> simp
@[simp] theorem offerFault_sent (source : Fin 9) (kind : FaultKind) (seq : Option W16) :
    (s.offerFault source kind seq).sent = s.sent := by
  simp only [offerFault]; (repeat' split) <;> simp
@[simp] theorem offerFault_choices (source : Fin 9) (kind : FaultKind) (seq : Option W16) :
    (s.offerFault source kind seq).choices = s.choices := by
  simp only [offerFault]; (repeat' split) <;> simp

/-! ### What `recordFault` leaves -/

@[simp] theorem recordFault_ticks (n : NestId) (kind : FaultKind) : (s.recordFault n kind).ticks = s.ticks := by
  simp only [recordFault]; (repeat' split) <;> simp
@[simp] theorem recordFault_watchQueue (n : NestId) (kind : FaultKind) :
    (s.recordFault n kind).watchQueue = s.watchQueue := by
  simp only [recordFault]; (repeat' split) <;> simp
@[simp] theorem recordFault_mask (n : NestId) (kind : FaultKind) : (s.recordFault n kind).mask = s.mask := by
  simp only [recordFault]; (repeat' split) <;> simp
@[simp] theorem recordFault_station (n : NestId) (kind : FaultKind) : (s.recordFault n kind).station = s.station := by
  simp only [recordFault]; (repeat' split) <;> simp
@[simp] theorem recordFault_stopPressed (n : NestId) (kind : FaultKind) :
    (s.recordFault n kind).stopPressed = s.stopPressed := by
  simp only [recordFault]; (repeat' split) <;> simp
@[simp] theorem recordFault_fxc (n : NestId) (kind : FaultKind) : (s.recordFault n kind).fxc = s.fxc := by
  simp only [recordFault]; (repeat' split) <;> simp
@[simp] theorem recordFault_powerQueue (n : NestId) (kind : FaultKind) :
    (s.recordFault n kind).powerQueue = s.powerQueue := by
  simp only [recordFault]; (repeat' split) <;> simp
@[simp] theorem recordFault_stu (n : NestId) (kind : FaultKind) : (s.recordFault n kind).stu = s.stu := by
  simp only [recordFault]; (repeat' split) <;> simp
@[simp] theorem recordFault_buc (n : NestId) (kind : FaultKind) : (s.recordFault n kind).buc = s.buc := by
  simp only [recordFault]; (repeat' split) <;> simp
@[simp] theorem recordFault_gmn (n : NestId) (kind : FaultKind) : (s.recordFault n kind).gmn = s.gmn := by
  simp only [recordFault]; (repeat' split) <;> simp
@[simp] theorem recordFault_lpc (n : NestId) (kind : FaultKind) : (s.recordFault n kind).lpc = s.lpc := by
  simp only [recordFault]; (repeat' split) <;> simp
@[simp] theorem recordFault_pcv (n : NestId) (kind : FaultKind) : (s.recordFault n kind).pcv = s.pcv := by
  simp only [recordFault]; (repeat' split) <;> simp
@[simp] theorem recordFault_opc (n : NestId) (kind : FaultKind) : (s.recordFault n kind).opc = s.opc := by
  simp only [recordFault]; (repeat' split) <;> simp
@[simp] theorem recordFault_sent (n : NestId) (kind : FaultKind) : (s.recordFault n kind).sent = s.sent := by
  simp only [recordFault]; (repeat' split) <;> simp
@[simp] theorem recordFault_choices (n : NestId) (kind : FaultKind) : (s.recordFault n kind).choices = s.choices := by
  simp only [recordFault]; (repeat' split) <;> simp

/-! ### What `writeUnitState` leaves -/

@[simp] theorem writeUnitState_ticks (n : NestId) (u : UnitState) : (s.writeUnitState n u).ticks = s.ticks := by
  simp [writeUnitState]
@[simp] theorem writeUnitState_watchQueue (n : NestId) (u : UnitState) :
    (s.writeUnitState n u).watchQueue = s.watchQueue := by
  simp [writeUnitState]
@[simp] theorem writeUnitState_factor (n : NestId) (u : UnitState) : (s.writeUnitState n u).factor = s.factor := by
  simp [writeUnitState]
@[simp] theorem writeUnitState_mask (n : NestId) (u : UnitState) : (s.writeUnitState n u).mask = s.mask := by
  simp [writeUnitState]
@[simp] theorem writeUnitState_firstFault (n : NestId) (u : UnitState) :
    (s.writeUnitState n u).firstFault = s.firstFault := by
  simp [writeUnitState]
@[simp] theorem writeUnitState_station (n : NestId) (u : UnitState) : (s.writeUnitState n u).station = s.station := by
  simp [writeUnitState]
@[simp] theorem writeUnitState_stopPressed (n : NestId) (u : UnitState) :
    (s.writeUnitState n u).stopPressed = s.stopPressed := by
  simp [writeUnitState]
@[simp] theorem writeUnitState_fxc (n : NestId) (u : UnitState) : (s.writeUnitState n u).fxc = s.fxc := by
  simp [writeUnitState]
@[simp] theorem writeUnitState_powerQueue (n : NestId) (u : UnitState) :
    (s.writeUnitState n u).powerQueue = s.powerQueue := by
  simp [writeUnitState]
@[simp] theorem writeUnitState_stu (n : NestId) (u : UnitState) : (s.writeUnitState n u).stu = s.stu := by
  simp [writeUnitState]
@[simp] theorem writeUnitState_buc (n : NestId) (u : UnitState) : (s.writeUnitState n u).buc = s.buc := by
  simp [writeUnitState]
@[simp] theorem writeUnitState_gmn (n : NestId) (u : UnitState) : (s.writeUnitState n u).gmn = s.gmn := by
  simp [writeUnitState]
@[simp] theorem writeUnitState_lpc (n : NestId) (u : UnitState) : (s.writeUnitState n u).lpc = s.lpc := by
  simp [writeUnitState]
@[simp] theorem writeUnitState_pcv (n : NestId) (u : UnitState) : (s.writeUnitState n u).pcv = s.pcv := by
  simp [writeUnitState]
@[simp] theorem writeUnitState_sent (n : NestId) (u : UnitState) : (s.writeUnitState n u).sent = s.sent := by
  simp [writeUnitState]
@[simp] theorem writeUnitState_choices (n : NestId) (u : UnitState) : (s.writeUnitState n u).choices = s.choices := by
  simp [writeUnitState]

/-! ### What `openUnit` leaves -/

@[simp] theorem openUnit_ticks (n : NestId) (tag : W32) : (s.openUnit n tag).ticks = s.ticks := by
  simp [openUnit]
@[simp] theorem openUnit_watchQueue (n : NestId) (tag : W32) : (s.openUnit n tag).watchQueue = s.watchQueue := by
  simp [openUnit]
@[simp] theorem openUnit_factor (n : NestId) (tag : W32) : (s.openUnit n tag).factor = s.factor := by
  simp [openUnit]
@[simp] theorem openUnit_mask (n : NestId) (tag : W32) : (s.openUnit n tag).mask = s.mask := by
  simp [openUnit]
@[simp] theorem openUnit_firstFault (n : NestId) (tag : W32) : (s.openUnit n tag).firstFault = s.firstFault := by
  simp [openUnit]
@[simp] theorem openUnit_station (n : NestId) (tag : W32) : (s.openUnit n tag).station = s.station := by
  simp [openUnit]
@[simp] theorem openUnit_stopPressed (n : NestId) (tag : W32) : (s.openUnit n tag).stopPressed = s.stopPressed := by
  simp [openUnit]
@[simp] theorem openUnit_fxc (n : NestId) (tag : W32) : (s.openUnit n tag).fxc = s.fxc := by
  simp [openUnit]
@[simp] theorem openUnit_powerQueue (n : NestId) (tag : W32) : (s.openUnit n tag).powerQueue = s.powerQueue := by
  simp [openUnit]
@[simp] theorem openUnit_stu (n : NestId) (tag : W32) : (s.openUnit n tag).stu = s.stu := by
  simp [openUnit]
@[simp] theorem openUnit_buc (n : NestId) (tag : W32) : (s.openUnit n tag).buc = s.buc := by
  simp [openUnit]
@[simp] theorem openUnit_gmn (n : NestId) (tag : W32) : (s.openUnit n tag).gmn = s.gmn := by
  simp [openUnit]
@[simp] theorem openUnit_lpc (n : NestId) (tag : W32) : (s.openUnit n tag).lpc = s.lpc := by
  simp [openUnit]
@[simp] theorem openUnit_pcv (n : NestId) (tag : W32) : (s.openUnit n tag).pcv = s.pcv := by
  simp [openUnit]
@[simp] theorem openUnit_sent (n : NestId) (tag : W32) : (s.openUnit n tag).sent = s.sent := by
  simp [openUnit]
@[simp] theorem openUnit_choices (n : NestId) (tag : W32) : (s.openUnit n tag).choices = s.choices := by
  simp [openUnit]

/-! ### What `closeUnit` leaves -/

@[simp] theorem closeUnit_ticks (n : NestId) (u : UnitState) : (s.closeUnit n u).ticks = s.ticks := by
  simp [closeUnit]
@[simp] theorem closeUnit_watchQueue (n : NestId) (u : UnitState) : (s.closeUnit n u).watchQueue = s.watchQueue := by
  simp [closeUnit]
@[simp] theorem closeUnit_factor (n : NestId) (u : UnitState) : (s.closeUnit n u).factor = s.factor := by
  simp [closeUnit]
@[simp] theorem closeUnit_mask (n : NestId) (u : UnitState) : (s.closeUnit n u).mask = s.mask := by
  simp [closeUnit]
@[simp] theorem closeUnit_firstFault (n : NestId) (u : UnitState) : (s.closeUnit n u).firstFault = s.firstFault := by
  simp [closeUnit]
@[simp] theorem closeUnit_station (n : NestId) (u : UnitState) : (s.closeUnit n u).station = s.station := by
  simp [closeUnit]
@[simp] theorem closeUnit_stopPressed (n : NestId) (u : UnitState) :
    (s.closeUnit n u).stopPressed = s.stopPressed := by
  simp [closeUnit]
@[simp] theorem closeUnit_fxc (n : NestId) (u : UnitState) : (s.closeUnit n u).fxc = s.fxc := by
  simp [closeUnit]
@[simp] theorem closeUnit_powerQueue (n : NestId) (u : UnitState) : (s.closeUnit n u).powerQueue = s.powerQueue := by
  simp [closeUnit]
@[simp] theorem closeUnit_stu (n : NestId) (u : UnitState) : (s.closeUnit n u).stu = s.stu := by
  simp [closeUnit]
@[simp] theorem closeUnit_buc (n : NestId) (u : UnitState) : (s.closeUnit n u).buc = s.buc := by
  simp [closeUnit]
@[simp] theorem closeUnit_gmn (n : NestId) (u : UnitState) : (s.closeUnit n u).gmn = s.gmn := by
  simp [closeUnit]
@[simp] theorem closeUnit_lpc (n : NestId) (u : UnitState) : (s.closeUnit n u).lpc = s.lpc := by
  simp [closeUnit]
@[simp] theorem closeUnit_pcv (n : NestId) (u : UnitState) : (s.closeUnit n u).pcv = s.pcv := by
  simp [closeUnit]
@[simp] theorem closeUnit_sent (n : NestId) (u : UnitState) : (s.closeUnit n u).sent = s.sent := by
  simp [closeUnit]
@[simp] theorem closeUnit_choices (n : NestId) (u : UnitState) : (s.closeUnit n u).choices = s.choices := by
  simp [closeUnit]

/-! ### What `abortUnit` leaves -/

@[simp] theorem abortUnit_ticks (n : NestId) : (s.abortUnit n).ticks = s.ticks := by
  simp only [abortUnit]; (repeat' split) <;> simp
@[simp] theorem abortUnit_watchQueue (n : NestId) : (s.abortUnit n).watchQueue = s.watchQueue := by
  simp only [abortUnit]; (repeat' split) <;> simp
@[simp] theorem abortUnit_factor (n : NestId) : (s.abortUnit n).factor = s.factor := by
  simp only [abortUnit]; (repeat' split) <;> simp
@[simp] theorem abortUnit_mask (n : NestId) : (s.abortUnit n).mask = s.mask := by
  simp only [abortUnit]; (repeat' split) <;> simp
@[simp] theorem abortUnit_firstFault (n : NestId) : (s.abortUnit n).firstFault = s.firstFault := by
  simp only [abortUnit]; (repeat' split) <;> simp
@[simp] theorem abortUnit_station (n : NestId) : (s.abortUnit n).station = s.station := by
  simp only [abortUnit]; (repeat' split) <;> simp
@[simp] theorem abortUnit_stopPressed (n : NestId) : (s.abortUnit n).stopPressed = s.stopPressed := by
  simp only [abortUnit]; (repeat' split) <;> simp
@[simp] theorem abortUnit_fxc (n : NestId) : (s.abortUnit n).fxc = s.fxc := by
  simp only [abortUnit]; (repeat' split) <;> simp
@[simp] theorem abortUnit_powerQueue (n : NestId) : (s.abortUnit n).powerQueue = s.powerQueue := by
  simp only [abortUnit]; (repeat' split) <;> simp
@[simp] theorem abortUnit_stu (n : NestId) : (s.abortUnit n).stu = s.stu := by
  simp only [abortUnit]; (repeat' split) <;> simp
@[simp] theorem abortUnit_buc (n : NestId) : (s.abortUnit n).buc = s.buc := by
  simp only [abortUnit]; (repeat' split) <;> simp
@[simp] theorem abortUnit_gmn (n : NestId) : (s.abortUnit n).gmn = s.gmn := by
  simp only [abortUnit]; (repeat' split) <;> simp
@[simp] theorem abortUnit_lpc (n : NestId) : (s.abortUnit n).lpc = s.lpc := by
  simp only [abortUnit]; (repeat' split) <;> simp
@[simp] theorem abortUnit_pcv (n : NestId) : (s.abortUnit n).pcv = s.pcv := by
  simp only [abortUnit]; (repeat' split) <;> simp
@[simp] theorem abortUnit_sent (n : NestId) : (s.abortUnit n).sent = s.sent := by
  simp only [abortUnit]; (repeat' split) <;> simp
@[simp] theorem abortUnit_choices (n : NestId) : (s.abortUnit n).choices = s.choices := by
  simp only [abortUnit]; (repeat' split) <;> simp

/-! ### What `countStep` leaves -/

@[simp] theorem countStep_ticks (n : NestId) (st : Step) (v : Verdict) : (s.countStep n st v).ticks = s.ticks := by
  simp only [countStep]; (repeat' split) <;> simp
@[simp] theorem countStep_watchQueue (n : NestId) (st : Step) (v : Verdict) :
    (s.countStep n st v).watchQueue = s.watchQueue := by
  simp only [countStep]; (repeat' split) <;> simp
@[simp] theorem countStep_factor (n : NestId) (st : Step) (v : Verdict) : (s.countStep n st v).factor = s.factor := by
  simp only [countStep]; (repeat' split) <;> simp
@[simp] theorem countStep_mask (n : NestId) (st : Step) (v : Verdict) : (s.countStep n st v).mask = s.mask := by
  simp only [countStep]; (repeat' split) <;> simp
@[simp] theorem countStep_firstFault (n : NestId) (st : Step) (v : Verdict) :
    (s.countStep n st v).firstFault = s.firstFault := by
  simp only [countStep]; (repeat' split) <;> simp
@[simp] theorem countStep_station (n : NestId) (st : Step) (v : Verdict) :
    (s.countStep n st v).station = s.station := by
  simp only [countStep]; (repeat' split) <;> simp
@[simp] theorem countStep_stopPressed (n : NestId) (st : Step) (v : Verdict) :
    (s.countStep n st v).stopPressed = s.stopPressed := by
  simp only [countStep]; (repeat' split) <;> simp
@[simp] theorem countStep_fxc (n : NestId) (st : Step) (v : Verdict) : (s.countStep n st v).fxc = s.fxc := by
  simp only [countStep]; (repeat' split) <;> simp
@[simp] theorem countStep_powerQueue (n : NestId) (st : Step) (v : Verdict) :
    (s.countStep n st v).powerQueue = s.powerQueue := by
  simp only [countStep]; (repeat' split) <;> simp
@[simp] theorem countStep_stu (n : NestId) (st : Step) (v : Verdict) : (s.countStep n st v).stu = s.stu := by
  simp only [countStep]; (repeat' split) <;> simp
@[simp] theorem countStep_buc (n : NestId) (st : Step) (v : Verdict) : (s.countStep n st v).buc = s.buc := by
  simp only [countStep]; (repeat' split) <;> simp
@[simp] theorem countStep_gmn (n : NestId) (st : Step) (v : Verdict) : (s.countStep n st v).gmn = s.gmn := by
  simp only [countStep]; (repeat' split) <;> simp
@[simp] theorem countStep_lpc (n : NestId) (st : Step) (v : Verdict) : (s.countStep n st v).lpc = s.lpc := by
  simp only [countStep]; (repeat' split) <;> simp
@[simp] theorem countStep_pcv (n : NestId) (st : Step) (v : Verdict) : (s.countStep n st v).pcv = s.pcv := by
  simp only [countStep]; (repeat' split) <;> simp
@[simp] theorem countStep_opc (n : NestId) (st : Step) (v : Verdict) : (s.countStep n st v).opc = s.opc := by
  simp only [countStep]; (repeat' split) <;> simp
@[simp] theorem countStep_sent (n : NestId) (st : Step) (v : Verdict) : (s.countStep n st v).sent = s.sent := by
  simp only [countStep]; (repeat' split) <;> simp
@[simp] theorem countStep_choices (n : NestId) (st : Step) (v : Verdict) :
    (s.countStep n st v).choices = s.choices := by
  simp only [countStep]; (repeat' split) <;> simp

/-! ### What `keepReport` leaves -/

@[simp] theorem keepReport_ticks (n : NestId) (r : Results) : (s.keepReport n r).ticks = s.ticks := by
  simp [keepReport]
@[simp] theorem keepReport_mem (n : NestId) (r : Results) : (s.keepReport n r).mem = s.mem := by
  simp [keepReport]
@[simp] theorem keepReport_watchQueue (n : NestId) (r : Results) : (s.keepReport n r).watchQueue = s.watchQueue := by
  simp [keepReport]
@[simp] theorem keepReport_factor (n : NestId) (r : Results) : (s.keepReport n r).factor = s.factor := by
  simp [keepReport]
@[simp] theorem keepReport_mask (n : NestId) (r : Results) : (s.keepReport n r).mask = s.mask := by
  simp [keepReport]
@[simp] theorem keepReport_firstFault (n : NestId) (r : Results) : (s.keepReport n r).firstFault = s.firstFault := by
  simp [keepReport]
@[simp] theorem keepReport_station (n : NestId) (r : Results) : (s.keepReport n r).station = s.station := by
  simp [keepReport]
@[simp] theorem keepReport_stopPressed (n : NestId) (r : Results) :
    (s.keepReport n r).stopPressed = s.stopPressed := by
  simp [keepReport]
@[simp] theorem keepReport_fxc (n : NestId) (r : Results) : (s.keepReport n r).fxc = s.fxc := by
  simp [keepReport]
@[simp] theorem keepReport_powerQueue (n : NestId) (r : Results) : (s.keepReport n r).powerQueue = s.powerQueue := by
  simp [keepReport]
@[simp] theorem keepReport_stu (n : NestId) (r : Results) : (s.keepReport n r).stu = s.stu := by
  simp [keepReport]
@[simp] theorem keepReport_buc (n : NestId) (r : Results) : (s.keepReport n r).buc = s.buc := by
  simp [keepReport]
@[simp] theorem keepReport_gmn (n : NestId) (r : Results) : (s.keepReport n r).gmn = s.gmn := by
  simp [keepReport]
@[simp] theorem keepReport_lpc (n : NestId) (r : Results) : (s.keepReport n r).lpc = s.lpc := by
  simp [keepReport]
@[simp] theorem keepReport_pcv (n : NestId) (r : Results) : (s.keepReport n r).pcv = s.pcv := by
  simp [keepReport]
@[simp] theorem keepReport_opc (n : NestId) (r : Results) : (s.keepReport n r).opc = s.opc := by
  simp [keepReport]
@[simp] theorem keepReport_sent (n : NestId) (r : Results) : (s.keepReport n r).sent = s.sent := by
  simp [keepReport]
@[simp] theorem keepReport_choices (n : NestId) (r : Results) : (s.keepReport n r).choices = s.choices := by
  simp [keepReport]

/-! ### What `sendOutcome` leaves -/

@[simp] theorem sendOutcome_ticks (n : NestId) (v : Verdict) (d : Detail) (r : Results) :
    (s.sendOutcome n v d r).ticks = s.ticks := by
  simp only [sendOutcome]; (repeat' split) <;> simp
@[simp] theorem sendOutcome_mem (n : NestId) (v : Verdict) (d : Detail) (r : Results) :
    (s.sendOutcome n v d r).mem = s.mem := by
  simp only [sendOutcome]; (repeat' split) <;> simp
@[simp] theorem sendOutcome_watchQueue (n : NestId) (v : Verdict) (d : Detail) (r : Results) :
    (s.sendOutcome n v d r).watchQueue = s.watchQueue := by
  simp only [sendOutcome]; (repeat' split) <;> simp
@[simp] theorem sendOutcome_factor (n : NestId) (v : Verdict) (d : Detail) (r : Results) :
    (s.sendOutcome n v d r).factor = s.factor := by
  simp only [sendOutcome]; (repeat' split) <;> simp
@[simp] theorem sendOutcome_mask (n : NestId) (v : Verdict) (d : Detail) (r : Results) :
    (s.sendOutcome n v d r).mask = s.mask := by
  simp only [sendOutcome]; (repeat' split) <;> simp
@[simp] theorem sendOutcome_firstFault (n : NestId) (v : Verdict) (d : Detail) (r : Results) :
    (s.sendOutcome n v d r).firstFault = s.firstFault := by
  simp only [sendOutcome]; (repeat' split) <;> simp
@[simp] theorem sendOutcome_station (n : NestId) (v : Verdict) (d : Detail) (r : Results) :
    (s.sendOutcome n v d r).station = s.station := by
  simp only [sendOutcome]; (repeat' split) <;> simp
@[simp] theorem sendOutcome_stopPressed (n : NestId) (v : Verdict) (d : Detail) (r : Results) :
    (s.sendOutcome n v d r).stopPressed = s.stopPressed := by
  simp only [sendOutcome]; (repeat' split) <;> simp
@[simp] theorem sendOutcome_fxc (n : NestId) (v : Verdict) (d : Detail) (r : Results) :
    (s.sendOutcome n v d r).fxc = s.fxc := by
  simp only [sendOutcome]; (repeat' split) <;> simp
@[simp] theorem sendOutcome_powerQueue (n : NestId) (v : Verdict) (d : Detail) (r : Results) :
    (s.sendOutcome n v d r).powerQueue = s.powerQueue := by
  simp only [sendOutcome]; (repeat' split) <;> simp
@[simp] theorem sendOutcome_stu (n : NestId) (v : Verdict) (d : Detail) (r : Results) :
    (s.sendOutcome n v d r).stu = s.stu := by
  simp only [sendOutcome]; (repeat' split) <;> simp
@[simp] theorem sendOutcome_buc (n : NestId) (v : Verdict) (d : Detail) (r : Results) :
    (s.sendOutcome n v d r).buc = s.buc := by
  simp only [sendOutcome]; (repeat' split) <;> simp
@[simp] theorem sendOutcome_gmn (n : NestId) (v : Verdict) (d : Detail) (r : Results) :
    (s.sendOutcome n v d r).gmn = s.gmn := by
  simp only [sendOutcome]; (repeat' split) <;> simp
@[simp] theorem sendOutcome_lpc (n : NestId) (v : Verdict) (d : Detail) (r : Results) :
    (s.sendOutcome n v d r).lpc = s.lpc := by
  simp only [sendOutcome]; (repeat' split) <;> simp
@[simp] theorem sendOutcome_pcv (n : NestId) (v : Verdict) (d : Detail) (r : Results) :
    (s.sendOutcome n v d r).pcv = s.pcv := by
  simp only [sendOutcome]; (repeat' split) <;> simp
@[simp] theorem sendOutcome_opc (n : NestId) (v : Verdict) (d : Detail) (r : Results) :
    (s.sendOutcome n v d r).opc = s.opc := by
  simp only [sendOutcome]; (repeat' split) <;> simp
@[simp] theorem sendOutcome_choices (n : NestId) (v : Verdict) (d : Detail) (r : Results) :
    (s.sendOutcome n v d r).choices = s.choices := by
  simp only [sendOutcome]; (repeat' split) <;> simp

/-! ### What `completeStep` leaves -/

@[simp] theorem completeStep_ticks (n : NestId) (k : Kind) (v : Verdict) (d : Detail) (r : Results) :
    (s.completeStep n k v d r).ticks = s.ticks := by
  simp only [completeStep]; (repeat' split) <;> simp
@[simp] theorem completeStep_mem (n : NestId) (k : Kind) (v : Verdict) (d : Detail) (r : Results) :
    (s.completeStep n k v d r).mem = s.mem := by
  simp only [completeStep]; (repeat' split) <;> simp
@[simp] theorem completeStep_watchQueue (n : NestId) (k : Kind) (v : Verdict) (d : Detail) (r : Results) :
    (s.completeStep n k v d r).watchQueue = s.watchQueue := by
  simp only [completeStep]; (repeat' split) <;> simp
@[simp] theorem completeStep_factor (n : NestId) (k : Kind) (v : Verdict) (d : Detail) (r : Results) :
    (s.completeStep n k v d r).factor = s.factor := by
  simp only [completeStep]; (repeat' split) <;> simp
@[simp] theorem completeStep_mask (n : NestId) (k : Kind) (v : Verdict) (d : Detail) (r : Results) :
    (s.completeStep n k v d r).mask = s.mask := by
  simp only [completeStep]; (repeat' split) <;> simp
@[simp] theorem completeStep_firstFault (n : NestId) (k : Kind) (v : Verdict) (d : Detail) (r : Results) :
    (s.completeStep n k v d r).firstFault = s.firstFault := by
  simp only [completeStep]; (repeat' split) <;> simp
@[simp] theorem completeStep_station (n : NestId) (k : Kind) (v : Verdict) (d : Detail) (r : Results) :
    (s.completeStep n k v d r).station = s.station := by
  simp only [completeStep]; (repeat' split) <;> simp
@[simp] theorem completeStep_stopPressed (n : NestId) (k : Kind) (v : Verdict) (d : Detail) (r : Results) :
    (s.completeStep n k v d r).stopPressed = s.stopPressed := by
  simp only [completeStep]; (repeat' split) <;> simp
@[simp] theorem completeStep_fxc (n : NestId) (k : Kind) (v : Verdict) (d : Detail) (r : Results) :
    (s.completeStep n k v d r).fxc = s.fxc := by
  simp only [completeStep]; (repeat' split) <;> simp
@[simp] theorem completeStep_powerQueue (n : NestId) (k : Kind) (v : Verdict) (d : Detail) (r : Results) :
    (s.completeStep n k v d r).powerQueue = s.powerQueue := by
  simp only [completeStep]; (repeat' split) <;> simp
@[simp] theorem completeStep_stu (n : NestId) (k : Kind) (v : Verdict) (d : Detail) (r : Results) :
    (s.completeStep n k v d r).stu = s.stu := by
  simp only [completeStep]; (repeat' split) <;> simp
@[simp] theorem completeStep_buc (n : NestId) (k : Kind) (v : Verdict) (d : Detail) (r : Results) :
    (s.completeStep n k v d r).buc = s.buc := by
  simp only [completeStep]; (repeat' split) <;> simp
@[simp] theorem completeStep_gmn (n : NestId) (k : Kind) (v : Verdict) (d : Detail) (r : Results) :
    (s.completeStep n k v d r).gmn = s.gmn := by
  simp only [completeStep]; (repeat' split) <;> simp
@[simp] theorem completeStep_lpc (n : NestId) (k : Kind) (v : Verdict) (d : Detail) (r : Results) :
    (s.completeStep n k v d r).lpc = s.lpc := by
  simp only [completeStep]; (repeat' split) <;> simp
@[simp] theorem completeStep_pcv (n : NestId) (k : Kind) (v : Verdict) (d : Detail) (r : Results) :
    (s.completeStep n k v d r).pcv = s.pcv := by
  simp only [completeStep]; (repeat' split) <;> simp
@[simp] theorem completeStep_opc (n : NestId) (k : Kind) (v : Verdict) (d : Detail) (r : Results) :
    (s.completeStep n k v d r).opc = s.opc := by
  simp only [completeStep]; (repeat' split) <;> simp
@[simp] theorem completeStep_choices (n : NestId) (k : Kind) (v : Verdict) (d : Detail) (r : Results) :
    (s.completeStep n k v d r).choices = s.choices := by
  simp only [completeStep]; (repeat' split) <;> simp

/-! ### What `holdEnd` leaves -/

@[simp] theorem holdEnd_ticks (n : NestId) : (s.holdEnd n).ticks = s.ticks := by
  simp only [holdEnd]; (repeat' split) <;> simp
@[simp] theorem holdEnd_watchQueue (n : NestId) : (s.holdEnd n).watchQueue = s.watchQueue := by
  simp only [holdEnd]; (repeat' split) <;> simp
@[simp] theorem holdEnd_factor (n : NestId) : (s.holdEnd n).factor = s.factor := by
  simp only [holdEnd]; (repeat' split) <;> simp
@[simp] theorem holdEnd_mask (n : NestId) : (s.holdEnd n).mask = s.mask := by
  simp only [holdEnd]; (repeat' split) <;> simp
@[simp] theorem holdEnd_firstFault (n : NestId) : (s.holdEnd n).firstFault = s.firstFault := by
  simp only [holdEnd]; (repeat' split) <;> simp
@[simp] theorem holdEnd_station (n : NestId) : (s.holdEnd n).station = s.station := by
  simp only [holdEnd]; (repeat' split) <;> simp
@[simp] theorem holdEnd_stopPressed (n : NestId) : (s.holdEnd n).stopPressed = s.stopPressed := by
  simp only [holdEnd]; (repeat' split) <;> simp
@[simp] theorem holdEnd_fxc (n : NestId) : (s.holdEnd n).fxc = s.fxc := by
  simp only [holdEnd]; (repeat' split) <;> simp
@[simp] theorem holdEnd_powerQueue (n : NestId) : (s.holdEnd n).powerQueue = s.powerQueue := by
  simp only [holdEnd]; (repeat' split) <;> simp
@[simp] theorem holdEnd_stu (n : NestId) : (s.holdEnd n).stu = s.stu := by
  simp only [holdEnd]; (repeat' split) <;> simp
@[simp] theorem holdEnd_buc (n : NestId) : (s.holdEnd n).buc = s.buc := by
  simp only [holdEnd]; (repeat' split) <;> simp
@[simp] theorem holdEnd_gmn (n : NestId) : (s.holdEnd n).gmn = s.gmn := by
  simp only [holdEnd]; (repeat' split) <;> simp
@[simp] theorem holdEnd_lpc (n : NestId) : (s.holdEnd n).lpc = s.lpc := by
  simp only [holdEnd]; (repeat' split) <;> simp
@[simp] theorem holdEnd_pcv (n : NestId) : (s.holdEnd n).pcv = s.pcv := by
  simp only [holdEnd]; (repeat' split) <;> simp
@[simp] theorem holdEnd_opc (n : NestId) : (s.holdEnd n).opc = s.opc := by
  simp only [holdEnd]; (repeat' split) <;> simp
@[simp] theorem holdEnd_sent (n : NestId) : (s.holdEnd n).sent = s.sent := by
  simp only [holdEnd]; (repeat' split) <;> simp
@[simp] theorem holdEnd_choices (n : NestId) : (s.holdEnd n).choices = s.choices := by
  simp only [holdEnd]; (repeat' split) <;> simp

/-! ### What `holdFor` leaves -/

@[simp] theorem holdFor_ticks (n : NestId) (why : HoldReason) : (s.holdFor n why).ticks = s.ticks := by
  simp [holdFor]
@[simp] theorem holdFor_watchQueue (n : NestId) (why : HoldReason) : (s.holdFor n why).watchQueue = s.watchQueue := by
  simp [holdFor]
@[simp] theorem holdFor_factor (n : NestId) (why : HoldReason) : (s.holdFor n why).factor = s.factor := by
  simp [holdFor]
@[simp] theorem holdFor_mask (n : NestId) (why : HoldReason) : (s.holdFor n why).mask = s.mask := by
  simp [holdFor]
@[simp] theorem holdFor_firstFault (n : NestId) (why : HoldReason) : (s.holdFor n why).firstFault = s.firstFault := by
  simp [holdFor]
@[simp] theorem holdFor_station (n : NestId) (why : HoldReason) : (s.holdFor n why).station = s.station := by
  simp [holdFor]
@[simp] theorem holdFor_stopPressed (n : NestId) (why : HoldReason) :
    (s.holdFor n why).stopPressed = s.stopPressed := by
  simp [holdFor]
@[simp] theorem holdFor_fxc (n : NestId) (why : HoldReason) : (s.holdFor n why).fxc = s.fxc := by
  simp [holdFor]
@[simp] theorem holdFor_powerQueue (n : NestId) (why : HoldReason) : (s.holdFor n why).powerQueue = s.powerQueue := by
  simp [holdFor]
@[simp] theorem holdFor_stu (n : NestId) (why : HoldReason) : (s.holdFor n why).stu = s.stu := by
  simp [holdFor]
@[simp] theorem holdFor_buc (n : NestId) (why : HoldReason) : (s.holdFor n why).buc = s.buc := by
  simp [holdFor]
@[simp] theorem holdFor_gmn (n : NestId) (why : HoldReason) : (s.holdFor n why).gmn = s.gmn := by
  simp [holdFor]
@[simp] theorem holdFor_lpc (n : NestId) (why : HoldReason) : (s.holdFor n why).lpc = s.lpc := by
  simp [holdFor]
@[simp] theorem holdFor_pcv (n : NestId) (why : HoldReason) : (s.holdFor n why).pcv = s.pcv := by
  simp [holdFor]
@[simp] theorem holdFor_opc (n : NestId) (why : HoldReason) : (s.holdFor n why).opc = s.opc := by
  simp [holdFor]
@[simp] theorem holdFor_sent (n : NestId) (why : HoldReason) : (s.holdFor n why).sent = s.sent := by
  simp [holdFor]
@[simp] theorem holdFor_choices (n : NestId) (why : HoldReason) : (s.holdFor n why).choices = s.choices := by
  simp [holdFor]

/-! ### What `publish` leaves -/

@[simp] theorem publish_ticks (n : NestId) (new : FixtureState) : (s.publish n new).ticks = s.ticks := by
  simp [publish]
@[simp] theorem publish_watchQueue (n : NestId) (new : FixtureState) :
    (s.publish n new).watchQueue = s.watchQueue := by
  simp [publish]
@[simp] theorem publish_factor (n : NestId) (new : FixtureState) : (s.publish n new).factor = s.factor := by
  simp [publish]
@[simp] theorem publish_mask (n : NestId) (new : FixtureState) : (s.publish n new).mask = s.mask := by
  simp [publish]
@[simp] theorem publish_firstFault (n : NestId) (new : FixtureState) :
    (s.publish n new).firstFault = s.firstFault := by
  simp [publish]
@[simp] theorem publish_station (n : NestId) (new : FixtureState) : (s.publish n new).station = s.station := by
  simp [publish]
@[simp] theorem publish_stopPressed (n : NestId) (new : FixtureState) :
    (s.publish n new).stopPressed = s.stopPressed := by
  simp [publish]
@[simp] theorem publish_nsq (n : NestId) (new : FixtureState) : (s.publish n new).nsq = s.nsq := by
  simp [publish]
@[simp] theorem publish_powerQueue (n : NestId) (new : FixtureState) :
    (s.publish n new).powerQueue = s.powerQueue := by
  simp [publish]
@[simp] theorem publish_stu (n : NestId) (new : FixtureState) : (s.publish n new).stu = s.stu := by
  simp [publish]
@[simp] theorem publish_buc (n : NestId) (new : FixtureState) : (s.publish n new).buc = s.buc := by
  simp [publish]
@[simp] theorem publish_gmn (n : NestId) (new : FixtureState) : (s.publish n new).gmn = s.gmn := by
  simp [publish]
@[simp] theorem publish_lpc (n : NestId) (new : FixtureState) : (s.publish n new).lpc = s.lpc := by
  simp [publish]
@[simp] theorem publish_pcv (n : NestId) (new : FixtureState) : (s.publish n new).pcv = s.pcv := by
  simp [publish]
@[simp] theorem publish_opc (n : NestId) (new : FixtureState) : (s.publish n new).opc = s.opc := by
  simp [publish]
@[simp] theorem publish_choices (n : NestId) (new : FixtureState) : (s.publish n new).choices = s.choices := by
  simp [publish]

/-! ### Timers and messages -/

@[simp] theorem reached_iff (due : Nat) : s.reached due = true ↔ due ≤ s.now := by simp [reached]

@[simp] theorem expired_none : s.expired none = false := rfl

/-- A timer's expiry is taken when the timer runs and is due (R25, R32; log entry 10). -/
theorem expired_iff (timer : Option Nat) : s.expired timer = true ↔ ∃ due ∈ timer, due ≤ s.now := by
  cases timer <;> simp [expired]

/-- A timer that starts now for `ms` milliseconds is not due, unless `ms` is 0. -/
theorem expired_dueInMs {ms : Nat} (h : ms ≠ 0) : s.expired (some (s.dueInMs ms)) = false := by
  simp only [expired, Option.any_some, reached, dueInMs, decide_eq_false_iff_not]
  omega

/-! ### What the shared operations do -/

/-- A nest fault recorded (R22): NEST_FAULT's content. -/
theorem recordFault_nsq (n : NestId) (kind : FaultKind) :
    (s.recordFault n kind).nsq =
      s.nsq.modify n fun q => { q with fault := kind, faultSeq := (s.nsq.get n).sequence } := by
  simp only [recordFault]; split <;> simp

/-- A fault offered to a VALID record leaves everything as it was (R23). -/
theorem offerFault_valid {f : FirstFault} (source : Fin 9) (kind : FaultKind) (seq : Option W16)
    (h : s.firstFault = some f) : s.offerFault source kind seq = s := by
  simp [offerFault, h]

/-- A fault offered to an invalid record is captured (R23). -/
theorem offerFault_invalid (source : Fin 9) (kind : FaultKind) (seq : Option W16) (h : s.firstFault = none) :
    (s.offerFault source kind seq).firstFault = some ⟨source, kind, seq, s.timebase⟩ := by
  simp [offerFault, h]

/-- A message arrives late where the oldest on its way, of those that arrive so, is late (log entry 12). -/
theorem arrivesLate_iff (m : Notice) : s.arrivesLate m = true ↔ ∃ a b, s.sent = a ++ .late m :: b ∧ m ∉ a := by
  simp only [arrivesLate, decide_eq_true_eq, List.find?_eq_some_iff_append]
  constructor
  · rintro ⟨-, a, b, h, ha⟩
    exact ⟨a, b, h, fun hm => by simpa using ha m hm⟩
  · rintro ⟨a, b, h, ha⟩
    rw [h]
    clear h
    induction a with
    | nil => exact ⟨by simp, [], b, rfl, by simp⟩
    | cons x a ih =>
      obtain ⟨h1, c, d, h2, h3⟩ := ih (fun h => ha (List.mem_cons_of_mem _ h))
      by_cases hx : x = .late m
      · exact ⟨h1, [], a ++ .late m :: b, by simp [hx], by simp⟩
      · refine ⟨h1, x :: c, d, by simp [h2], fun y hy => ?_⟩
        rcases List.mem_cons.1 hy with rfl | hy
        · have : y ≠ m := fun h => ha (by simp [h])
          simp [this, hx]
        · exact h3 y hy

/-- A message with none like it on its way, or none of them late, does not arrive late. -/
theorem arrivesLate_of_not_mem {m : Notice} (h : .late m ∉ s.sent) : s.arrivesLate m = false := by
  rw [Bool.eq_false_iff, Ne, arrivesLate_iff]
  rintro ⟨a, b, e, -⟩
  exact h (by simp [e])

/-- A late message that arrives leaves the list, and nothing else changes (R25, R28, R179, R187). -/
theorem receive_late {m : Notice} (f : Part → Part) (h : s.arrivesLate m = true) : s.receive m f = s.took (.late m) := by
  simp [receive, h]

/-- Any other message that arrives leaves the list and is taken. -/
theorem receive_taken {m : Notice} (f : Part → Part) (h : s.arrivesLate m = false) : s.receive m f = f (s.took m) := by
  simp [receive, h]

/-- Once the messages of ended work are late, none of them is left that would be taken (R25, R28, R187). -/
theorem not_mem_markLate {ended : Notice → Bool} {m : Notice} (h : ended m = true) (hm : ∀ x, m ≠ .late x) :
    m ∉ (s.markLate ended).sent := by
  simp only [markLate_sent, List.mem_map, not_exists, not_and]
  intro x _ e
  split at e
  · exact hm x e.symm
  · exact absurd (e ▸ h) (by assumption)

/-- Station STOP stands against a nest while it is latched, and while its notice is on its way (R72; log entry 19). -/
theorem underStop_iff (n : NestId) : s.underStop n = true ↔ s.station = .stopped ∨ .stationStop n ∈ s.sent := by
  simp [underStop]

/-- A step that has been handed over is not kept back. -/
theorem keptBack_handed {n : NestId} (k : Kind) (h : (s.nsq.get n).unhanded = false) : s.keptBack n k = false := by
  simp [keptBack, h]

/-- Only a fixture step or a PROMPT can be kept back (R72, R189). -/
theorem keptBack_other {k : Kind} (n : NestId) (h : k.barredByStop = false) : s.keptBack n k = false := by
  simp [keptBack, h]

/-- The outcome of a step of the kind awaited: its results kept, the message sent (R28). -/
theorem completeStep_running {n : NestId} {st : Step} {k : Kind} (v : Verdict) (d : Detail) (r : Results)
    (hs : (s.nsq.get n).step = some st) (hk : st.kind = some k) (hb : s.keptBack n k = false) :
    s.completeStep n k v d r = (s.keepReport n r).send (.ownerOutcome ⟨n, st.sequence, v, d, r⟩) := by
  simp [completeStep, executing, sendOutcome, Step.isKind, hs, hk, hb]

/-- A step that has not been handed over is not completed (R72, R189). -/
theorem completeStep_keptBack {n : NestId} {k : Kind} (v : Verdict) (d : Detail) (r : Results)
    (h : s.keptBack n k = true) : s.completeStep n k v d r = s := by
  simp [completeStep, h]

/-- Without a step of the kind awaited nothing happens. -/
theorem completeStep_other {n : NestId} {k : Kind} (v : Verdict) (d : Detail) (r : Results)
    (h : s.executing n k = false) : s.completeStep n k v d r = s := by
  simp [completeStep, h]

/-- The end of a hold (R27): a HELD nest is RUNNING with hold reason NONE, any other nest as it was. -/
theorem holdEnd_nsq (n : NestId) :
    (s.holdEnd n).nsq =
      if (s.nsq.get n).state = .held then s.nsq.modify n fun q => { q with state := .running, hold := .none }
      else s.nsq := by
  unfold holdEnd; split <;> simp

/-- A hold (R26). -/
@[simp] theorem holdFor_nsq (n : NestId) (why : HoldReason) :
    (s.holdFor n why).nsq = s.nsq.modify n fun q => { q with state := .held, hold := why } := by
  simp [holdFor]

/-- A publication sets the fixture state and nothing else of the fixture (R54). -/
@[simp] theorem publish_fxc (n : NestId) (new : FixtureState) :
    (s.publish n new).fxc = s.fxc.modify n fun f => { f with state := new } := by
  simp [publish]

/-- A publication sends no message: the other blocks take it within the event that makes it (log entry 12). -/
@[simp] theorem publish_sent (n : NestId) (new : FixtureState) : (s.publish n new).sent = s.sent := by
  simp [publish]

@[simp] theorem keepReport_nsq (n : NestId) (r : Results) :
    (s.keepReport n r).nsq = s.nsq.modify n fun q => { q with report := some r } := rfl

/-! ### NEST_STATE tells the states apart -/

/-- The fixture field of NEST_STATE (NEST_STATE table). -/
theorem nestStateWord_fixture (n : NestId) : (s.nestStateWord n).extractLsb' 4 3 =
    (fixtureCode (s.fxc.get n).state).setWidth 3 := by
  simp only [nestStateWord]
  cases (s.nsq.get n).state <;> cases (s.fxc.get n).state <;> cases (s.nsq.get n).hold <;>
    cases (s.nsq.get n).skipping <;> cases (s.buc.get n).mute <;> rfl

/-- The sequencer field of NEST_STATE (NEST_STATE table). -/
theorem nestStateWord_sequencer (s : Part) (n : NestId) : (s.nestStateWord n).extractLsb' 0 3 =
    (seqStateCode (s.nsq.get n).state).setWidth 3 := by
  simp only [nestStateWord]
  cases (s.nsq.get n).state <;> cases (s.fxc.get n).state <;> cases (s.nsq.get n).hold <;>
    cases (s.nsq.get n).skipping <;> cases (s.buc.get n).mute <;> rfl

/-- The end of a hold makes the nest RUNNING and writes NEST_STATE (R27). -/
theorem holdEnd_held {s : Part} {n : NestId} (h : (s.nsq.get n).state = .held) :
    let t := s.modNsq n fun q => { q with state := .running, hold := .none }
    s.holdEnd n = t.putNest n 7 (t.nestStateWord n) := by
  have hne : (s.modNsq n fun q => { q with state := .running, hold := .none }).nestStateWord n ≠ s.nestStateWord n := by
    intro e
    have := congrArg (·.extractLsb' 0 3) e
    simp only [nestStateWord_sequencer, modNsq_nsq, Bank.get_modify_same, h] at this
    revert this; decide
  simp [holdEnd, h, track, hne]

/-- A nest that is not HELD is as it was (R27). -/
theorem holdEnd_other {s : Part} {n : NestId} (h : (s.nsq.get n).state ≠ .held) : s.holdEnd n = s := by
  simp [holdEnd, h]

end Sys2Proof.Machine.Part
end

