-- ==== Sys2Proof/Laws/Claims.lean ====
section
/-! SUPPORT. Lemmas about the terms that the claims are stated in. -/

namespace Sys2Proof.Machine

theorem Bank.AgreeBut.refl {k : Nat} {α : Type} (i : Fin k) (a : Bank k α) : Bank.AgreeBut i a a := fun _ _ => rfl

theorem Bank.AgreeBut.modify {k : Nat} {α : Type} (i : Fin k) (a : Bank k α) (f : α → α) :
    Bank.AgreeBut i a (a.modify i f) := fun _ h => (Bank.get_modify_other a f (Ne.symm h)).symm

theorem Bank.AgreeBut.put {k : Nat} {α : Type} (i : Fin k) (a : Bank k α) (x : α) : Bank.AgreeBut i a (a.put i x) :=
  fun _ h => (Bank.get_put_other a x (Ne.symm h)).symm

/-- A step of another kind, or none, or one not handed over: the completion of kind `k` changes nothing. With a step of
kind `k` in execution and handed over, the owner keeps the results and sends the outcome (R28, R45, R72). -/
theorem completeStep_cases (n : NestId) (k : Kind) (v : Verdict) (d : Detail) (r : Results) (t : Part) :
    (t.completeStep n k v d r = t ∧
        ∀ st, (t.nsq.get n).step = some st → st.kind = some k → t.keptBack n k = true) ∨
      ∃ st, (t.nsq.get n).step = some st ∧ st.kind = some k ∧ t.keptBack n k = false ∧
        t.completeStep n k v d r =
          { t with
            nsq := t.nsq.put n { t.nsq.get n with report := some r }
            sent := t.sent ++ [.ownerOutcome ⟨n, st.sequence, v, d, r⟩] } := by
  unfold Part.completeStep Part.executing
  cases h : (t.nsq.get n).step with
  | none => left; simp
  | some st =>
    by_cases hk : st.kind = some k
    · cases hb : t.keptBack n k with
      | true => left; simp
      | false =>
        exact .inr ⟨st, rfl, hk, rfl, by
          simp [Step.isKind, hk, Part.sendOutcome, h, Part.keepReport, Part.modNsq, Part.send, Bank.modify]⟩
    · left; simp [Step.isKind, hk]

/-- What a completion does, in the terms of the claims, on a part that has sent `before` since `s` and whose sequencers
are as they were in `s`. -/
theorem completeStep_completes (s t : Part) (n : NestId) (k : Kind) (v : Verdict) (d : Detail) (r : Results)
    (before : List Notice) (hn : t.nsq = s.nsq) (hs : t.sent = s.sent ++ before) :
    s.Completes n k v d r before [] (t.completeStep n k v d r) ∧ s.SequencerKept n (t.completeStep n k v d r) ∧
      Bank.AgreeBut n s.nsq (t.completeStep n k v d r).nsq ∧
      t.completeStep n k v d r =
        { t with nsq := (t.completeStep n k v d r).nsq, sent := (t.completeStep n k v d r).sent } := by
  have hkb : t.keptBack n k = s.keptBack n k := by simp [Part.keptBack, hn]
  rcases completeStep_cases n k v d r t with ⟨h, h2⟩ | ⟨st, h1, h2, hb, h3⟩
  · rw [hn, hkb] at h2
    rw [h]
    refine ⟨⟨⟨fun st h hk hf => ?_, fun _ => by simp [hs]⟩, fun st h hk hf => ?_, fun _ => by rw [hn]⟩, ?_, ?_, rfl⟩
    · simp [h2 st h hk] at hf
    · simp [h2 st h hk] at hf
    · simp [Part.SequencerKept, hn]
    · rw [hn]; exact Bank.AgreeBut.refl _ _
  · rw [hn] at h1
    rw [hkb] at hb
    rw [h3]
    refine ⟨⟨⟨fun st' h _ _ => ?_, fun h => ?_⟩, fun _ _ _ _ => by simp, fun h => ?_⟩, ?_, ?_, rfl⟩
    · rw [h1] at h; cases h; simp [hs]
    · simp [h st h1 h2] at hb
    · simp [h st h1 h2] at hb
    · simp [Part.SequencerKept, hn]
    · rw [hn]; exact Bank.AgreeBut.put _ _ _

/-! ### Outcomes sent before a notice -/

/-- With no step in execution no outcome is taken first. -/
theorem takeEarlier_idle {s : Part} {n : NestId} (messages : List Notice) (h : (s.nsq.get n).step = none) :
    s.takeEarlier n messages = s := by
  have : s.outcomeAmong n messages = none := by
    simp only [Part.outcomeAmong, List.findSome?_eq_none_iff]
    intro m _
    cases m <;> simp [Nsq.sequence, h]
  simp [Part.takeEarlier, this]

/-- With no outcome of the step in execution among the messages none is taken first (R44, R48). -/
theorem takeEarlier_uncompleted {s : Part} {n : NestId} {st : Step} {messages : List Notice}
    (hs : (s.nsq.get n).step = some st) (h : Uncompleted messages n st) : s.takeEarlier n messages = s := by
  have : s.outcomeAmong n messages = none := by
    simp only [Part.outcomeAmong, List.findSome?_eq_none_iff]
    intro m hm
    cases m with
    | ownerOutcome o =>
      simp only [Nsq.sequence, hs, Option.map_some, Option.some.injEq, ite_eq_right_iff, reduceCtorEq, imp_false, not_and]
      exact fun hn e => h o hm hn e.symm
    | _ => rfl
  simp [Part.takeEarlier, this]

/-- The one outcome of the step in execution among the messages is taken first (R35, R44, R48). -/
theorem takeEarlier_completed {s : Part} {n : NestId} {st : Step} {messages : List Notice} {o : OwnerOutcome}
    (hs : (s.nsq.get n).step = some st) (h : Completed messages n st o) :
    s.takeEarlier n messages = s.takeOutcome o := by
  obtain ⟨hm, hn, hq, huniq⟩ := h
  cases hf : s.outcomeAmong n messages with
  | none =>
    have := List.findSome?_eq_none_iff.1 hf _ hm
    simp [Nsq.sequence, hs, hn, hq] at this
  | some x =>
    obtain ⟨m, hmem, hx⟩ := List.exists_of_findSome?_eq_some hf
    cases m with
    | ownerOutcome y =>
      simp only [Nsq.sequence, hs, Option.map_some, Option.some.injEq, Option.ite_none_right_eq_some] at hx
      obtain ⟨⟨h1, h2⟩, rfl⟩ := hx
      rw [huniq y hmem h1 h2.symm] at *
      simp [Part.takeEarlier, hf]
    | _ => simp at hx

/-- A message is late, in the terms of the claims, where it arrives late. -/
theorem late_iff (s : Part) (m : Notice) : s.Late m ↔ s.arrivesLate m = true := (Part.arrivesLate_iff s m).symm

/-- An outcome taken as the oldest message is taken, whatever else is on its way. -/
theorem receive_outcomeFirst (s : Part) (o : OwnerOutcome) (f : Part → Part) :
    (s.outcomeFirst o).receive (.ownerOutcome o) f = f s := by
  rw [Part.receive_taken]
  · simp [Part.outcomeFirst, Part.took]
  · simp [Part.arrivesLate, Part.outcomeFirst]

/-! ### Retirement -/

/-- A retirement leaves every outcome of the nest that is still on its way late, and no other message changed (R28). -/
theorem retire_sent {s : Part} {n : NestId} {st : Step} (v : Verdict) (d : Detail) (r : Results)
    (h : (s.nsq.get n).step = some st) : (s.retire n v d r).sent = outcomesLate n s.sent := by
  have e : (s.retire n v d r).sent = s.sent.map fun m => if m.isOutcomeOf n then .late m else m := by
    simp only [Part.retire, h]
    split <;> simp [Part.forgetStep, Part.setSkipping, Part.writeFinal, Part.putSlot]
  rw [e, outcomesLate]
  refine List.map_congr_left fun m _ => ?_
  cases m <;> simp [Notice.isOutcomeOf]

/-- The retirement of a nest with no step in execution changes nothing. -/
theorem retire_idle {s : Part} {n : NestId} (v : Verdict) (d : Detail) (r : Results)
    (h : (s.nsq.get n).step = none) : s.retire n v d r = s := by
  simp [Part.retire, h]

/-- No outcome of the nest is left after a retirement that would end a later step of it (R28). -/
theorem not_mem_outcomesLate {n : NestId} {o : OwnerOutcome} (messages : List Notice) (h : o.nest = n) :
    .ownerOutcome o ∉ outcomesLate n messages := by
  simp only [outcomesLate, List.mem_map, not_exists, not_and]
  intro m _ e
  cases m with
  | ownerOutcome x =>
    simp only at e
    split at e
    · cases e
    · cases e; contradiction
  | _ => cases e

/-! ### The panel link -/

/-- All that the end of a hold does (R27), as the claims state it. -/
theorem holdEnd_ends (s : Part) (n : NestId) :
    ((s.nsq.get n).state = .held →
        (s.holdEnd n).nsq.get n = { s.nsq.get n with state := .running, hold := .none } ∧
          (s.holdEnd n).word (nestAt n 7) = (s.holdEnd n).nestStateWord n) ∧
      ((s.nsq.get n).state ≠ .held → (s.holdEnd n).nsq.get n = s.nsq.get n ∧ (s.holdEnd n).mem = s.mem) ∧
      Bank.AgreeBut n s.nsq (s.holdEnd n).nsq ∧ s.StoresOnly [nestAt n 7] (s.holdEnd n) ∧
      s.holdEnd n = { s with nsq := (s.holdEnd n).nsq, mem := (s.holdEnd n).mem } := by
  by_cases h : (s.nsq.get n).state = .held
  · rw [Part.holdEnd_held h]
    refine ⟨fun _ => ⟨by simp, by simp⟩, fun g => absurd h g, ?_, ?_, rfl⟩
    · simpa using Bank.AgreeBut.modify n s.nsq _
    · intro a ha
      simpa using Memory.byte_setWord_other _ _ (by simpa using ha)
  · rw [Part.holdEnd_other h]
    exact ⟨fun g => absurd g h, fun _ => ⟨rfl, rfl⟩, Bank.AgreeBut.refl _ _, fun _ _ => rfl, rfl⟩

/-- The text of a QUEUED head on an idle link, as the claims state it (R174, R183). -/
theorem startText_serves {s : Part} {x : PromptEntry} {q : List PromptEntry} (hl : s.opc.link = .idle)
    (hp : s.opc.pollPending = false) (hq : s.opc.prompts = x :: q) (hx : x.state = .queued) :
    s.ServesLink (s.startText x) := by
  refine ⟨fun h => absurd hl h, fun _ h => by simp [hp] at h, fun _ _ => ⟨fun y t hy _ => ?_, fun h => ?_⟩⟩
  · obtain ⟨rfl, rfl⟩ : x = y ∧ q = t := by simpa [hq] using hy
    let o : Panel := { s.opc with
      link := .text, shift := some (0x80 + BitVec.ofNat 8 x.nest.val)
      buffered := some (s.mem.byte (0x25000 + x.text.toNat * 64)), rest := [], cursor := some ⟨x.nest, x.text, 1⟩
      index := 0, cut := false, byteTimer := some (s.now + 32), clearPending := false
      prompts := { x with state := .sending } :: q }
    have e : s.startText x = Part.holdEnd x.nest { s with opc := o } := by
      simp [Part.startText, Part.startTransfer, Part.loadText, Part.modHead, Part.modOpc, hq, showByte, textByteAt,
        Part.dueIn, Config.byteUs, o]
    obtain ⟨h1, h2, h3, h4, h5⟩ := holdEnd_ends { s with opc := o } x.nest
    rw [← e] at h1 h2 h3 h4 h5
    have h6 : (s.startText x).opc = o := by rw [e]; simp
    exact ⟨h6, h1, h2, h3, h4, h5.trans (by rw [h6])⟩
  · exact absurd hx (h x (by simp [hq]))

/-- What the link starts (R175), as the claims state it. -/
theorem linkStart_serves (s : Part) : s.ServesLink s.linkStart := by
  by_cases hl : s.opc.link = .idle
  swap
  · exact ⟨fun _ => by simp [Part.linkStart, hl], fun h => absurd h hl, fun h => absurd h hl⟩
  by_cases hp : s.opc.pollPending = true
  · refine ⟨fun h => absurd hl h, fun _ _ => ?_, fun _ h => by simp [hp] at h⟩
    simp [Part.linkStart, hl, hp, Panel.pollBytes, Part.startTransfer, Part.modOpc, Part.dueIn, Config.byteUs]
  replace hp : s.opc.pollPending = false := by simpa using hp
  by_cases hq : ∃ x q, s.opc.prompts = x :: q ∧ x.state = .queued
  · obtain ⟨x, q, hq, hx⟩ := hq
    have e : s.linkStart = s.startText x := by simp [Part.linkStart, hl, hp, Part.headEntry, hq, hx]
    exact e ▸ startText_serves hl hp hq hx
  · refine ⟨fun h => absurd hl h, fun _ h => by simp [hp] at h,
      fun _ _ => ⟨fun x q h hx => absurd ⟨x, q, h, hx⟩ hq, fun h => ?_⟩⟩
    have e : s.linkStart = if s.opc.clearPending then
        (s.startTransfer .clear clearByte []).modOpc fun o => { o with clearPending := false } else s := by
      cases g : s.opc.prompts with
      | nil => simp [Part.linkStart, hl, hp, Part.headEntry, g]
      | cons x q =>
        have hx : x.state ≠ .queued := fun hx => hq ⟨x, q, g, hx⟩
        simp [Part.linkStart, hl, hp, Part.headEntry, g, hx]
    rw [e]
    refine ⟨fun hc => ?_, fun hc => by simp [hc]⟩
    simp [hc, Part.startTransfer, Part.modOpc, Part.dueIn, Config.byteUs, clearByte]

/-! ### Commands run one after the other -/

@[simp] theorem runs_nil (s : Part) : s.runs [] = s := rfl

/-- A command whose meaning is `f` on the part, run first. -/
theorem runs_cons {c : Instr} {f : Part → Part} (h : ∀ s, exec c s = s.act f) (cs : List Instr) (s : Part) :
    s.runs (c :: cs) = (f s).runs cs := by
  simp only [Part.runs, List.foldl_cons, h, State.act]

theorem runs_append (a b : List Instr) (s : Part) : s.runs (a ++ b) = (s.runs a).runs b := List.foldl_append ..

/-- A nest's departure from POWERING or POWERED, as the claims state it (R54). -/
theorem runs_leaving (n : NestId) (s : Part) : s.runs (leaving n) = s.leavePowered n := by
  unfold leaving
  rw [runs_cons (f := (·.enforceIdle n)) (fun _ => rfl), runs_cons (f := (·.stopBus n)) (fun _ => rfl),
    runs_cons (f := (·.freezeMonitor n)) (fun _ => rfl), runs_cons (f := (·.lpcDeparts n)) (fun _ => rfl),
    runs_cons (f := (·.stopMeasurement n)) (fun _ => rfl), runs_nil, Part.leavePowered]

/-- A nest's entry into POWERED, as the claims state it (R54). -/
theorem runs_entering (n : NestId) (s : Part) : s.runs (entering n) = s.enterPowered n := by
  unfold entering
  rw [runs_cons (f := (·.startBus n)) (fun _ => rfl), runs_cons (f := (·.startMonitor n)) (fun _ => rfl), runs_nil,
    Part.enterPowered]

/-- A fixture changed and shown, as the claims state it (R4). -/
theorem track_modFxc (n : NestId) (f : Fixture → Fixture) (s : Part) :
    s.track n (fun s => s.modFxc n f) = s.showing n (f (s.fxc.get n)) := by
  simp only [Part.track, Part.showing, Part.modFxc, Bank.modify, Part.putNest, Part.put]
  rfl

end Sys2Proof.Machine
end

