-- ==== Sys2Proof/Tests/Slice0.lean ====
section
/-! SUPPORT. Tests of the model: the checks of `Instr.wf`, the worked examples of the data sheet, and for each statement
that has hypotheses a theorem `witness_<Name>` with a state and operands that meet them. Every expected value comes from
the data sheet's text. -/

namespace Sys2Proof.Tests

open Sys2Proof.Machine

set_option Elab.async false

/-! ### Builders -/

/-- The part after reset, over an empty exchange memory. -/
def quiet : Part := { State.reset.part with mem := [] }

/-- The part after a command, where it answers a next state. -/
def after (c : Instr) (p : Part) : Part :=
  match exec c ⟨p, []⟩ with
  | .next t => t.part
  | _ => p

/-- A part `us` microseconds after its reset. -/
def later (us : Nat) (p : Part) : Part := { p with ticks := 10 * us }

/-- A step in slot `slot` with a sequence, a kind code, flags and the words from w2 on. -/
def stepAt (slot seq kind flags : Nat) (words : List W32) : Step :=
  ⟨BitVec.ofNat 16 slot, Bank.build fun k =>
    if k = 0 then wordOf (seq + kind * 65536 + flags * 16777216)
    else if k.val < 2 then 0 else words[k.val - 2]?.getD 0, 0⟩

/-- A nest with a step in execution beyond which nothing is posted. -/
def running (n : NestId) (state : SeqState) (st : Step) (p : Part) : Part :=
  p.modNsq n fun q =>
    { q with state := state, step := some st, limit := some st.sequence, retired := some (st.sequence - 1),
             deadline := some 30000000 }

/-- A nest in a sequencer state. -/
def seqIn (n : NestId) (state : SeqState) (p : Part) : Part := p.modNsq n fun q => { q with state := state }

/-- A nest in a fixture state, with its lid closed. -/
def fixtureIn (n : NestId) (state : FixtureState) (p : Part) : Part :=
  p.modFxc n fun f => { f with state := state, switchClosed := state.supplied, lidClosed := true }

/-- A part whose watch queue holds one event. -/
def watching (w : Watched) (p : Part) : Part := { p with watchQueue := [w] }

/-- A power queue entry of a nest. -/
def entryOf (n : NestId) : PowerEntry := ⟨n, 1, 100, 0, 1000, 0⟩

/-- A prompt queue entry of a nest. -/
def promptOf (n : NestId) (state : PromptState) : PromptEntry :=
  { nest := n, sequence := 1, state := state, text := 12, timeoutS := 20, repeatLimit := 1, replayMask := 2,
    gapMs := 500, code := 0, repeats := 0, firstShown := none, answerTimer := some 20005080, marks := 0 }

/-- The part at rest: the link has nothing to start. -/
def restful : Part := quiet.modOpc fun o => { o with clearPending := false }

/-- The panel with a transfer in progress. -/
def linked (link : Link) (f : Panel → Panel) : Part :=
  quiet.modOpc fun o => f { o with link := link, shift := some 0, clearPending := false }

/-- A WAIT in the last slot of the pool. -/
def lastWait : Step := stepAt 2047 1 3 0 [10]

/-- Nest 7 POWERED. -/
def powered : Part := fixtureIn 7 .powered quiet

/-- The outcome of the step with sequence 1 of nest 7. -/
def outcomeOf : OwnerOutcome := ⟨7, 1, .pass, .none, .zero⟩

theorem uncompleted_empty {n : NestId} {st : Step} {l : List Notice} (h : l = []) : Uncompleted l n st := by
  intro o ho; simp [h] at ho

theorem completed_alone {n : NestId} {st : Step} {l : List Notice} {o : OwnerOutcome} (h : l = [.ownerOutcome o])
    (hn : o.nest = n) (hs : o.sequence = st.sequence) : Completed l n st o := by
  refine ⟨by simp [h], hn, hs, fun x hx _ _ => ?_⟩
  simpa [h] using hx

/-! ### Well-formed commands -/

theorem test_wf_control_reset_is_no_discarded_write : (Instr.registerWriteDiscarded .control 0xF 1).wf = false := by
  decide
theorem test_wf_control_other_code_is_discarded : (Instr.registerWriteDiscarded .control 0xF 3).wf = true := by decide
theorem test_wf_whole_mask_write_is_no_discarded_write : (Instr.registerWriteDiscarded .mask 0xF 0).wf = false := by
  decide
theorem test_wf_host_write_names_a_byte : (Instr.hostWrite 0 0 5).wf = false := by decide
theorem test_wf_owner_gives_no_skipped : (Instr.ownerOutcome ⟨0, 1, .skipped, .none, .zero⟩).wf = false := by decide
theorem test_wf_owner_pairs_detail : (Instr.ownerOutcome ⟨0, 1, .pass, .deviation, .zero⟩).wf = false := by decide
theorem test_wf_standard_identifier : (Instr.receptionEnd 0 (.data ⟨false, 0x800, 0, 0⟩)).wf = false := by decide
theorem test_wf_payload_within_length : (Instr.receptionEnd 0 (.data ⟨true, 0x800, 1, 0x100⟩)).wf = false := by decide
theorem test_no_word_spells_a_command : decodeTableWord 32 7 = none := by decide

/-! ### Chapter 9, worked cases -/

/-- Table 4 of worked case A. -/
def table4 : List TablePoint := [⟨0, 0⟩, ⟨1000, 120⟩, ⟨12000, 1620⟩, ⟨24000, 3240⟩]

/-- Table 7 of worked case D. -/
def table7 : List TablePoint := [⟨0, 0⟩, ⟨2000, -90⟩, ⟨6000, -450⟩]

theorem test_case_a_period : formPeriod 5000 11111 = 180002 ∧ effectiveInput 180002 11111 = 5000 := by decide
theorem test_case_b_clamp :
    formPeriod 50 11111 = 18000180 ∧ clampPeriod 18000180 = (16777216, true, false) ∧
      effectiveInput 16777216 11111 = 54 := by decide
theorem test_case_c_above : expectedPosition 30000 table4 = (3240, .above) := by decide
theorem test_cases_a_b_positions :
    expectedPosition 5000 table4 = (665, .none) ∧ expectedPosition 54 table4 = (6, .none) := by decide
theorem test_case_d_falling :
    expectedPosition 500 table7 = (-23, .none) ∧ expectedPosition 200 table7 = (-9, .none) := by decide
theorem test_case_d_repeated_x : tableValid [⟨0, 0⟩, ⟨0, -90⟩, ⟨6000, -450⟩] = false := by decide

/-! ### Chapter 7, worked examples -/

theorem test_frequency_example : halfUp 100003 4 = 25001 ∧ frequencyOf 25001 = 399984 := by decide
theorem test_width_example : halfUp 2401 2 = 1201 := by decide
theorem test_lamp_example :
    patternOf ((((Bank.fill 0).put 0 84000).put 2 41000).put 7 30000) 20000 = 0x0085 ∧
      (⟨true, 20000, 0x000F, 0x0005, 300, false, none, 0⟩ : LampWatch).mismatch 0x0084 = 0x0001 := by decide

/-! ### Chapter 8, worked example -/

theorem test_means_round_away_from_zero : meanCode 40966 4 = 10242 ∧ meanCode (-40966) 4 = -10242 := by decide
theorem test_scaled_values :
    scaleMean 10242 12 32768 = 5115 ∧ scaleMean 10101 0 32768 = 5051 ∧ scaleMean 5001 (-20) 65536 = 5021 ∧
      scaleMean 22001 0 16384 = 5500 := by decide
theorem test_sweep_orders : sweepOf 2 4 = [2, 3, 0, 1] ∧ sweepOf 5 2 = [5, 4] := by decide

/-! ### Chapter 6, worked example -/

/-- The gauge of the example before the event that takes it from index 5 to index 0. -/
def exampleGauge : Gauge := ⟨⟨.minus, .minus⟩, some 5, 5, false, 1, 0, 0⟩

theorem test_coil_skip :
    (exampleGauge.decode (some 0) 9).1 = ⟨⟨.minus, .minus⟩, some 0, 8, false, 2, 0, 9⟩ := by decide
theorem test_coil_ambiguous :
    ((exampleGauge.move 4).ambiguous, (exampleGauge.move 4).position) = (1, 5) := by decide
theorem test_coil_pause_keeps_the_phase : exampleGauge.decode none 9 = (exampleGauge, false) := by decide

/-! ### Chapter 10, worked example -/

theorem test_held_press_is_accepted_once :
    (Button.latched.sample true, Button.latched.sample false, Button.idle.sample true, Button.pending.sample true) =
      ((.latched, false), (.idle, false), (.pending, false), (.latched, true)) := by decide

/-! ### Chapters 1 to 5, one step each -/

/-- The chain of chapter 1's example on nest 3, as its POST event finds it. -/
def chainExample : Part :=
  watching (.post 3)
    ((((((quiet.putNest 3 0 40).putNest 3 1 502).put (slotAt 40 0) 0x000301F4).put (slotAt 40 1) 41).put (slotAt 40 2) 10))

theorem test_chain_example_accepts_500 :
    let q := (after (.postEvent 3) chainExample).nsq.get 3
    q.retired = some 499 ∧ q.limit = some 502 ∧ q.position = some 41 ∧ q.sequence = some 500 := by decide +kernel
theorem test_chain_example_breaks_at_505 :
    let p := after (.waitExpiry 3) (((quiet.put (slotAt 57 0) 0x000301F9).modNsq 3 fun q =>
      { q with state := .running, retired := some 500, limit := some 502, position := some 57
               step := some (stepAt 41 501 3 0 [10]), waitTimer := some 0 }))
    (p.nsq.get 3).state = .faulted ∧ p.word (nestAt 3 8) = 1 ∧ p.word (nestAt 3 4) = 501 := by decide +kernel
theorem test_power_example_grants_nest_6 :
    let p := after (.lidOpening 4)
      { fixtureIn 6 .contactOk (fixtureIn 4 .powering quiet) with powerQueue := [entryOf 6, entryOf 2] }
    (p.fxc.get 4).state = .discharging ∧ (p.fxc.get 6).state = .powering ∧ p.powerQueue = [entryOf 2] := by
  decide +kernel
theorem test_burst_example_third_pulse :
    (Channel.endActive 495005 ⟨⟨.count, false, 10000, 11111, 90001, 0, 3⟩, 10000, 10000, false,
      some ⟨.count, false, 90001, 45000, 450005, false⟩, none, some ⟨1, 2, 1, 90001, 10000⟩⟩).burst =
      some ⟨1, 3, 0, 90001, 10000⟩ := by decide
theorem test_staged_line_replaced :
    let p := (quiet.modSlot 2 3 fun f => { f with state := .running, stagedLines := some (4, 4) })
    ((p.stageLines 2 3 4 0).2, ((p.stageLines 2 3 4 0).1.slot 2 3).stagedLines) = (some true, some (4, 0)) := by
  decide +kernel

/-! ### Witnesses: the machine as a whole and chapter 1 -/

theorem witness_IdleStepTicksOrTakesTheReadyEvent :
    let sampled (t : Nat) := restful.modPcv fun c => { c with grant := some ⟨7, 1, 0, true, none, some t, 0, 0, false⟩ }
    let shifting (t : Nat) := linked .clear fun o => { o with byteTimer := some t }
    (∀ t ∈ [0, 1], (sampled t).ready = [] ∧ (sampled t).linkWaits = false ∧ (shifting t).ready = [] ∧
        (shifting t).linkWaits = false) ∧ (0 ≤ (sampled 0).now ∧ ¬ 1 ≤ (sampled 1).now) ∧
      restful.ready = [] ∧ restful.linkWaits = false ∧
      (restful.modFxc 7 fun f => { f with motionTimer := some 0 }).ready = [.motionTimerExpiry 7] := by decide +kernel

theorem witness_ResetMemoryWords :
    quiet.stopPressed = false ∧ 8 ∈ [8, 9, 10, 11, 12, 14, 15] ∧ 15 ∈ [8, 9, 10, 11, 12, 14, 15] ∧ 6 ∈ [6, 7] ∧
      2 ∈ [2, 3, 4, 5, 6, 7] ∧ 7 ∈ [2, 3, 4, 5, 6, 7] := by decide

theorem witness_ResetsClearTheBlocks :
    quiet.stopPressed = false ∧ (linked .text id).stopPressed = false ∧ (linked .text id).opc.link ≠ .idle ∧
      quiet.opc.link = .idle := by decide

theorem witness_StopPressedAtResetIsStationStop : { quiet with stopPressed := true }.stopPressed = true := by decide

theorem witness_DeviceResetKeepsThePool :
    let p := running 7 .running lastWait quiet
    (p.nsq.get 7).step = some lastWait ∧ lastWait.slot.toNat < Config.slotCount ∧
      (∀ m, m ≠ 7 → (p.nsq.get m).step = none) ∧ isResetWord (slotAt 2047 8) = false ∧ isResetWord (nestAt 7 3) = false ∧
      ∀ n, (quiet.nsq.get n).step = none := by decide +kernel

theorem witness_RegisterBlockWrites :
    discardedWrite .ident 0xF 0 = true ∧ discardedWrite .control 0xF 0 = true ∧ discardedWrite .control 0xF 3 = true ∧
      discardedWrite .control 0xE 1 = true ∧ discardedWrite .factor 7 1 = true ∧
      { quiet with station := .stopped }.station = .stopped ∧ quiet.stopPressed = false ∧ quiet.station = .run ∧
      { quiet with factor := 1, mask := 1 }.intreq = true := by decide

theorem watched_below (x : Watched) : watchedIndex x ≠ 0x203 := by
  cases x with
  | faultRelease => decide
  | post n => revert n; decide
  | abort n => revert n; decide

theorem witness_HostWritesAreWatched :
    (8 : BitVec 4) ≠ 0 ∧ watchedIndex (.abort 7) = (0x202 : W16).toNat ∧
      ∀ x : Watched, watchedIndex x ≠ (0x203 : W16).toNat := ⟨by decide, by decide, watched_below⟩

/-- A VALID first-fault record. -/
def recorded : Part := { quiet with firstFault := some ⟨8, .stationStop, none, 5⟩ }

theorem witness_FaultReleaseOpensTheRecord :
    (watching .faultRelease recorded).watchQueue = [.faultRelease] ∧ recorded.firstFault.isSome ∧
      quiet.firstFault = none := by decide

/-- A POST event of nest 7 with HEAD, POST, and sequence 1 of kind WAIT in the head's slot. -/
def chainAt (head post : W32) : Part :=
  watching (.post 7) ((((quiet.putNest 7 0 head).putNest 7 1 post).put (slotAt head.toNat 0) 0x00030001).put
    (slotAt head.toNat 2) 1)

theorem witness_ChainStartAcceptsTheHeadRecord :
    let p (kind flags : Nat) (post : W32) (words : List W32) (state : UnitState) : Part :=
      let st := stepAt 2047 1 kind flags words
      watching (.post 7) ((((((fixtureIn 7 .opened quiet).putNest 7 0 2047).putNest 7 1 post).put (slotAt 2047 0)
        (st.w 0)).put (slotAt 2047 2) (st.w 2)).modNsq 7 fun q => { q with unit := { q.unit with state := state } })
    let st (kind flags : Nat) (words : List W32) := (p kind flags 1 words .none).stepIn 2047
    let handed (kind : Nat) (k : Kind) (words : List W32) :=
      (((p kind 0 1 words .none).chainStarted 7 [] 1 1 (st kind 0 words)).handOff 7 k (st kind 0 words)).2
    (∀ post ∈ [1, 2048],
      let x := p 3 0 (wordOf post) [10] .none
      x.watchQueue = [.post 7] ∧ (x.nsq.get 7).state = .stopped ∧ x.station = .run ∧
        (x.word (nestAt 7 0)).toNat < 2048 ∧ (field (x.word (slotAt 2047 0)) 0 16 : W16) = 1 ∧
        (field (x.word (nestAt 7 1)) 0 16 : W16).toNat = post ∧ (x.nsq.get 7).skipping = false) ∧
      ((st 3 0 [10]).kind = some .wait ∧ (st 3 0 [10]).w 2 ≠ 0 ∧ (st 3 0 [0]).w 2 = 0 ∧ (st 3 0 [0]).always = false) ∧
      (st 0x99 0 []).kind = none ∧ (st 1 0 []).kind = some .unitBegin ∧ (st 2 0 []).kind = some .unitEnd ∧
      (((p 2 0 1 [] .opened).nsq.get 7).unit.state = .opened ∧ ((p 2 0 1 [] .none).nsq.get 7).unit.state ≠ .opened) ∧
      handed 0x10 .clamp [] = .started ∧ handed 0x14 .unclamp [] = .done .refused .badState .zero ∧
      (Kind.clamp ∉ [Kind.unitBegin, .unitEnd, .wait] ∧ (st 0x10 0 []).kind = some .clamp ∧
        Kind.clamp.barredByStop = true ∧ Kind.setLines.barredByStop = false ∧ .stationStop 7 ∉ (p 0x10 0 1 [] .none).sent ∧
        .stationStop 7 ∈ { p 0x10 0 1 [] .none with sent := [.stationStop 7] }.sent) := by decide +kernel

theorem witness_ChainStartHeldOrBroken :
    (∀ k ∈ [0, 2049],
      let p := chainAt 2047 (wordOf k)
      let d := seqDistance (field (p.word (slotAt 2047 0)) 0 16 - 1) (field (p.word (nestAt 7 1)) 0 16)
      p.watchQueue = [.post 7] ∧ (p.nsq.get 7).state = .stopped ∧ p.station = .run ∧ (p.nsq.get 7).step = none ∧
        (p.word (nestAt 7 0)).toNat < 2048 ∧ (d = 0 ∨ 2048 < d)) ∧
      2048 ≤ ((chainAt 2048 1).word (nestAt 7 0)).toNat := by decide +kernel

theorem witness_PostMovesTheLimitOrIsHeld :
    let p (state : SeqState) (post : W32) (slot : W16) : Part :=
      watching (.post 7) (((quiet.putNest 7 1 post).put (slotAt 2047 0) 0x0003000B).put (slotAt 2047 2) 1 |>.modNsq 7
        fun q => { q with state := state, retired := some 10, position := some slot })
    let d (post : W32) := seqDistance 10 (field ((p .held post 0).word (nestAt 7 1)) 0 16)
    let st := (p .waiting 11 2047).stepIn 2047
    ((p .held 11 0).watchQueue = [.post 7] ∧ ((p .held 11 0).nsq.get 7).state = .held ∧
        ((p .held 11 0).nsq.get 7).retired = some 10) ∧ (d 11 = 1 ∧ d 2058 = 2048 ∧ d 10 = 0 ∧ d 2059 = 2049) ∧
      (((p .waiting 11 2047).nsq.get 7).state = .waiting ∧ ((p .waiting 11 2047).nsq.get 7).position = some 2047 ∧
        st.sequence = 11 ∧ st.kind = some .wait ∧ st.w 2 ≠ 0 ∧ ((p .waiting 11 2047).nsq.get 7).skipping = false) ∧
      (2048 ≤ (2048 : W16).toNat ∧ ((p .waiting 11 2048).nsq.get 7).position = some 2048 ∧
        ((p .waiting 11 0).stepIn 0).sequence ≠ 11 ∧ ((p .waiting 11 0).nsq.get 7).step = none) ∧
      (quiet.nsq.get 7).retired = none ∧ { quiet with station := .stopped }.station = .stopped ∧
      ((p .faulted 11 0).nsq.get 7).state = .faulted := by decide +kernel

/-! ### Witnesses: chapter 2 -/

theorem witness_OutcomeRetiresTheStep :
    let p := running 7 .running lastWait quiet
    p.LastStep 7 lastWait ∧ (1 : W16) = lastWait.sequence ∧
      (∀ st, (p.nsq.get 7).step = some st → st.sequence ≠ 2) ∧ (∀ n, (quiet.nsq.get n).step = none) ∧
      ((p.nsq.get 7).unit.firstFail = none ∧
        ((p.modNsq 7 fun q => { q with unit := { q.unit with state := .opened } }).nsq.get 7).unit.state = .opened) ∧
      (let o : Notice := .ownerOutcome outcomeOf
      ¬ p.Late o ∧ { p with sent := [.late o, o] }.Late o ∧ ¬ { p with sent := [o, .late o] }.Late o) := by
  refine ⟨by unfold Part.LastStep; decide +kernel, by decide +kernel, ?_, by decide +kernel, by decide +kernel, ?_⟩
  swap
  · simp only [late_iff]
    decide +kernel
  intro st h
  obtain rfl : lastWait = st := by
    have h' : ((running 7 .running lastWait quiet).nsq.get 7).step = some lastWait := by decide +kernel
    exact Option.some.inj (h'.symm.trans h)
  decide +kernel

theorem witness_FailedFetchFaultsTheNest :
    let p (k : Nat) : Part :=
      (((running 7 .held lastWait quiet).put (slotAt 2046 0) 0x00030002).put (slotAt 2046 2) 1).modNsq 7 fun q =>
        { q with limit := some 2, position := some (BitVec.ofNat 16 k) }
    let next := (p 2046).stepIn 2046
    (∀ k ∈ [2048, 3, 2046],
      ((p k).nsq.get 7).step = some lastWait ∧ ((p k).nsq.get 7).limit = some 2 ∧
        1 ≤ seqDistance lastWait.sequence 2 ∧ ((p k).nsq.get 7).position = some (BitVec.ofNat 16 k) ∧
        BitVec.ofNat 16 k ≠ lastWait.slot ∧ ((p k).nsq.get 7).state = .held) ∧
      ((p 3).stepIn 3).sequence ≠ lastWait.sequence + 1 ∧ next.sequence = lastWait.sequence + 1 ∧
      (next.kind = some .wait ∧ next.w 2 ≠ 0 ∧ ((p 2046).nsq.get 7).skipping = false ∧ lastWait.critical = false) ∧
      ¬ (p 2046).Late (.ownerOutcome outcomeOf) ∧
      (∀ code ∈ [0x10, 0x70],
        ∃ k, (((p 2046).put (slotAt 2046 0) (wordOf (2 + code * 65536))).stepIn 2046).kind = some k ∧
          k.barredByStop = true) ∧
      { p 2046 with station := .stopped }.station = .stopped ∧
      .stationStop 7 ∈ { p 2046 with sent := [.stationStop 7] }.sent := by
  refine ⟨by decide +kernel, by decide +kernel, by decide +kernel, by decide +kernel,
    by rw [late_iff]; decide +kernel, fun code h => ?_, rfl, by decide⟩
  simp only [List.mem_cons, List.not_mem_nil, or_false] at h
  rcases h with rfl | rfl
  · exact ⟨.clamp, by decide +kernel, rfl⟩
  · exact ⟨.prompt, by decide +kernel, rfl⟩

/-- An outcome left behind a lid abort is late, and ends no step of the same sequence that a new chain has accepted since
(R28, R48). -/
theorem test_late_outcome_leaves_the_new_step :
    let o : Notice := .ownerOutcome outcomeOf
    let p : Part := { running 7 .running lastWait quiet with sent := [.lidAbort 7, o] }
    let q := after (.lidAbort 7) p
    let r := after (.ownerOutcome outcomeOf) (running 7 .running lastWait q)
    q.sent = [.late o] ∧ q.word (slotAt lastWait.slot.toNat 8) = finalWord .aborted .lidOpened ∧
      (r.nsq.get 7).step = some lastWait ∧ r.sent = [] := by decide +kernel

/-- The first FAIL of an OPEN unit writes UNIT_FIRST_FAIL; a later one leaves the word as the host wrote it (R39, R1). -/
theorem test_first_fail_is_written_once :
    let fails (first : Option W16) := after (.ownerOutcome { outcomeOf with verdict := .fail })
      (((running 7 .running lastWait quiet).putNest 7 13 0xABCD).modNsq 7 fun q =>
        { q with unit := { q.unit with state := .opened, firstFail := first } })
    (fails none).word (nestAt 7 13) = 1 ∧ (fails (some 9)).word (nestAt 7 13) = 0xABCD ∧
      ((fails (some 9)).nsq.get 7).unit.fail = 1 := by decide +kernel

/-- A POWER_ON that its nest fetches between the station STOP and the STOP's notice closes no switch; the notice retires it
ABORTED STATION_STOP, with results 0 (R72, R48). -/
theorem test_no_power_on_under_station_stop :
    let p := (((fixtureIn 7 .contactOk (running 7 .running (stepAt 2046 1 3 0 [10]) quiet)).put (slotAt 2047 0)
      0x00120002).put (slotAt 2047 2) 0x000F0064).modNsq 7 fun q => { q with limit := some 2, position := some 2047 }
    let q := [Instr.stopLevelChange true, .ownerOutcome outcomeOf].foldl (fun p c => after c p) p
    let r := after (.stationStopNotice 7) q
    (q.nsq.get 7).sequence = some 2 ∧ (q.fxc.get 7).switchClosed = false ∧ (q.fxc.get 7).state = .contactOk ∧
      q.powerQueue = [] ∧ r.word (slotAt 2047 8) = finalWord .aborted .stationStop ∧ r.word (slotAt 2047 11) = 0 ∧
      (r.nsq.get 7).state = .stopped := by decide +kernel

theorem witness_TimersRetireTheStep :
    let p := later 30000000 ((running 7 .held lastWait quiet).modNsq 7 fun q => { q with waitTimer := some 30000000 })
    (p.Due (p.nsq.get 7).waitTimer ∧ p.Due (p.nsq.get 7).deadline ∧
        ¬ (later 29999999 p).Due (p.nsq.get 7).deadline ∧ ¬ p.Due (quiet.nsq.get 7).waitTimer) ∧ ((p.nsq.get 7).step = some lastWait ∧ lastWait.slot.toNat < Config.slotCount ∧
      (p.nsq.get 7).limit = some lastWait.sequence ∧ lastWait.kind = some .wait ∧ (p.nsq.get 7).state = .held ∧ (stepAt 0 1 0x41 0 []).kind = some .checkGauge ∧
      (stepAt 0 1 0x51 0 []).kind = some .checkFreq ∧ (stepAt 0 1 0x33 0 []).kind = some .checkFrame ∧
      (stepAt 0 1 0x50 0 []).kind = some .checkLamps ∧ (stepAt 0 1 0x70 0 []).kind = some .prompt) ∧
      Uncompleted p.sent 7 lastWait ∧
      Completed { p with sent := [.ownerOutcome outcomeOf] }.sent 7 lastWait outcomeOf :=
  ⟨by decide +kernel, by decide +kernel, uncompleted_empty (by decide +kernel),
    completed_alone rfl rfl (by decide +kernel)⟩

theorem witness_NestAbortStopsTheNest :
    let p (state : SeqState) := watching (.abort 7) (fixtureIn 7 .powering (running 7 state lastWait quiet))
    (∀ state ∈ [SeqState.running, .held],
      (p state).watchQueue = [.abort 7] ∧ ((p state).nsq.get 7).state = state ∧
        ((p state).nsq.get 7).step = some lastWait ∧ lastWait.slot.toNat < Config.slotCount ∧
        ((p state).nsq.get 7).limit = some lastWait.sequence ∧ ∀ e ∈ (p state).powerQueue, e.nest ≠ 7) ∧
      (Uncompleted (p .held).sent 7 lastWait ∧
        Uncompleted ({ p .held with sent := [.lidAbort 7, .ownerOutcome outcomeOf] }.earlier (.lidAbort 7)) 7 lastWait) ∧
      Completed ({ p .held with sent := [.ownerOutcome outcomeOf, .stationStop 7] }.earlier (.stationStop 7)) 7 lastWait
        outcomeOf :=
  ⟨by decide +kernel, ⟨uncompleted_empty (by decide +kernel), uncompleted_empty (by decide +kernel)⟩,
    completed_alone (by decide +kernel) rfl (by decide +kernel)⟩

theorem witness_NestAbortWithoutAStep :
    (∀ state ∈ [SeqState.waiting, .faulted, .stopped],
      let p := watching (.abort 7) (fixtureIn 7 .powering (seqIn 7 state quiet))
      p.watchQueue.head? = some (.abort 7) ∧ (p.nsq.get 7).state = state ∧ (p.nsq.get 7).step = none ∧
        ∀ e ∈ p.powerQueue, e.nest ≠ 7) := by decide +kernel

theorem witness_SupplyTripFailsTheStep :
    let p := running 7 .held lastWait quiet
    ((p.nsq.get 7).step = some lastWait ∧ lastWait.slot.toNat < Config.slotCount ∧
      (p.nsq.get 7).limit = some lastWait.sequence ∧ (p.nsq.get 7).state = .held ∧
      lastWait.kind ≠ some .unitBegin ∧ lastWait.kind ≠ some .unitEnd ∧ (quiet.nsq.get 7).step = none) ∧
      Uncompleted ({ p with sent := [.supplyTrip 7, .ownerOutcome outcomeOf] }.earlier (.supplyTrip 7)) 7 lastWait ∧
      Completed ({ p with sent := [.ownerOutcome outcomeOf, .supplyTrip 7] }.earlier (.supplyTrip 7)) 7 lastWait
        outcomeOf :=
  ⟨by decide +kernel, uncompleted_empty (by decide +kernel),
    completed_alone (by decide +kernel) rfl (by decide +kernel)⟩

/-- An answer given between a lid opening and its abort is discarded: the step is ABORTED, with answer 0 (R48, R188). -/
theorem test_answer_behind_a_lid_abort_is_discarded :
    let st := stepAt 5 1 0x70 0 []
    let p := fixtureIn 7 .powered (running 7 .running st (linked .poll fun o =>
      { o with index := 3, prompts := [promptOf 7 .shown], buttonPass := .pending }))
    let q := [Instr.lidOpening 7, .byteEnd 1, .lidAbort 7].foldl (fun p c => after c p) p
    q.word (slotAt 5 8) = finalWord .aborted .lidOpened ∧ q.word (slotAt 5 11) = 0 ∧
      (q.nsq.get 7).state = .stopped := by decide +kernel

/-- A late expiry of a retired step's deadline leaves the WAIT that follows it in execution (R32). -/
theorem test_late_deadline_is_discarded :
    let p := later 30000000 ((((running 7 .running (stepAt 2046 1 0x70 0 []) quiet).put (slotAt 2047 0)
      0x00030002).put (slotAt 2047 2) 10).modNsq 7 fun q => { q with limit := some 2, position := some 2047 })
    let q := after (.deadlineExpiry 7) (after (.ownerOutcome outcomeOf) p)
    (q.nsq.get 7).sequence = some 2 ∧ q.word (slotAt 2046 8) = finalWord .pass .none := by decide +kernel

/-! ### Witnesses: chapter 3 -/

theorem witness_ClampMotionsEnd :
    let p (state : FixtureState) :=
      later 2000000 ((fixtureIn 7 state quiet).modFxc 7 fun f => { f with motionTimer := some 2000000 })
    (∀ state ∈ [FixtureState.opened, .clamping, .clamped, .contactOk, .discharging, .unclamping, .powered],
      ((p state).fxc.get 7).state = state ∧ (p state).Due ((p state).fxc.get 7).motionTimer ∧
        ((p state).fxc.get 7).lidClosed = true) ∧
      (quiet.fxc.get 7).state = .opened ∧ (quiet.fxc.get 7).lidClosed = false ∧
      ¬ quiet.Due (quiet.fxc.get 7).motionTimer ∧ ¬ (later 1999999 quiet).Due ((p .clamping).fxc.get 7).motionTimer := by
  decide +kernel

theorem witness_LidOpeningWithoutSupply :
    let p := { fixtureIn 7 .contactOk quiet with powerQueue := [entryOf 7] }
    (quiet.fxc.get 7).state = .opened ∧ ((fixtureIn 7 .clamping quiet).fxc.get 7).state = .clamping ∧
      ((fixtureIn 7 .contactOk quiet).fxc.get 7).state = .contactOk ∧
      (fixtureIn 7 .contactOk quiet).powerEntry 7 = none ∧ (p.fxc.get 7).state = .contactOk ∧
      p.powerEntry 7 = some (entryOf 7) := by decide +kernel

theorem witness_SupplyCutBeginsADischarge :
    (∀ state ∈ [FixtureState.powered, .powering, .contactOk, .discharging, .opened],
      ((fixtureIn 7 state quiet).fxc.get 7).state = state ∧ (fixtureIn 7 state quiet).powerQueue = [] ∧
        (state.supplied = true ↔ state ∈ [.powered, .powering])) ∧
      FixtureState.opened ∉ [FixtureState.powered, .contactOk, .discharging] := by decide +kernel

theorem witness_SensorImagesFollowTheInputs :
    let p (state : FixtureState) := (fixtureIn 7 state quiet).modFxc 7 fun f => { f with contacts := 0x8000 }
    (∀ state ∈ [FixtureState.clamped, .contactOk, .discharging, .opened], ((p state).fxc.get 7).state = state) ∧
      (∀ i : Fin 16, (0x8000 : W16).getLsbD i.val = true → ((p .clamped).fxc.get 7).contacts.getLsbD i.val = true) ∧
      (¬ ∀ i : Fin 16, (0x8001 : W16).getLsbD i.val = true → ((p .clamped).fxc.get 7).contacts.getLsbD i.val = true) ∧
      FixtureState.opened ∉ [FixtureState.clamped, .contactOk, .discharging] := by decide +kernel

theorem witness_InrushExpirySamplesTheSupply :
    (∀ above fuse : Bool,
      let p := (fixtureIn 7 .powering quiet).modFxc 7 fun f =>
        { f with inrushTimer := some 0, supplyAbove := above, fuseTripped := fuse }
      (p.fxc.get 7).state = .powering ∧ p.Due (p.fxc.get 7).inrushTimer ∧ p.powerQueue = [] ∧
        (p.fxc.get 7).supplyAbove = above ∧ (p.fxc.get 7).fuseTripped = fuse) ∧
      ¬ quiet.Due (quiet.fxc.get 7).inrushTimer ∧ ¬ quiet.Due (some 1) := by decide +kernel

theorem witness_FreedBudgetGrantsTheHead :
    let p := { fixtureIn 0 .contactOk (fixtureIn 7 .powering quiet) with powerQueue := [entryOf 0] }.modFxc 7 fun f =>
      { f with inrushTimer := some 0 }
    let busy := fixtureIn 1 .powering (fixtureIn 7 .powering (fixtureIn 0 .contactOk quiet))
    (p.Due (p.fxc.get 7).inrushTimer ∧ (p.fxc.get 7).state = .powering ∧ p.powerQueue = [entryOf 0] ∧
        (entryOf 0).nest ≠ 7 ∧ (p.fxc.get (entryOf 0).nest).state = .contactOk ∧ p.pcv.grant = none) ∧
      (((busy.fxc.get 0).state = .contactOk ∧ (busy.fxc.get 0).lidClosed = true ∧ busy.poweringCount = 2) ∧
        p.poweringCount < 2 ∧ (quiet.fxc.get 7).lidClosed = false ∧
        ((fixtureIn 7 .discharging quiet).fxc.get 7).state = .discharging) ∧
      (stepAt 0 1 0x12 0 [0x000F01F5]).criteria.toNat ≤ 15 ∧ ¬ (stepAt 0 1 0x12 0 [0x00100000]).criteria.toNat ≤ 15 := by
  decide +kernel

theorem witness_PowerQueueWithdrawal :
    let p := { fixtureIn 7 .contactOk quiet with powerQueue := [entryOf 7] }.modFxc 7 fun f =>
      { f with powerOn := some ⟨true, false, none⟩ }
    p.powerEntry 7 = some (entryOf 7) ∧ (p.fxc.get 7).powerOn = some ⟨true, false, none⟩ ∧
      (p.fxc.get 7).state = .contactOk ∧ quiet.powerEntry 7 = none ∧ (quiet.fxc.get 7).powerOn = none ∧
      (quiet.fxc.get 7).state ≠ .powering ∧ (fixtureIn 7 .powering quiet).powerEntry 7 = none ∧
      (fixtureIn 7 .powering quiet).powerQueue = [] ∧ ((fixtureIn 7 .powering quiet).fxc.get 7).state = .powering := by
  decide +kernel

theorem witness_DischargeEndsInContactOk :
    (∀ (held lid : Bool) (code : Nat), code ∈ [0x10, 0x12, 0x13] →
      let st := stepAt 0 1 code 0 [0x000F0064, 1000]
      let p := (fixtureIn 1 .powering (fixtureIn 0 .powering (fixtureIn 7 .discharging
        (running 7 .held st (later 20000 quiet))))).modFxc 7 fun f =>
          { f with dischargeTimer := some 20000, heldStep := held, lidClosed := lid }
      (p.fxc.get 7).state = .discharging ∧ p.Due (p.fxc.get 7).dischargeTimer ∧ (p.fxc.get 7).heldStep = held ∧
        (p.nsq.get 7).state = .held ∧ (p.nsq.get 7).step = some st ∧ (p.fxc.get 7).lidClosed = lid ∧
        st.criteria.toNat ≤ 15 ∧ p.poweringCount = 2) ∧
      (stepAt 0 1 0x10 0 []).kind = some .clamp ∧ (stepAt 0 1 0x12 0 []).kind = some .powerOn ∧
      (stepAt 0 1 0x13 0 []).kind = some .powerOff ∧ ¬ (later 19999 quiet).Due (some 20000) ∧
      (quiet.station ≠ .stopped ∧ .stationStop 7 ∉ quiet.sent ∧ .stationStop 7 ∈ { quiet with sent := [.stationStop 7] }.sent ∧
        { quiet with station := .stopped }.station = .stopped) := by
  refine ⟨?_, by decide +kernel⟩
  intro held lid code h
  simp only [List.mem_cons, List.not_mem_nil, or_false] at h
  rcases h with rfl | rfl | rfl <;> revert held lid <;> decide +kernel

theorem witness_StationStopCutsEverySupply :
    quiet.station = .run ∧ { quiet with station := .stopped }.station = .stopped ∧ recorded.firstFault.isSome ∧
      quiet.firstFault = none := by decide

/-! ### Witnesses: chapter 4 -/

/-- A COUNT burst on the wire, past its active phase, with `left` pulses to send. -/
def burstChannel (mode : PulseMode) (inactive : Bool) (left : Nat) (pending : Option PulseSetting) : Channel :=
  ⟨⟨mode, false, 10000, 11111, 90001, 0, 3⟩, 10000, 10000, false, some ⟨mode, false, 90001, 45000, 0, inactive⟩, pending,
    if mode = .count then some ⟨1, 2, left, 90001, 10000⟩ else none⟩

/-- A part whose channel 3 of nest 7 is `c`. -/
def withChannel (c : Channel) : Part := (fixtureIn 7 .powered quiet).modChannel 7 3 fun _ => c

theorem witness_IdleEnforcementRestsTheStimulus :
    let b := withChannel (burstChannel .count true 1 none)
    let t := quiet.modSender 7 1 fun x => { x with settle := some ⟨5000, 200⟩ }
    (b.channel 7 3).burst = some ⟨1, 2, 1, 90001, 10000⟩ ∧ (∀ j, j ≠ 3 → (b.channel 7 j).burst = none) ∧
      (t.sender 7 1).settle = some ⟨5000, 200⟩ ∧ (∀ j, j ≠ 1 → (t.sender 7 j).settle = none) ∧
      ∀ i, (t.channel 7 i).burst = none := by decide +kernel

theorem witness_PulsePeriods :
    let wire (mode : PulseMode) (inactive : Bool) (left : Nat) (pending : Option PulseSetting) :=
      ((withChannel (burstChannel mode inactive left pending)).channel 7 3).wire
    let off : PulseSetting := ⟨.off, false, 0, 0, 0, 0, 0⟩
    wire .count false 1 none = some ⟨.count, false, 90001, 45000, 0, false⟩ ∧
      wire .narrow true 0 (some off) = some ⟨.narrow, false, 90001, 45000, 0, true⟩ ∧
      (burstChannel .narrow true 0 (some off)).pending = some off ∧ (burstChannel .narrow true 0 none).pending = none ∧
      (burstChannel .narrow true 0 none).burst = none ∧
      wire .count true 1 none = some ⟨.count, false, 90001, 45000, 0, true⟩ ∧
      (burstChannel .count true 1 none).burst = some ⟨1, 2, 1, 90001, 10000⟩ ∧
      (burstChannel .count true 0 none).burst = some ⟨1, 2, 0, 90001, 10000⟩ ∧
      (0 + 45000 ≤ (later 4500 quiet).ticks ∧ (later 4499 quiet).ticks < 0 + 45000 ∧ 0 + 90001 ≤ (later 9001 quiet).ticks ∧
        (later 9000 quiet).ticks < 0 + 90001) ∧ (quiet.channel 7 3).wire = none := by decide +kernel

theorem witness_SetPulseFormsThePeriod :
    let st (mode : Nat) := stepAt 0 1 0x20 0 [wordOf (3 + mode * 256), 1, 0xFFFFFF]
    powered.powered 7 = true ∧ (∀ mode ∈ [0, 1, 2, 3], (field ((st mode).w 2) 0 8 : Byte).toNat = 3 ∧
        (field ((st mode).w 2) 8 8 : Byte).toNat = mode) ∧
      (field ((st 1).w 3) 0 16 : W16) ≠ 0 ∧ (field ((st 1).w 4) 0 24 : BitVec 24) ≠ 0 ∧
      (field ((stepAt 0 1 0x20 0 [0x0103, 0, 1]).w 3) 0 16 : W16) = 0 := by decide +kernel

theorem witness_SenderSettles :
    ((quiet.modSender 7 1 fun x => { x with settle := some ⟨5000, 200⟩ }).sender 7 1).settle = some ⟨5000, 200⟩ ∧
      (5000 ≤ (later 5000 quiet).now ∧ (later 4999 quiet).now < 5000) ∧
      (quiet.sender 7 1).settle = none ∧ powered.powered 7 = true ∧
      (field ((stepAt 0 1 0x21 0 [1, 60001]).w 2) 0 8 : Byte).toNat = 1 := by decide +kernel

theorem witness_ReplayRestores :
    let p (r : Replay) := (fixtureIn 7 .powered quiet).modStu 7 fun u => { u with replay := r }
    ((p (.gap 0x0F 5)).stu.get 7).replay = .gap 0x0F 5 ∧ ((p (.gap 0x20 5)).stu.get 7).replay = .gap 0x20 5 ∧
      ((p (.restore 0x10 5)).stu.get 7).replay = .restore 0x10 5 ∧ (p .none).powered 7 = true ∧
      (quiet.stu.get 7).replay = .none ∧ quiet.powered 7 = false ∧ (0x0F : BitVec 6).getLsbD 4 = false ∧
      (0x0F : BitVec 6).getLsbD 5 = false ∧ (0x20 : BitVec 6).getLsbD 5 = true ∧
      (5 ≤ (later 5 quiet).now ∧ (later 4 quiet).now < 5) := by decide +kernel

/-! ### Witnesses: chapter 5 -/

/-- A CHECK_FRAME on filter 7 that has examined nothing, and a FRAME_LOAD that waits on slot 15. -/
def checkOf : CheckFrame := ⟨7, 0xFF, 0x11, 0xFFFF, 0xFFFF, none⟩
def waitOf : LoadWait := ⟨15, 2⟩

/-- Nest 7 with its bus on. -/
def busOn (f : Bus → Bus) : Part := quiet.modBuc 7 fun b => f { b with on := true }

theorem witness_EnteringPoweredStartsBusAndMonitors : ((busOn fun b => { b with mute := true }).buc.get 7).mute = true := by
  decide +kernel

theorem witness_LeavingPoweredStopsBusAndMonitors :
    let g : GaugeCheck := ⟨3, 5, table4, 0, .below, 0, 32767, 10, true, 0, 10000, none⟩
    ((busOn fun b => { b with loadWait := some waitOf, mute := true }).buc.get 7).loadWait = some waitOf ∧
      ((busOn fun b => { b with loadWait := some waitOf }).buc.get 7).check = none ∧
      ((busOn fun b => { b with check := some checkOf }).buc.get 7).check = some checkOf ∧
      ((quiet.modGmn 7 fun u => { u with check := some g }).gmn.get 7).check = some g ∧
      (quiet.gmn.get 7).check = none := by decide +kernel

theorem witness_BusStepsEndEarly :
    let p := powered.modSlot 7 15 fun f => { f with state := .running, stagedPayload := some 1 }
    ((busOn fun b => { b with loadWait := some waitOf }).buc.get 7).loadWait = some waitOf ∧
      ((busOn fun b => { b with check := some checkOf }).buc.get 7).check = some checkOf ∧ checkOf.last = none ∧
      ({ checkOf with last := some Reset.capture } : CheckFrame).last = some Reset.capture ∧
      (quiet.buc.get 7).loadWait = none ∧ (quiet.buc.get 7).check = none ∧ (quiet.slot 7 15).stagedPayload = none ∧
      (p.powered 7 = true ∧ (p.slot 7 15).state = .running ∧ (p.slot 7 15).stagedPayload.isSome ∧
        (powered.slot 7 15).state ≠ .running ∧ (field ((stepAt 0 1 0x31 0 [0x0301000F]).w 2) 0 8 : Byte).toNat = 15 ∧
        (field ((stepAt 0 1 0x22 0 [0x0F010101]).w 2) 24 4 : BitVec 4).toNat = 15 ∧
        bitAt ((stepAt 0 1 0x22 0 [0x0F010101]).w 2) 16 = true ∧
        (field ((stepAt 0 1 0x22 0 [0x0F010101]).w 2) 0 8 : Byte) ≠ 0) := by decide +kernel

/-- A RUNNING slot that is due at 0, of a period in milliseconds. -/
def dueSlot (periodMs : Nat) : FrameSlot :=
  { Reset.frameSlot with
    state := .running, frameDef := some ⟨true, 0x1FFFFFFF, 8, periodMs, 0⟩, due := some 0, stagedPayload := some 1 }

theorem witness_SlotFallsDue :
    let p := busOn fun b => { b with slots := b.slots.put 15 (dueSlot 0), loadWait := some waitOf }
    let q := powered.modBuc 7 fun b => { b with on := true, mute := true, slots := b.slots.put 15 (dueSlot 0) }
    let st := stepAt 0 1 0x30 0 [0x80008001]
    ((p.slot 7 15).state = .running ∧ (p.slot 7 15).due = some 0 ∧ 0 ≤ p.now ∧ p.now < 1 ∧ (quiet.slot 7 15).due = none ∧
        ((p.modSlot 7 15 fun f => { f with state := .muted }).slot 7 15).state ≠ .running) ∧
      (q.powered 7 = true ∧ (q.buc.get 7).on = true ∧ (q.buc.get 7).tx = none ∧ (quiet.buc.get 7).on = false ∧
        (field (st.w 2) 0 16 : W16) = 0x8001 ∧ (field (st.w 2) 16 16 : W16) = 0x8000 ∧
        (q.slot 7 0).state = .stopped ∧ (q.slot 7 15).state ≠ .stopped ∧ (q.buc.get 7).mute = true ∧
        (field (q.word (frameAt 7 15 2)) 0 16 : W16).toNat = 0) ∧
      (field ((stepAt 0 1 0x30 0 []).w 2) 0 16 : W16) = 0 ∧ (field ((stepAt 0 1 0x30 0 []).w 2) 16 16 : W16) = 0 := by
  decide +kernel

/-- Two pending transmissions of nest 7 due at once: the lower slot's is chosen, and an older one before both. -/
theorem witness_Arbitrates :
    (∀ d ∈ [4, 5],
      let b := (busOn fun b =>
        { b with slots := (b.slots.put 14 { dueSlot 0 with pendingDue := some 5 }).put 15
                   { dueSlot 0 with pendingDue := some d } }).buc.get 7
      (b.on = true ∧ b.tx = none ∧ b.rx = none) ∧ b.Chooses (if d = 5 then 14 else 15) d) := by
  let b (d : Nat) : Bus := (busOn fun b =>
    { b with slots := (b.slots.put 14 { dueSlot 0 with pendingDue := some 5 }).put 15
               { dueSlot 0 with pendingDue := some d } }).buc.get 7
  have key (d : Nat) (k : Fin 16) (hk : ((b d).slots.get k).pendingDue = some d)
      (h : ∀ j, ∀ e ∈ ((b d).slots.get j).pendingDue, d < e ∨ (d = e ∧ k ≤ j)) : (b d).Chooses k d :=
    ⟨hk, fun j e he => h j e he⟩
  intro d hd
  simp only [List.mem_cons, List.not_mem_nil, or_false] at hd
  rcases hd with rfl | rfl
  · exact ⟨by decide +kernel, key 4 15 (by decide +kernel) (by decide +kernel)⟩
  · exact ⟨by decide +kernel, key 5 14 (by decide +kernel) (by decide +kernel)⟩

theorem witness_TransmissionEnds :
    let t : Transmission := ⟨15, 0, false, ⟨true, 0x1FFFFFFF, 8, 1⟩⟩
    (∀ k ∈ [14, 15],
      let p := busOn fun b =>
        { b with slots := b.slots.put 15 { dueSlot 0 with pendingDue := some 0 }, tx := some t, nacks := k
                 loadWait := some waitOf }
      (p.buc.get 7).tx = some t ∧ ((p.buc.get 7).nacks + 1 < 16 ↔ k = 14) ∧ (p.slot 7 15).state = .running ∧
        (p.buc.get 7).loadWait = some waitOf) ∧
      (let p := busOn fun b => { b with slots := b.slots.put 15 (dueSlot 0), tx := some t, nacks := 15 }
       (p.buc.get 7).tx = some t ∧ (p.buc.get 7).nacks + 1 = 16 ∧ (∀ j, (p.slot 7 j).pendingDue = none)) := by
  decide +kernel

/-- A FRAME_LOAD that waits on the single-shot slot whose own frame is the 16th nack fails with its staging dropped (R108). -/
theorem test_mute_drops_the_waiting_load :
    let t : Transmission := ⟨15, 0, false, ⟨true, 0x1FFFFFFF, 8, 1⟩⟩
    let p := running 7 .running (stepAt 0 1 0x31 0 []) (busOn fun b =>
      { b with slots := b.slots.put 15 (dueSlot 0), tx := some t, nacks := 15, loadWait := some waitOf })
    let q := after (.transmissionEnd 7 .notAcknowledged) p
    (q.slot 7 15).state = .stopped ∧ (q.slot 7 15).stagedPayload = none ∧
      q.sent = [.ownerOutcome ⟨7, 1, .fail, .busMute, ⟨2, 0, 0, 0, 0⟩⟩] := by decide +kernel

theorem witness_ReceptionFillsTheMatchingFilters :
    let d : FilterDef := ⟨false, 0x7FF, 0x1FFFFFFF⟩
    let p := busOn fun b => { b with rx := some 15, filters := b.filters.put 7 ⟨some d, Reset.capture⟩ }
    let q := busOn fun b => { b with rx := some 15, check := some checkOf }
    let st (w : W32) := stepAt 0 1 0x33 0 [w, 0xFF, 0, 0x11, 0]
    let fresh := powered.modFilter 7 7 fun x => { x with record := { x.record with fresh := true, payload := 0x11 } }
    ((p.buc.get 7).rx = some 15 ∧ (∀ j, (p.slot 7 j).pendingDue = none) ∧ (p.buc.get 7).tx = none ∧
        (0x7FF : BitVec 29) &&& 0x7FF = 0x7FF ∧ (p.filter 7 7).armed = some d ∧
        (∀ i, i < 11 → d.mask.getLsbD i = true → (0x7FF : BitVec 29).getLsbD i = d.ident.getLsbD i) ∧
        (p.filter 7 0).armed = none) ∧ (p.buc.get 7).check = none ∧ (q.buc.get 7).check = some checkOf ∧
      (0x11 : BitVec 64) &&& checkOf.mask = checkOf.expected &&& checkOf.mask ∧
      (0x10 : BitVec 64) &&& checkOf.mask ≠ checkOf.expected &&& checkOf.mask ∧
      (quiet.buc.get 7).on = false ∧ (quiet.buc.get 7).rx = none ∧
      (powered.powered 7 = true ∧ (field ((st 7).w 2) 0 8 : Byte).toNat = 7 ∧ bitAt ((st 7).w 2) 8 = false ∧
        bitAt ((st 0x107).w 2) 8 = true ∧ (powered.filter 7 7).record.fresh = false ∧
        (fresh.filter 7 7).record.fresh = true ∧ (fresh.filter 7 7).record.payload = 0x11) ∧
      (field ((stepAt 0 1 0x32 0 [0x80]).w 2) 0 8 : Byte).getLsbD (7 : Fin 8).val = true := by
  decide +kernel

/-! ### Witnesses: chapters 6, 7 and 9 -/

theorem witness_CoilEventsMoveTheGauge :
    let p (phase : Option (Fin 8)) := (quiet.modGmn 7 fun u => { u with running := true }).modGauge 7 3 fun g =>
      { g with phase := phase, position := 32767 }
    ((p none).gmn.get 7).running = true ∧ (quiet.gmn.get 7).running = false ∧ patternIndex ⟨.plus, .minus⟩ = some 7 ∧
      patternIndex ⟨.plus, .zero⟩ = some 0 ∧ ((p none).gauge 7 3).phase = none ∧
      (∀ q, ((p (some q)).gauge 7 3).phase = some q) ∧ powered.powered 7 = true ∧
      (field ((stepAt 0 1 0x40 0 [0xF0]).w 2) 0 4 : BitVec 4) = 0 := by decide +kernel

theorem witness_SettlingJudgesTheGauge :
    let g : GaugeCheck := ⟨3, 5, table4, 30000, .above, 3240, 6, 200, false, 0, 200000, some 180000⟩
    let tabled (p : Part) := ((p.put (tableAt 31 0) 2).put (tableAt 31 1) 0).put (tableAt 31 2) 0x0078FFFF
    let st := stepAt 0 1 0x41 0 [0x001F0503, 0]
    ((quiet.modGmn 7 fun u => { u with check := some g }).gmn.get 7).check = some g ∧
      (quiet.gmn.get 7).check = none ∧ (g.due ≤ (later 200000 quiet).now ∧ (later 199999 quiet).now < g.due) ∧
      ((field (st.w 2) 0 8 : Byte).toNat = (3 : Fin 4).val ∧ (field (st.w 2) 8 8 : Byte).toNat = (5 : Fin 6).val ∧
        (field (st.w 2) 16 8 : Byte).toNat = (31 : Fin 32).val) ∧
      tableValid (readTable (tabled powered).mem 31) = true ∧ (tabled powered).powered 7 = true ∧
      (tabled quiet).powered 7 = false ∧ tableValid (readTable quiet.mem 31) = false := by decide +kernel

theorem witness_ExpectedPositionFollowsTheTable :
    let mem (m : W32) : Memory := (quiet.put (tableAt 31 0) m).mem
    tableValid table4 = true ∧ table4.head? = some ⟨0, 0⟩ ∧ 0 ≤ (⟨0, 0⟩ : TablePoint).x ∧
      table4.getLast? = some ⟨24000, 3240⟩ ∧ (⟨24000, 3240⟩ : TablePoint).x ≤ 24000 ∧
      table4[0]? = some ⟨0, 0⟩ ∧ table4[1]? = some ⟨1000, 120⟩ ∧ (0 ≤ 1 ∧ 999 < 1000 ∧ (0 : Nat) ≠ 1) ∧
      table4[2]? = some ⟨12000, 1620⟩ ∧ 12000 ≤ 23999 ∧
      (∀ m ∈ [2, 16], (field ((mem (wordOf (0x300 + m))).word (tableAt 31 0)) 0 8 : Byte).toNat = m) := by
  decide +kernel

theorem witness_InterpolationRoundsHalvesAway :
    (⟨0, 0⟩ : TablePoint).x < (⟨2000, -90⟩ : TablePoint).x ∧ (⟨0, 0⟩ : TablePoint).x ≤ 0 ∧
      (⟨2000, -90⟩ : TablePoint).y ≤ (⟨0, 0⟩ : TablePoint).y := by decide

theorem witness_LampWatchFollowsThePattern :
    let w (matching : Bool) (window : Nat) (expected : W16) : LampWatch :=
      ⟨matching, 20000, 0x8000, expected, window, false, none, 0⟩
    let p (x : LampWatch) := quiet.modLpc 7 fun u => { u with watch := some x }
    let currents := (quiet.lpc.get 7).currents.put 15 (min (20000 : W32).toNat 1000000)
    let st (window : W32) := stepAt 0 1 0x50 0 [0x80008000, window <<< 16 ||| 15]
    let lit := (powered.put (thresholdAt 15) 20000).modLpc 7 fun u => { u with currents := currents }
    (((p (w false 300 0x8000)).lpc.get 7).watch = some (w false 300 0x8000) ∧
      (∀ j : Fin 16, (0x8000 : W16).getLsbD j.val = decide (20000 ≤ currents.get j)) ∧
      ((0x8000 : W16) ^^^ (w false 300 0x8000).expected) &&& (w false 300 0x8000).mask = 0 ∧
      ¬((0x8000 : W16) ^^^ (w true 300 0).expected) &&& (w true 300 0).mask = 0 ∧ (w true 300 0).matching = true ∧
      (w true 0 0x8000).windowMs = 0 ∧ (quiet.lpc.get 7).watch = none ∧
      quiet.Due { w true 300 0x8000 with stableTimer := some 0 }.stableTimer ∧ ¬ quiet.Due (some 1)) ∧
      (lit.powered 7 = true ∧ (field ((st 1).w 3) 0 8 : Byte).toNat = 15 ∧
        (∀ j : Fin 16, (0x8000 : W16).getLsbD j.val =
          decide (min (lit.word (thresholdAt 15)).toNat 1000000 ≤ (lit.lpc.get 7).currents.get j)) ∧
        (field ((st 1).w 2) 16 16 : W16) = 0x8000 ∧ (field ((st 1).w 2) 0 16 : W16) = 0x8000 ∧
        (field ((st 0).w 3) 16 16 : W16).toNat = 0 ∧ (field ((st 1).w 3) 16 16 : W16).toNat ≠ 0) := by
  decide +kernel

theorem witness_PulseCaptureMeasures :
    let c (sampling width : Bool) : PulseCapture := ⟨sampling, width, false, 64, false, 0, 0⟩
    let p (x : PulseCapture) (level : Bool) (k : Nat) := quiet.modInput 7 3 fun _ => ⟨level, some x, some 0, k, 0⟩
    (∀ sampling width level : Bool, ∀ k ∈ [0, 62, 63],
      ((p (c sampling width) level k).input 7 3).capture = some (c sampling width) ∧
        ((p (c sampling width) level k).input 7 3).level = level ∧
        ((p (c sampling width) level k).input 7 3).start = some 0 ∧
        ((p (c sampling width) level k).input 7 3).collected < (c sampling width).target ∧
        ∀ j, j ≠ 3 → ((p (c sampling width) level k).input 7 j).capture = none) ∧
      (quiet.input 7 3).level ≠ true ∧ (∀ j, (quiet.input 7 j).capture = none) ∧ powered.powered 7 = true ∧
      (field ((stepAt 0 1 0x51 0 [0x00410103]).w 2) 0 8 : Byte).toNat = 3 := by decide +kernel

/-! ### Witnesses: chapter 8 -/

/-- A measurement of two points of 256 codes each. -/
def measureOf : Measurement := ⟨[⟨7, 12, 32768⟩, ⟨6, 0, 32768⟩], 256, false, 4800, 5400, []⟩

/-- The grant of nest 7 at a sweep position after `taken` codes. -/
def grantOf (position : Nat) (sampling : Bool) (taken : Nat) : Grant :=
  ⟨7, 1, position, sampling, none, none, taken, 0, false⟩

/-- The converter granted to nest 7. -/
def granted (g : Grant) : Part :=
  quiet.modPcv fun c => { c with grant := some g, records := c.records.put 7 (some measureOf) }

theorem witness_SamplesCompleteTheSweep :
    let measure := running 7 .running (stepAt 0 1 0x60 0 []) (granted (grantOf 1 true 255))
    let st := stepAt 0 1 0x60 0 [0x01010407]
    (((granted (grantOf 0 false 0)).Due { grantOf 0 false 0 with settleTimer := some 0 }.settleTimer ∧
        ¬ (granted (grantOf 0 false 0)).Due (grantOf 0 false 0).settleTimer) ∧
      (granted (grantOf 0 false 0)).pcv.grant = some (grantOf 0 false 0) ∧ (grantOf 0 false 0).sampling = false ∧
      (granted (grantOf 0 true 254)).pcv.records.get 7 = some measureOf ∧ (grantOf 0 true 254).sampling = true ∧
      (grantOf 0 true 254).taken + 1 < measureOf.samples ∧ (grantOf 1 true 255).taken + 1 = measureOf.samples ∧
      measureOf.sweep[0]? = some ⟨7, 12, 32768⟩ ∧ measureOf.sweep[0 + 1]? = some ⟨6, 0, 32768⟩ ∧
      measureOf.sweep[1 + 1]? = none ∧ (granted (grantOf 1 true 255)).pcv.queue = [] ∧
      (measure.nsq.get 7).step = some (stepAt 0 1 0x60 0 []) ∧ (stepAt 0 1 0x60 0 []).kind = some .measure) ∧
      (4 ∈ [1, 2, 4] ∧ (field (st.w 2) 0 8 : Byte).toNat = (7 : Fin 8).val ∧ (field (st.w 2) 8 8 : Byte).toNat = 4 ∧
        powered.powered 7 = true ∧ powered.pcv.grant = none ∧
        (powered.modPcv fun c => { c with grant := some (grantOf 0 true 0) }).pcv.grant.isSome) := by decide +kernel

theorem witness_PointValueStandsAsComputed :
    1 ≤ measureOf.samples ∧ measureOf.samples ≤ 256 ∧ -32768 * (measureOf.samples : Int) ≤ -8388608 ∧
      (8388352 : Int) ≤ 32767 * (measureOf.samples : Int) := by decide

/-- Nest 0 waits for the converter, behind an entry of nest 1, which is not POWERED. -/
theorem witness_ConverterPassesOn :
    let p := (granted (grantOf 0 true 5)).modPcv fun c =>
      { c with queue := [(1, 3), (0, 9)], records := c.records.put 0 (some measureOf) }
    let q := seqIn 0 .held (fixtureIn 0 .powered p)
    (q.pcv.grant = some (grantOf 0 true 5) ∧ (grantOf 0 true 5).nest = 7 ∧ q.pcv.records.get 7 = some measureOf ∧
        q.pcv.queue.all (fun e => e.1 ≠ 7) = true) ∧
      (p.pcv.queue.dropWhile (fun e => !p.powered e.1) = [] ∧
        q.pcv.queue.dropWhile (fun e => !q.powered e.1) = [(0, 9)] ∧ q.pcv.records.get 0 = some measureOf ∧
        measureOf.sweep.head? = some ⟨7, 12, 32768⟩ ∧ (q.nsq.get 0).state = .held) ∧
      (q.pcv.queue.any (fun e => e.1 = 0) = true ∧ (grantOf 0 true 5).nest ≠ 0) ∧
      quiet.pcv.grant = none ∧ quiet.pcv.queue.any (fun e => e.1 = 7) = false := by decide +kernel

/-! ### Witnesses: chapter 10 and the whole machine -/

theorem witness_PanelLinkShiftsBytes :
    let texting (cut : Bool) (e : PromptEntry) := linked .text fun o => { o with cut := cut, prompts := [e] }
    let polled (q : List PromptEntry) := linked .poll fun o =>
      { o with index := 3, prompts := q, buttonPass := .pending, buttonFail := .pending, buttonRepeat := .pending }
    let served (poll clear : Bool) (q : List PromptEntry) :=
      restful.modOpc fun o => { o with pollPending := poll, clearPending := clear, prompts := q }
    (restful.opc.pollTimer ≤ (later 10000 restful).now ∧ (later 9999 restful).now < restful.opc.pollTimer ∧
      (linked .poll id).opc.link ≠ .idle ∧ restful.opc.link = .idle ∧ restful.linkWaits = false ∧
      (linked .poll fun o => { o with buffered := some 1 }).opc.buffered = some 1 ∧
      (linked .poll id).opc.cursor = none ∧
      (linked .text fun o => { o with buffered := some 1, cursor := some ⟨7, 255, 64⟩ }).opc.cursor =
        some ⟨7, 255, 64⟩) ∧
      ((linked .clear id).opc.link = .clear ∧ (linked .clear id).opc.buffered = none ∧
        (texting false (promptOf 7 .sending)).opc.prompts = [promptOf 7 .sending] ∧
        (texting false (promptOf 7 .sending)).opc.cut = false ∧ (promptOf 7 .sending).state = .sending ∧
        (texting true (promptOf 7 .queued)).opc.cut = true ∧ (texting true (promptOf 7 .queued)).opc.buffered = none) ∧
      ((polled [promptOf 7 .queued]).opc.link = .poll ∧ (polled [promptOf 7 .queued]).opc.index = 3 ∧
        (polled [promptOf 7 .queued]).opc.buffered = none ∧ (polled [promptOf 7 .queued]).opc.cut = false ∧
        (∀ e, (polled [promptOf 7 .queued]).opc.prompts.head? = some e → e.state ≠ .shown) ∧
        (∀ j ∈ [0, 1, 2], (0xF8 : Byte).getLsbD j = false)) ∧
      (restful.opc.link = .idle ∧ (served true true []).opc.pollPending = true ∧
        (served false true [promptOf 7 .queued]).opc.prompts = [promptOf 7 .queued] ∧ (promptOf 7 .queued).state = .queued ∧
        ((seqIn 7 .held (served false true [promptOf 7 .queued])).nsq.get 7).state = .held ∧
        (served false true []).opc.clearPending = true ∧ (served false false []).opc.clearPending = false ∧
        ∀ x, (served false true [promptOf 7 .shown]).opc.prompts.head? = some x → x.state ≠ .queued) ∧
      (restful.opc.prompts = [] ∧ (restful.nsq.get 7).state ≠ .held ∧
        (texting false (promptOf 0 .sending)).opc.link ≠ .idle ∧ (promptOf 0 .sending).nest ≠ 7) := by decide +kernel

/-- The end of a poll that nobody answers starts the text of a queued prompt and ends its HELD PANEL (R175, R183). -/
theorem test_poll_end_starts_a_held_prompt :
    let p := after (.byteEnd 0) (seqIn 7 .held (linked .poll fun o => { o with index := 3, prompts := [promptOf 7 .queued] }))
    p.opc.link = .text ∧ p.opc.shift = some 0x87 ∧ (p.nsq.get 7).state = .running ∧
      p.word (nestAt 7 7) = p.nestStateWord 7 := by decide +kernel

theorem witness_ButtonsAcceptAFreshPress :
    let p := linked .poll fun o => { o with index := 3 }
    p.opc.link = .poll ∧ p.opc.index = 3 ∧ p.opc.buffered = none ∧ p.opc.cut = false ∧ p.headEntry = none := by
  decide +kernel

theorem witness_AcceptedPressAnswersThePrompt :
    let p (q : List PromptEntry) := seqIn 0 .held (fixtureIn 7 .powered (linked .poll fun o =>
      { o with index := 3, prompts := promptOf 7 .shown :: q, buttonPass := .pending, buttonFail := .pending
               buttonRepeat := .pending }))
    let one := (p []).opc
    let two := p [promptOf 0 .queued]
    (one.link = .poll ∧ one.index = 3 ∧ one.buffered = none ∧ one.cut = false ∧ one.prompts = [promptOf 7 .shown] ∧
        (promptOf 7 .shown).state = .shown ∧ one.pollPending = false ∧ one.clearPending = false) ∧
      (one.buttonPass = .pending ∧ (1 : Byte).getLsbD 0 = true ∧ one.buttonFail = .pending ∧
        (2 : Byte).getLsbD 1 = true) ∧
      (two.opc.prompts = [promptOf 7 .shown, promptOf 0 .queued] ∧ (promptOf 0 .queued).state = .queued ∧
        (∀ y ∈ [promptOf 0 .queued], y.nest ≠ 7) ∧ (two.nsq.get 0).state = .held) ∧
      (one.buttonRepeat = .pending ∧ (4 : Byte).getLsbD 2 = true ∧ (4 : Byte).getLsbD 0 = false ∧
        (4 : Byte).getLsbD 1 = false ∧ (promptOf 7 .shown).repeats < (promptOf 7 .shown).repeatLimit ∧
        (promptOf 7 .shown).replayMask ≠ 0 ∧ (p []).powered 7 = true ∧ ((p []).stu.get 7).replay = .none) ∧
      restful.powered 7 = false := by decide +kernel

theorem witness_ShownPromptTimesOutOrShowsAgain :
    let p (state : PromptState) := restful.modOpc fun o => { o with prompts := [promptOf 7 state, promptOf 0 .queued] }
    (∀ m ∈ [Notice.replayEnded 7, .replayCut 7],
        ¬ (p .replaying).Late m ∧ { p .replaying with sent := [.late m, m] }.Late m) ∧
      (p .shown).opc.prompts = [promptOf 7 .shown, promptOf 0 .queued] ∧ (promptOf 7 .shown).state = .shown ∧
      (later 20005080 (p .shown)).Due (promptOf 7 .shown).answerTimer ∧ ¬ (p .shown).Due (promptOf 7 .shown).answerTimer ∧
      (∀ y ∈ [promptOf 0 .queued], y.nest ≠ 7) ∧
      (p .replaying).opc.prompts = [promptOf 7 .replaying, promptOf 0 .queued] ∧
      (promptOf 7 .replaying).state = .replaying ∧ restful.opc.prompts.head? = none := by
  simp only [late_iff]
  decide +kernel

/-- A STOP input that reads pressed at a reset: the STOP leaves no CLEAR pending behind the one it starts (log entry 11). -/
theorem test_stop_at_reset_sends_one_clear :
    let p := after .panelStationStop (after .powerOnReset { quiet with stopPressed := true })
    p.opc.link = .clear ∧ p.opc.clearPending = false := by decide +kernel

/-- A STOP that the panel controller takes late removes the entry of a PROMPT handed over after the RESUME; its step runs
on, and its deadline retires it TIMEOUT DEADLINE (R189, R33; log entry 19). -/
theorem test_late_panel_stop_leaves_the_step :
    let st := stepAt 5 1 0x70 0 []
    let p : Part := { running 7 .held st (linked .poll fun o => { o with prompts := [promptOf 7 .queued] }) with
      sent := [.panelStop] }
    let q := after .panelStationStop p
    let r := after (.deadlineExpiry 7) (later 30000000 q)
    q.opc.prompts = [] ∧ (q.nsq.get 7).step = some st ∧ (q.nsq.get 7).state = .held ∧ q.sent = [] ∧
      r.word (slotAt 5 8) = finalWord .timeout .deadline := by decide +kernel

/-- A report on the replay of a withdrawn prompt ends no later replay of its nest (R187). -/
theorem test_late_replay_report_is_discarded :
    let p : Part := { restful.modOpc fun o => { o with prompts := [promptOf 7 .replaying] } with sent := [.replayEnded 7] }
    let q := after (.promptWithdrawal 7) p
    let r := after (.replayEndedReport 7) { p with sent := q.sent }
    q.sent = [.late (.replayEnded 7)] ∧ q.opc.prompts = [] ∧ r.opc.prompts = [promptOf 7 .replaying] ∧ r.sent = [] := by
  decide +kernel

theorem witness_PromptsAreWithdrawn :
    let p (link : Link) (q : List PromptEntry) := linked link fun o => { o with prompts := q }
    let two := p .text [promptOf 7 .sending, promptOf 0 .queued]
    let replays (r : Replay) :=
      ((fixtureIn 7 .powered (p .poll [promptOf 7 .replaying, promptOf 0 .queued])).modStu 7 fun u => { u with replay := r })
    (two.opc.prompts = [promptOf 7 .sending, promptOf 0 .queued] ∧ (promptOf 7 .sending).nest ≠ (promptOf 0 .queued).nest ∧
        two.promptEntry 0 = some (promptOf 0 .queued)) ∧
      ((promptOf 7 .sending).state = .sending ∧ two.opc.link = .text ∧ ∀ x ∈ [promptOf 0 .queued], x.nest ≠ 7) ∧
      (∀ link ∈ [Link.idle, .poll], ∀ q ∈ [[], [promptOf 0 .queued]],
        (p link (promptOf 7 .shown :: q)).opc.prompts = promptOf 7 .shown :: q ∧
          (p link (promptOf 7 .shown :: q)).opc.link = link ∧ (promptOf 7 .shown).state ≠ .sending ∧
          ∀ y ∈ q, y.nest ≠ 7) ∧
      (∀ r ∈ [Replay.none, .gap 0x3F 5, .restore 0x10 5], ((replays r).stu.get 7).replay = r ∧
          (replays r).powered 7 = true ∧ (replays r).opc.prompts = [promptOf 7 .replaying, promptOf 0 .queued] ∧
          (promptOf 7 .replaying).state = .replaying ∧ (replays r).opc.prompts.Pairwise fun a b => a.nest ≠ b.nest) ∧
      quiet.powered 7 = false ∧ ∀ e ∈ restful.opc.prompts, e.nest ≠ 7 := by decide +kernel

theorem witness_RefusedHandOffChangesNothing :
    quiet.powered 7 = false ∧
      quiet.handOff 7 .measure (stepAt 0 1 0x60 0 [0x0107]) = (quiet, .done .refused .badState .zero) := by
  decide +kernel

/-- Exchange memory after a reset has its canonical form. -/
theorem witness_StepKeepsMemoryFormed : State.reset.part.mem.wf = true ∧ ∀ n, (State.reset.part.nsq.get n).step = none := by
  decide +kernel

theorem witness_StepKeepsTheQueues :
    [Watched.post 7, .faultRelease].Nodup ∧ ∀ e ∈ [promptOf 7 .shown, promptOf 0 .queued].tail, e.state = .queued := by
  decide

theorem witness_StepKeepsTheSupplyGuarded :
    let p := fixtureIn 1 .powering (fixtureIn 7 .powering quiet)
    (p.poweringCount ≤ Config.powerBudget ∧ ∀ n, (p.fxc.get n).switchClosed = (p.fxc.get n).state.supplied) ∧
      { quiet with station := .stopped }.StopCutsSupply ∧ p.StopCutsSupply := by
  refine ⟨by decide +kernel, fun _ => by decide +kernel, fun h => ?_⟩
  exact absurd h (by decide +kernel)

theorem witness_StepKeepsTheRouteGuarded :
    let p := (granted (grantOf 0 true 0)).closePoint (routePoint 7 7)
    p.pcv.grant = some (grantOf 0 true 0) ∧ p.pcv.relays = 1#64 <<< (routePoint 7 7).val ∧ quiet.pcv.relays = 0 := by
  decide +kernel

theorem witness_StepKeepsStepsMatched :
    let p : Part := { running 7 .held lastWait quiet with sent := [.late (.ownerOutcome outcomeOf), .ownerOutcome outcomeOf] }
    (∀ n, (p.nsq.get n).step.isSome =
      (decide ((p.nsq.get n).state = .running) || decide ((p.nsq.get n).state = .held))) ∧ p.OutcomesCurrent := by
  refine ⟨by decide +kernel, fun o h => ?_⟩
  obtain rfl : o = outcomeOf := by simpa using h
  decide +kernel

end Sys2Proof.Tests
end

section
/-! What every operation of the blocks keeps while no step is accepted and none retires. -/

namespace Sys2Proof.Machine

/-- A nest is RUNNING or HELD exactly while a step is in execution on it (section 2.1). -/
def Nsq.Matches (q : Nsq) : Prop := q.step.isSome = (decide (q.state = .running) || decide (q.state = .held))

/-- From part `s` to part `t` blocks have acted, but no step has been accepted and none has retired: exchange memory keeps
its canonical form, the watch queue and every step in execution stand, no sequencer leaves RUNNING and HELD or enters them
without its step, an outcome is sent only for the step in execution, and only the head of the prompt queue leaves QUEUED. -/
structure Part.KeepsSteps (s t : Part) : Prop where
  mem : s.MemoryFormed → t.mem.wf = true
  watchQueue : t.watchQueue = s.watchQueue
  steps : ∀ n, (t.nsq.get n).step = (s.nsq.get n).step
  matched : ∀ n, (s.nsq.get n).Matches → (t.nsq.get n).Matches
  outcomes : s.OutcomesCurrent → t.OutcomesCurrent
  heads : s.HeadAlone → t.HeadAlone

/-! ### Where the part's words lie in the window -/

@[simp] theorem nestAt_lt (n : NestId) {k : Nat} (hk : k < 64) : nestAt n k < 0x10000 := by
  unfold nestAt; omega
theorem slotAt_lt {p k : Nat} (hp : p < Config.slotCount) (hk : k < 16) : slotAt p k < 0x10000 := by
  unfold slotAt; unfold Config.slotCount at hp; omega
@[simp] theorem frameAt_lt (n : NestId) (f : Fin 16) {k : Nat} (hk : k < 8) : frameAt n f k < 0x10000 := by
  unfold frameAt; omega
@[simp] theorem captureAt_lt (n : NestId) (f : Fin 8) {k : Nat} (hk : k < 8) : captureAt n f k < 0x10000 := by
  unfold captureAt; omega
@[simp] theorem stationAt_lt : stationAt < 0x10000 := by decide
@[simp] theorem ffStateAt_lt : ffStateAt < 0x10000 := by decide
@[simp] theorem ffStepAt_lt : ffStepAt < 0x10000 := by decide
@[simp] theorem ffTimeAt_lt : ffTimeAt < 0x10000 := by decide
@[simp] theorem layoutAt_lt : layoutAt < 0x10000 := by decide

namespace Part.KeepsSteps

variable {s t u : Part} {n : NestId}

/-- The canonical form of exchange memory stays, and so do the slots of the steps in execution. -/
theorem formed (h : s.KeepsSteps t) (hs : s.MemoryFormed) : t.MemoryFormed :=
  ⟨h.mem hs, fun n st hst => hs.2 n st (by rw [← h.steps, hst])⟩

theorem refl (s : Part) : s.KeepsSteps s := ⟨And.left, rfl, fun _ => rfl, fun _ => id, id, id⟩

theorem trans (h : s.KeepsSteps t) (g : t.KeepsSteps u) : s.KeepsSteps u where
  mem := g.mem ∘ h.formed
  watchQueue := g.watchQueue.trans h.watchQueue
  steps n := (g.steps n).trans (h.steps n)
  matched n := g.matched n ∘ h.matched n
  outcomes := g.outcomes ∘ h.outcomes
  heads := g.heads ∘ h.heads

/-- An operation that touches neither memory nor the queues nor the sequencers. -/
theorem of_same (h : s.KeepsSteps t)
    (e : (u.mem, u.watchQueue, u.nsq, u.sent, u.opc.prompts) = (t.mem, t.watchQueue, t.nsq, t.sent, t.opc.prompts)) :
    s.KeepsSteps u := by
  simp only [Prod.mk.injEq] at e
  obtain ⟨hm, hw, hn, hs, hp⟩ := e
  refine h.trans ⟨?_, hw, ?_, ?_, ?_, ?_⟩
  · rw [hm]; exact And.left
  · simp [hn]
  · simp [hn]
  · simp [OutcomesCurrent, hn, hs]
  · simp [HeadAlone, hp]

theorem ite {c : Prop} [Decidable c] {a b : Part} (ha : s.KeepsSteps a) (hb : s.KeepsSteps b) :
    s.KeepsSteps (if c then a else b) := by split <;> assumption

theorem ite_fst {α : Type} {c : Prop} [Decidable c] {a b : Part × α} (ha : s.KeepsSteps a.1) (hb : s.KeepsSteps b.1) :
    s.KeepsSteps (if c then a else b).1 := by split <;> assumption

theorem pair {α : Type} {a : α} (h : s.KeepsSteps u) : s.KeepsSteps (u, a).1 := h

/-- The part of an answer that is known. -/
theorem fst_of_eq {α : Type} {p : Part × α} {a : α} (e : p = (u, a)) (h : s.KeepsSteps p.1) : s.KeepsSteps u := by
  subst e; exact h

theorem foldl {α : Type} {f : Part → α → Part} {l : List α} (h : s.KeepsSteps t)
    (hf : ∀ (t : Part) (x : α), t.KeepsSteps (f t x)) : s.KeepsSteps (l.foldl f t) := by
  induction l generalizing t with
  | nil => exact h
  | cons x l ih => exact ih (h.trans (hf t x))

/-! ### Plain updates -/

theorem modFxc {f : Fixture → Fixture} (h : s.KeepsSteps t) : s.KeepsSteps (t.modFxc n f) := h.of_same (by rfl)
theorem modStu {f : Stimulus → Stimulus} (h : s.KeepsSteps t) : s.KeepsSteps (t.modStu n f) := h.of_same (by rfl)
theorem modBuc {f : Bus → Bus} (h : s.KeepsSteps t) : s.KeepsSteps (t.modBuc n f) := h.of_same (by rfl)
theorem modGmn {f : Gauges → Gauges} (h : s.KeepsSteps t) : s.KeepsSteps (t.modGmn n f) := h.of_same (by rfl)
theorem modLpc {f : Watcher → Watcher} (h : s.KeepsSteps t) : s.KeepsSteps (t.modLpc n f) := h.of_same (by rfl)
theorem modPcv {f : Converter → Converter} (h : s.KeepsSteps t) : s.KeepsSteps (t.modPcv f) := h.of_same (by rfl)
theorem setFactor {i : Nat} (h : s.KeepsSteps t) : s.KeepsSteps (t.setFactor i) := h.of_same (by rfl)

/-- The panel changed, but not its prompt queue. -/
theorem modOpc {f : Panel → Panel} (h : s.KeepsSteps t) (hf : ∀ o, (f o).prompts = o.prompts) :
    s.KeepsSteps (t.modOpc f) := h.of_same (by simp [hf])

/-- A word written that lies in the window while the steps in execution lie in the pool. -/
theorem put_formed {i : Nat} {v : W32} (h : s.KeepsSteps t) (hi : t.MemoryFormed → i < 0x10000) :
    s.KeepsSteps (t.put i v) :=
  h.trans ⟨fun hm => Memory.wf_setWord v hm.1 (hi hm), rfl, fun _ => rfl, fun _ => id, id, id⟩

theorem put {i : Nat} {v : W32} (h : s.KeepsSteps t) (hi : i < 0x10000) : s.KeepsSteps (t.put i v) :=
  h.put_formed fun _ => hi

theorem putNest {k : Nat} {v : W32} (h : s.KeepsSteps t) (hk : k < 64) :
    s.KeepsSteps (t.putNest n k v) := h.put (nestAt_lt n hk)

/-- A sequencer changed, but neither its step nor whether it matches its state. -/
theorem modNsq_matched {f : Nsq → Nsq} (h : s.KeepsSteps t) (hs : (f (t.nsq.get n)).step = (t.nsq.get n).step)
    (hq : (t.nsq.get n).Matches → (f (t.nsq.get n)).Matches) : s.KeepsSteps (t.modNsq n f) := by
  have hstep (m : NestId) : ((t.modNsq n f).nsq.get m).step = (t.nsq.get m).step := by
    simp only [modNsq_nsq, Bank.get_modify]
    split
    · next e => exact e ▸ hs
    · rfl
  refine h.trans ⟨And.left, rfl, hstep, fun m hm => ?_, fun ho o hm => ?_, id⟩
  · simp only [modNsq_nsq, Bank.get_modify]
    split
    · next e => subst e; exact hq hm
    · exact hm
  · rw [hstep]; exact ho o hm

/-- A sequencer changed, but neither its step nor its state. -/
theorem modNsq {f : Nsq → Nsq} (h : s.KeepsSteps t) (hf : ∀ q, (f q).step = q.step ∧ (f q).state = q.state) :
    s.KeepsSteps (t.modNsq n f) := h.modNsq_matched (hf _).1 (by simp [Nsq.Matches, hf])

theorem track {f : Part → Part} (h : s.KeepsSteps t) (hf : t.KeepsSteps (f t)) : s.KeepsSteps (t.track n f) := by
  rcases t.track_eq n f with ⟨e, -⟩ | ⟨e, -⟩
  · exact e ▸ h.trans hf
  · exact e ▸ (h.trans hf).putNest (by decide)

theorem writeNestState (h : s.KeepsSteps t) : s.KeepsSteps (t.writeNestState n) :=
  h.putNest (by decide)

/-! ### Messages -/

theorem send {m : Notice} (h : s.KeepsSteps t) (hm : ∀ o, m ≠ .ownerOutcome o) : s.KeepsSteps (t.send m) :=
  h.trans ⟨And.left, rfl, fun _ => rfl, fun _ => id,
    fun ho o ho' => ho o (by simpa [Ne.symm (hm o)] using ho'), id⟩

theorem took {m : Notice} (h : s.KeepsSteps t) : s.KeepsSteps (t.took m) :=
  h.trans ⟨And.left, rfl, fun _ => rfl, fun _ => id, fun ho o ho' => ho o (List.mem_of_mem_erase ho'), id⟩

theorem markLate {ended : Notice → Bool} (h : s.KeepsSteps t) : s.KeepsSteps (t.markLate ended) := by
  refine h.trans ⟨And.left, rfl, fun _ => rfl, fun _ => id, fun ho o ho' => ?_, id⟩
  obtain ⟨m, hm, e⟩ := List.mem_map.1 ho'
  split at e
  · cases e
  · exact ho o (e ▸ hm)

theorem keepReport {r : Results} (h : s.KeepsSteps t) : s.KeepsSteps (t.keepReport n r) :=
  h.modNsq (by simp)

theorem sendOutcome {v : Verdict} {d : Detail} {r : Results} (h : s.KeepsSteps t) :
    s.KeepsSteps (t.sendOutcome n v d r) := by
  unfold Part.sendOutcome
  split
  · next st hst =>
    refine (h.keepReport (n := n) (r := r)).trans ⟨And.left, rfl, fun _ => rfl, fun _ => id, fun ho o ho' => ?_, id⟩
    rcases List.mem_append.1 ho' with ho' | ho'
    · exact ho o ho'
    · cases List.mem_singleton.1 ho'
      simp [hst]
  · exact h

theorem completeStep {k : Kind} {v : Verdict} {d : Detail} {r : Results} (h : s.KeepsSteps t) :
    s.KeepsSteps (t.completeStep n k v d r) := h.sendOutcome.ite h

theorem receive {m : Notice} {f : Part → Part} (h : s.KeepsSteps t) (hf : ∀ t : Part, t.KeepsSteps (f t)) :
    s.KeepsSteps (t.receive m f) := h.took.ite (h.took.trans (hf _))

theorem holdEnd (h : s.KeepsSteps t) : s.KeepsSteps (t.holdEnd n) := by
  unfold Part.holdEnd
  split
  · next hh => exact h.track ((refl t).modNsq_matched rfl (by simp [Nsq.Matches, hh]))
  · exact h

/-- A hold (R26), of a nest with a step in execution. -/
theorem holdFor {why : HoldReason} (h : s.KeepsSteps t) (hi : (t.nsq.get n).step.isSome = true) :
    s.KeepsSteps (t.holdFor n why) := h.track ((refl t).modNsq_matched rfl (by simp [Nsq.Matches, hi]))

/-! ### Faults, the unit record and the fixture state -/

theorem offerFault {source : Fin 9} {kind : FaultKind} {seq : Option W16} (h : s.KeepsSteps t) :
    s.KeepsSteps (t.offerFault source kind seq) := by
  unfold Part.offerFault
  split
  · exact h
  · exact (((h.of_same (u := { t with firstFault := _ }) (by rfl)).put ffStepAt_lt).put ffTimeAt_lt).put ffStateAt_lt |>.setFactor

theorem recordFault {kind : FaultKind} (h : s.KeepsSteps t) : s.KeepsSteps (t.recordFault n kind) :=
  have k := ((h.modNsq (by simp)).putNest (by decide)).setFactor
  k.ite k.offerFault

theorem writeUnitState {x : UnitState} (h : s.KeepsSteps t) : s.KeepsSteps (t.writeUnitState n x) := by
  unfold Part.writeUnitState
  exact ((h.modNsq (by simp)).putNest (by decide)).modOpc (by simp)

theorem openUnit {tag : W32} (h : s.KeepsSteps t) : s.KeepsSteps (t.openUnit n tag) :=
  have g := (((h.modNsq (by simp)).putNest (by decide)).putNest (by decide)).putNest (by decide)
  (((g.putNest (by decide)).putNest (by decide)).putNest (by decide)).writeUnitState

theorem closeUnit {x : UnitState} (h : s.KeepsSteps t) : s.KeepsSteps (t.closeUnit n x) :=
  ((h.modNsq (by simp)).putNest (by decide)).writeUnitState

theorem abortUnit (h : s.KeepsSteps t) : s.KeepsSteps (t.abortUnit n) := h.closeUnit.ite h

theorem countStep {st : Step} {v : Verdict} (h : s.KeepsSteps t) : s.KeepsSteps (t.countStep n st v) :=
  have k := ((h.modNsq (by simp)).putNest (by decide)).putNest (by decide)
  (k.ite (k.putNest (by decide))).ite h

theorem publish {new : FixtureState} (h : s.KeepsSteps t) : s.KeepsSteps (t.publish n new) :=
  h.track (refl t).modFxc

/-! ### Stimulus unit -/

theorem modChannel {c : Fin 4} {f : Channel → Channel} (h : s.KeepsSteps t) : s.KeepsSteps (t.modChannel n c f) :=
  h.modStu
theorem modSender {e : Fin 2} {f : Sender → Sender} (h : s.KeepsSteps t) : s.KeepsSteps (t.modSender n e f) := h.modStu

theorem handSetPulse {st : Step} (h : s.KeepsSteps t) : s.KeepsSteps (t.handSetPulse n st).1 := by
  dsimp only [Part.handSetPulse]
  split
  · exact ite_fst h (ite_fst h (ite_fst h.modChannel (ite_fst h.modChannel.modChannel h.modChannel)))
  · exact h

theorem endPeriod {i : Fin 4} (h : s.KeepsSteps t) : s.KeepsSteps (t.endPeriod n i) := by
  simp only [Part.endPeriod]
  (repeat' split)
  exacts [h, h, h.modChannel.completeStep, h.modChannel, h.modChannel, h.modChannel]

theorem stopBurst {i : Fin 4} (h : s.KeepsSteps t) : s.KeepsSteps (t.stopBurst n i) := by
  unfold Part.stopBurst
  split
  exacts [h, h.modChannel.keepReport]

theorem handSetSender {st : Step} (h : s.KeepsSteps t) : s.KeepsSteps (t.handSetSender n st).1 := by
  unfold Part.handSetSender
  (repeat' split)
  exacts [h, h, h.modSender]

theorem senderSettles {e : Fin 2} (h : s.KeepsSteps t) : s.KeepsSteps (t.senderSettles n e) := by
  unfold Part.senderSettles
  split
  exacts [h, h.ite h.modSender.completeStep]

theorem stopSenderSettle {e : Fin 2} (h : s.KeepsSteps t) : s.KeepsSteps (t.stopSenderSettle n e) := by
  unfold Part.stopSenderSettle
  split
  exacts [h, h.modSender.keepReport]

theorem applyLines {mask value : Byte} (h : s.KeepsSteps t) : s.KeepsSteps (t.applyLines n mask value) :=
  h.modStu.ite h

theorem startReplay {mask : BitVec 6} {gapMs : Nat} {code : W16} (h : s.KeepsSteps t) :
    s.KeepsSteps (t.startReplay n mask gapMs code).1 := by
  unfold Part.startReplay
  split
  exacts [h.modStu, h]

theorem gapExpires (h : s.KeepsSteps t) : s.KeepsSteps (t.gapExpires n) := by
  unfold Part.gapExpires
  split
  exacts [h.ite (h.modStu.modStu.ite (h.modStu.modStu.send (by simp))), h]

theorem restoreSettles (h : s.KeepsSteps t) : s.KeepsSteps (t.restoreSettles n) := by
  unfold Part.restoreSettles
  split
  exacts [h.ite (h.modStu.send (by simp)), h]

theorem endReplay (h : s.KeepsSteps t) : s.KeepsSteps (t.endReplay n) := by
  unfold Part.endReplay
  (repeat' split)
  exacts [h, h.modStu, h.modStu, h]

theorem enforceIdle (h : s.KeepsSteps t) : s.KeepsSteps (t.enforceIdle n) := by
  have hr : s.KeepsSteps (match (t.stu.get n).heldResults with
      | some r => t.keepReport n r
      | none => t) := by
    split
    exacts [h.keepReport, h]
  unfold Part.enforceIdle
  exact hr.modStu.ite (hr.modStu.send (by simp))

end Part.KeepsSteps
end Sys2Proof.Machine
end

section
/-! The bus controllers, the converter, the gauge monitors and the lamp and pulse block keep the steps in execution. -/

namespace Sys2Proof.Machine.Part.KeepsSteps

variable {s t u : Part} {n : NestId}

/-! ### Bus controllers -/

theorem modSlot {k : Fin 16} {f : FrameSlot → FrameSlot} (h : s.KeepsSteps t) : s.KeepsSteps (t.modSlot n k f) :=
  h.modBuc
theorem modFilter {k : Fin 8} {f : Filter → Filter} (h : s.KeepsSteps t) : s.KeepsSteps (t.modFilter n k f) := h.modBuc
theorem writeSlotStatus {k : Fin 16} (h : s.KeepsSteps t) : s.KeepsSteps (t.writeSlotStatus n k) :=
  h.put (frameAt_lt n k (by decide))
theorem writeSlotNacks {k : Fin 16} (h : s.KeepsSteps t) : s.KeepsSteps (t.writeSlotNacks n k) :=
  h.put (frameAt_lt n k (by decide))

theorem changeSlot {k : Fin 16} {f : FrameSlot → FrameSlot} (h : s.KeepsSteps t) :
    s.KeepsSteps (t.changeSlot n k f) :=
  have g := h.modSlot.ite h.modSlot.writeSlotStatus
  g.ite g.writeSlotNacks

theorem startTransmission {k : Fin 16} {due : Nat} (h : s.KeepsSteps t) :
    s.KeepsSteps (t.startTransmission n k due) := by
  unfold Part.startTransmission
  extract_lets f unstaged lined marked frame sending
  have hlined : s.KeepsSteps lined := by
    unfold lined
    split
    exacts [h.modSlot.applyLines, h.modSlot]
  have hsending : s.KeepsSteps sending := (hlined.writeSlotStatus.ite hlined).modBuc
  split
  exacts [hsending.modBuc.completeStep.ite hsending, hsending]

theorem arbitrate (h : s.KeepsSteps t) : s.KeepsSteps (t.arbitrate n) := by
  unfold Part.arbitrate
  refine ite ?_ h
  split
  exacts [h.startTransmission, h]

theorem reachDue {d : Nat} (h : s.KeepsSteps t) : s.KeepsSteps (t.reachDue n d) := h.modBuc.arbitrate

theorem slotFallsDue {k : Fin 16} (h : s.KeepsSteps t) : s.KeepsSteps (t.slotFallsDue n k) := by
  unfold Part.slotFallsDue
  split
  exacts [h, h.ite (h.reachDue.ite h.modSlot)]

theorem muteBus (h : s.KeepsSteps t) : s.KeepsSteps (t.muteBus n) := by
  unfold Part.muteBus
  extract_lets before muted written recorded
  have hmuted : s.KeepsSteps muted := h.track (refl t).modBuc
  have hwritten : s.KeepsSteps written := hmuted.foldl fun u _ => ite (refl u).writeSlotStatus (refl u)
  have hrecorded : s.KeepsSteps recorded := hwritten.recordFault
  split
  exacts [hrecorded.changeSlot.modBuc.completeStep, hrecorded]

theorem transmissionEnds {how : TransmissionEnd} (h : s.KeepsSteps t) : s.KeepsSteps (t.transmissionEnds n how) := by
  unfold Part.transmissionEnds
  split
  · exact h
  · cases how with
    | acknowledged => exact h.modBuc.changeSlot.modBuc.arbitrate
    | notAcknowledged =>
      exact (ite h.modBuc.changeSlot.modBuc.muteBus h.modBuc.changeSlot.modBuc).changeSlot.arbitrate
    | arbitrationLost il => exact h.modBuc.modBuc.modSlot

theorem stopSlot {k : Fin 16} (h : s.KeepsSteps t) : s.KeepsSteps (t.stopSlot n k) :=
  h.ite h.modSlot.modBuc.writeSlotStatus

theorem clearMute (h : s.KeepsSteps t) : s.KeepsSteps (t.clearMute n) :=
  ite ((h.track (refl t).modBuc).foldl fun u _ => ite (refl u).writeSlotStatus (refl u)) h

theorem startSlot {k : Fin 16} (h : s.KeepsSteps t) : s.KeepsSteps (t.startSlot n k) :=
  h.modSlot.writeSlotStatus.writeSlotNacks

theorem fallDueAtStart {started : List (Fin 16)} (h : s.KeepsSteps t) : s.KeepsSteps (t.fallDueAtStart n started) :=
  h.ite h.modBuc.arbitrate

theorem handFrameRun {st : Step} (h : s.KeepsSteps t) : s.KeepsSteps (t.handFrameRun n st).1 := by
  unfold Part.handFrameRun
  extract_lets start stop
  split
  · exact h
  next stopped unmuted started begun running _ _ =>
    have hstopped : s.KeepsSteps stopped := h.foldl fun u _ => (refl u).stopSlot
    have hunmuted : s.KeepsSteps unmuted := hstopped.ite hstopped.clearMute
    exact (hunmuted.foldl fun u _ => (refl u).startSlot).fallDueAtStart

theorem preloadSlot {k : Fin 16} {payload : BitVec 64} {mask value : Byte} (h : s.KeepsSteps t) :
    s.KeepsSteps (t.preloadSlot n k payload mask value) := h.modSlot.ite h.modSlot.applyLines

theorem stageLoad {k : Fin 16} {payload : BitVec 64} {mask value : Byte} {sync : Bool} (h : s.KeepsSteps t) :
    s.KeepsSteps (t.stageLoad n k payload mask value sync).1 :=
  (h.modSlot.applyLines.ite h.modSlot).writeSlotStatus

theorem handFrameLoad {st : Step} (h : s.KeepsSteps t) : s.KeepsSteps (t.handFrameLoad n st).1 := by
  unfold Part.handFrameLoad
  split
  · exact h
  · exact ite_fst h (ite_fst (ite_fst h.stageLoad.modBuc h.stageLoad) h.preloadSlot)

theorem endFrameLoad {cause : EndCause} (h : s.KeepsSteps t) : s.KeepsSteps (t.endFrameLoad n cause) := by
  unfold Part.endFrameLoad
  split
  · exact h
  · cases cause with
    | deadline => exact h.modBuc.keepReport
    | stop => exact h.modBuc.keepReport.changeSlot

theorem stageLines {k : Fin 16} {mask value : Byte} (h : s.KeepsSteps t) :
    s.KeepsSteps (t.stageLines n k mask value).1 := ite_fst h.modSlot.writeSlotStatus h

theorem handSetLines {st : Step} (h : s.KeepsSteps t) : s.KeepsSteps (t.handSetLines n st).1 := by
  unfold Part.handSetLines
  refine ite_fst h (ite_fst ?_ h.applyLines)
  split
  · next e => exact fst_of_eq e h.stageLines
  · next e => exact (fst_of_eq e h.stageLines).applyLines

theorem startBus (h : s.KeepsSteps t) : s.KeepsSteps (t.startBus n) := h.track (refl t).modBuc

theorem endCheckFrame (h : s.KeepsSteps t) : s.KeepsSteps (t.endCheckFrame n) := by
  unfold Part.endCheckFrame
  split
  exacts [h, h.modBuc.keepReport]

theorem stopBus (h : s.KeepsSteps t) : s.KeepsSteps (t.stopBus n) := by
  have g : s.KeepsSteps (match (t.buc.get n).loadWait with
      | some w => t.keepReport n w.results
      | none => t) := by
    split
    exacts [h.keepReport, h]
  exact (g.endCheckFrame.track (refl _).modBuc).foldl fun u _ => (refl u).writeSlotStatus.writeSlotNacks

theorem writeCaptureFlags {k : Fin 8} (h : s.KeepsSteps t) : s.KeepsSteps (t.writeCaptureFlags n k) :=
  h.put (captureAt_lt n k (by decide))

theorem writeCapture {k : Fin 8} (h : s.KeepsSteps t) : s.KeepsSteps (t.writeCapture n k) :=
  have g := (h.put (captureAt_lt n k (by decide))).put (captureAt_lt n k (by decide))
  (((g.put (captureAt_lt n k (by decide))).put (captureAt_lt n k (by decide))).put
    (captureAt_lt n k (by decide))).writeCaptureFlags

theorem examine (h : s.KeepsSteps t) : s.KeepsSteps (t.examine n).1 := by
  unfold Part.examine
  split
  · exact h
  · exact ite_fst h.modFilter.writeCaptureFlags.modBuc h.modFilter.writeCaptureFlags.modBuc

theorem offerFrame {f : Frame} {il : BitVec 4} {k : Fin 8} (h : s.KeepsSteps t) :
    s.KeepsSteps (t.offerFrame n f il k) := by
  unfold Part.offerFrame
  split
  · exact h
  · refine ite (ite ?_ h.modFilter.writeCapture) h
    split
    · next e => exact (fst_of_eq e h.modFilter.writeCapture.examine).completeStep
    · next e => exact fst_of_eq e h.modFilter.writeCapture.examine

theorem receptionStarts {il : BitVec 4} (h : s.KeepsSteps t) : s.KeepsSteps (t.receptionStarts n il) := h.modBuc.ite h

theorem receptionEnds {how : ReceptionEnd} (h : s.KeepsSteps t) : s.KeepsSteps (t.receptionEnds n how) := by
  unfold Part.receptionEnds
  split
  · exact h
  · cases how with
    | data f => exact (h.foldl fun u _ => (refl u).offerFrame).modBuc.arbitrate
    | remote | error => exact h.modBuc.arbitrate

theorem armFilter {k : Fin 8} (h : s.KeepsSteps t) : s.KeepsSteps (t.armFilter n k) := h.modFilter.writeCapture

theorem handCaptureArm {st : Step} (h : s.KeepsSteps t) : s.KeepsSteps (t.handCaptureArm n st).1 :=
  ite_fst h ((h.foldl fun u _ => (refl u).modFilter).foldl fun u _ => (refl u).armFilter)

theorem handCheckFrame {st : Step} (h : s.KeepsSteps t) : s.KeepsSteps (t.handCheckFrame n st).1 := by
  unfold Part.handCheckFrame
  split
  · exact h
  · refine ite_fst h (ite_fst h.modBuc.modFilter.writeCaptureFlags (ite_fst ?_ h.modBuc))
    split <;> next e => exact fst_of_eq e h.modBuc.examine

/-! ### Precision converter -/

theorem modGrant {f : Grant → Grant} (h : s.KeepsSteps t) : s.KeepsSteps (t.modGrant f) := h.modPcv
theorem setMeasurement {m : Option Measurement} (h : s.KeepsSteps t) : s.KeepsSteps (t.setMeasurement n m) := h.modPcv
theorem openRoute (h : s.KeepsSteps t) : s.KeepsSteps t.openRoute := h.modPcv
theorem closePoint {r : Fin 64} (h : s.KeepsSteps t) : s.KeepsSteps (t.closePoint r) := h.modPcv

theorem beginPoint {q : W16} {k : Nat} {p : SweepPoint} (h : s.KeepsSteps t) :
    s.KeepsSteps (t.beginPoint n q k p) := h.modPcv.closePoint

theorem grantConverter {q : W16} (h : s.KeepsSteps t) : s.KeepsSteps (t.grantConverter n q) := by
  unfold Part.grantConverter
  split
  exacts [h.beginPoint, h]

theorem keepMeasurement (h : s.KeepsSteps t) : s.KeepsSteps (t.keepMeasurement n) := by
  unfold Part.keepMeasurement
  split
  exacts [h.keepReport, h]

theorem grantHead {q : List (NestId × W16)} (h : s.KeepsSteps t) : s.KeepsSteps (t.grantHead q) := by
  induction q generalizing t with
  | nil => exact h.modPcv
  | cons e q ih => exact ite h.modPcv.grantConverter.holdEnd (ih h.keepMeasurement)

theorem releaseConverter (h : s.KeepsSteps t) : s.KeepsSteps t.releaseConverter := h.openRoute.modPcv.grantHead

theorem handMeasure {st : Step} (h : s.KeepsSteps t) : s.KeepsSteps (t.handMeasure n st).1 := by
  dsimp only [Part.handMeasure]
  split
  · exact h
  · split_ifs
    exacts [h, h, h.setMeasurement.grantConverter, pair h.setMeasurement.modPcv]

theorem converterSettles (h : s.KeepsSteps t) : s.KeepsSteps t.converterSettles := by
  unfold Part.converterSettles
  split
  exacts [h, h.ite h.modGrant]

theorem completeMeasurement {m : Measurement} (h : s.KeepsSteps t) : s.KeepsSteps (t.completeMeasurement n m) :=
  h.openRoute.setMeasurement.completeStep.releaseConverter

theorem completePoint {g : Grant} {m : Measurement} {p : SweepPoint} (h : s.KeepsSteps t) :
    s.KeepsSteps (t.completePoint g m p) := by
  dsimp only [Part.completePoint]
  split
  exacts [h.setMeasurement.openRoute.beginPoint, h.completeMeasurement]

theorem takeSample {code : W16} (h : s.KeepsSteps t) : s.KeepsSteps (t.takeSample code) := by
  unfold Part.takeSample
  split
  · exact h
  · split
    · exact h
    · refine h.ite (ite h.modGrant ?_)
      split
      exacts [h.modGrant.completePoint, h.modGrant]

theorem endMeasurement (h : s.KeepsSteps t) : s.KeepsSteps (t.endMeasurement n) :=
  ite h.keepMeasurement.setMeasurement.releaseConverter h

theorem withdrawMeasurement (h : s.KeepsSteps t) : s.KeepsSteps (t.withdrawMeasurement n) :=
  ite h.keepMeasurement.modPcv h

theorem stopMeasurement (h : s.KeepsSteps t) : s.KeepsSteps (t.stopMeasurement n) :=
  h.withdrawMeasurement.endMeasurement

/-! ### Gauge monitors -/

theorem modGauge {g : Fin 4} {f : Gauge → Gauge} (h : s.KeepsSteps t) : s.KeepsSteps (t.modGauge n g f) := h.modGmn

theorem takeCoilEvent {g : Fin 4} {pair : CoilPair} (h : s.KeepsSteps t) : s.KeepsSteps (t.takeCoilEvent n g pair) :=
  ite (ite h.modGauge.modGauge.modGmn h.modGauge.modGauge) h.modGauge

theorem startMonitor (h : s.KeepsSteps t) : s.KeepsSteps (t.startMonitor n) := h.modGmn

theorem gaugeSettles (h : s.KeepsSteps t) : s.KeepsSteps (t.gaugeSettles n) := by
  unfold Part.gaugeSettles
  split
  exacts [h, h.ite h.modGmn.completeStep]

theorem endGaugeCheck (h : s.KeepsSteps t) : s.KeepsSteps (t.endGaugeCheck n) := by
  unfold Part.endGaugeCheck
  split
  exacts [h, h.modGmn.keepReport]

theorem freezeMonitor (h : s.KeepsSteps t) : s.KeepsSteps (t.freezeMonitor n) := h.modGmn.endGaugeCheck

theorem handGaugeZero {st : Step} (h : s.KeepsSteps t) : s.KeepsSteps (t.handGaugeZero n st).1 := ite_fst h h.modGmn

theorem handCheckGauge {st : Step} (h : s.KeepsSteps t) : s.KeepsSteps (t.handCheckGauge n st).1 := by
  unfold Part.handCheckGauge
  split
  exacts [ite_fst h (ite_fst h h.modGmn), h]

/-! ### Lamps and pulse capture -/

theorem takeLampEvent {lamp : Fin 16} {current : W32} (h : s.KeepsSteps t) :
    s.KeepsSteps (t.takeLampEvent n lamp current) := by
  dsimp only [Part.takeLampEvent]
  split
  exacts [h.modLpc, ite h.modLpc.modLpc.completeStep h.modLpc.modLpc]

theorem handCheckLamps {st : Step} (h : s.KeepsSteps t) : s.KeepsSteps (t.handCheckLamps n st).1 := by
  unfold Part.handCheckLamps
  split
  exacts [h, ite_fst h (ite_fst h h.modLpc)]

theorem lampsStable (h : s.KeepsSteps t) : s.KeepsSteps (t.lampsStable n) := by
  unfold Part.lampsStable
  split
  exacts [h, h.modLpc.completeStep.ite h]

theorem endLampWatch (h : s.KeepsSteps t) : s.KeepsSteps (t.endLampWatch n) := by
  unfold Part.endLampWatch
  split
  exacts [h, h.modLpc.keepReport]

theorem modInput {i : Fin 4} {f : PulseInput → PulseInput} (h : s.KeepsSteps t) : s.KeepsSteps (t.modInput n i f) :=
  h.modLpc

theorem takeEdge {i : Fin 4} {high : Bool} (h : s.KeepsSteps t) : s.KeepsSteps (t.takeEdge n i high) := by
  dsimp only [Part.takeEdge]
  split
  exacts [h.modInput, ite h.modInput.modInput.completeStep h.modInput.modInput]

theorem takeLevel {i : Fin 4} {high : Bool} (h : s.KeepsSteps t) : s.KeepsSteps (t.takeLevel n i high) :=
  h.ite h.takeEdge

theorem handCheckFreq {st : Step} (h : s.KeepsSteps t) : s.KeepsSteps (t.handCheckFreq n st).1 := by
  unfold Part.handCheckFreq
  split
  exacts [h, ite_fst h h.modInput]

theorem endCapture (h : s.KeepsSteps t) : s.KeepsSteps (t.endCapture n) := by
  unfold Part.endCapture
  split
  exacts [h, h.modLpc.keepReport]

theorem lpcDeparts (h : s.KeepsSteps t) : s.KeepsSteps (t.lpcDeparts n) := h.endLampWatch.endCapture

end Sys2Proof.Machine.Part.KeepsSteps
end

section
/-! The fixture controller, the panel controller and the hand-offs keep the steps in execution. -/

namespace Sys2Proof.Machine

theorem Panel.cutText_prompts (p : Panel) : p.cutText.prompts = p.prompts := by
  unfold Panel.cutText; split <;> rfl

namespace Part.KeepsSteps

variable {s t u : Part} {n : NestId}

/-! ### Fixture controller -/

theorem enterPowered (h : s.KeepsSteps t) : s.KeepsSteps (t.enterPowered n) := h.startBus.startMonitor

theorem leavePowered (h : s.KeepsSteps t) : s.KeepsSteps (t.leavePowered n) :=
  h.enforceIdle.stopBus.freezeMonitor.lpcDeparts.stopMeasurement

theorem closeSwitch {e : PowerEntry} (h : s.KeepsSteps t) : s.KeepsSteps (t.closeSwitch e) := h.modFxc.publish

theorem withPowerQueue {q : List PowerEntry} (h : s.KeepsSteps t) : s.KeepsSteps { t with powerQueue := q } :=
  h.of_same (by rfl)

theorem grantPower (h : s.KeepsSteps t) : s.KeepsSteps t.grantPower := by
  unfold Part.grantPower
  split
  · exact h
  · exact h.withPowerQueue.closeSwitch.holdEnd

theorem openSwitch (h : s.KeepsSteps t) : s.KeepsSteps (t.openSwitch n) := h.modFxc.publish

theorem beginDischarge (h : s.KeepsSteps t) : s.KeepsSteps (t.beginDischarge n) :=
  ite h.openSwitch.leavePowered.grantPower h.openSwitch.leavePowered

theorem fixHeldTime {e : PowerEntry} (h : s.KeepsSteps t) : s.KeepsSteps (t.fixHeldTime e) := h.modFxc

theorem withdrawPower (h : s.KeepsSteps t) : s.KeepsSteps (t.withdrawPower n) := by
  unfold Part.withdrawPower
  split
  · exact h
  · exact h.withPowerQueue.fixHeldTime

theorem emptyPowerQueue (h : s.KeepsSteps t) : s.KeepsSteps t.emptyPowerQueue :=
  h.withPowerQueue.foldl fun u _ => (refl u).fixHeldTime

theorem endPowering (h : s.KeepsSteps t) : s.KeepsSteps (t.endPowering n) := h.beginDischarge.ite h
theorem requestPowerOff (h : s.KeepsSteps t) : s.KeepsSteps (t.requestPowerOff n) := h.beginDischarge.ite h
theorem holdFixture (h : s.KeepsSteps t) : s.KeepsSteps (t.holdFixture n).1 := h.modFxc

theorem handClamp (h : s.KeepsSteps t) : s.KeepsSteps (t.handClamp n).1 := by
  dsimp only [Part.handClamp]
  split
  exacts [ite_fst h (ite_fst h.modFxc.publish h.modFxc.publish), h.holdFixture, h]

theorem handUnclamp (h : s.KeepsSteps t) : s.KeepsSteps (t.handUnclamp n).1 := by
  dsimp only [Part.handUnclamp]
  split
  exacts [ite_fst h.modFxc.publish h.modFxc.publish, ite_fst h.modFxc.publish h.modFxc.publish, h.holdFixture, h]

theorem handContact {st : Step} (h : s.KeepsSteps t) : s.KeepsSteps (t.handContact n st).1 := by
  dsimp only [Part.handContact]
  split
  exacts [ite_fst h.publish h.publish, ite_fst h.publish h.publish, h.holdFixture, h]

theorem handPowerOn {st : Step} (h : s.KeepsSteps t) : s.KeepsSteps (t.handPowerOn n st).1 := by
  dsimp only [Part.handPowerOn]
  split_ifs
  exacts [h, h.modFxc.holdFixture, h, h.modFxc.closeSwitch, h.modFxc.withPowerQueue]

theorem handPowerOff (h : s.KeepsSteps t) : s.KeepsSteps (t.handPowerOff n).1 := by
  unfold Part.handPowerOff
  split
  exacts [h.beginDischarge, h, h.holdFixture, h]

theorem handFixture {k : Kind} {st : Step} (h : s.KeepsSteps t) : s.KeepsSteps (t.handFixture n k st).1 := by
  unfold Part.handFixture
  split
  exacts [h.handClamp, h.handUnclamp, h.handContact, h.handPowerOn, h.handPowerOff, h]

theorem endPowerOn {cause : EndCause} (h : s.KeepsSteps t) : s.KeepsSteps (t.endPowerOn n cause) :=
  have g := ite h.withdrawPower.endPowering h.withdrawPower
  g.keepReport.ite g

theorem endFixtureStep {k : Kind} {cause : EndCause} (h : s.KeepsSteps t) :
    s.KeepsSteps (t.endFixtureStep n k cause) := by
  unfold Part.endFixtureStep
  split
  exacts [h.modFxc.keepReport, h.modFxc.keepReport, h.modFxc.keepReport, h.modFxc.endPowerOn, h.modFxc]

theorem reverseClamp (h : s.KeepsSteps t) : s.KeepsSteps (t.reverseClamp n) := h.modFxc.publish

theorem clampClosedActive (h : s.KeepsSteps t) : s.KeepsSteps (t.clampClosedActive n) :=
  ite h.modFxc.modFxc.publish.completeStep h.modFxc

theorem clampOpenActive (h : s.KeepsSteps t) : s.KeepsSteps (t.clampOpenActive n) :=
  ite h.modFxc.modFxc.publish.completeStep h.modFxc

theorem lidOpens (h : s.KeepsSteps t) : s.KeepsSteps (t.lidOpens n) := by
  dsimp only [Part.lidOpens]
  split
  · exact h.modFxc.reverseClamp.completeStep
  · exact ite h.modFxc.publish.withdrawPower.completeStep h.modFxc.publish
  · exact h.modFxc.beginDischarge.send (by simp)
  · exact h.modFxc.beginDischarge.send (by simp)
  · exact h.modFxc

theorem tripSupply (h : s.KeepsSteps t) : s.KeepsSteps (t.tripSupply n) :=
  h.beginDischarge.send (by simp)

theorem fuseTrips (h : s.KeepsSteps t) : s.KeepsSteps (t.fuseTrips n) := ite h.modFxc.tripSupply h.modFxc

theorem takeSensor {c : SensorChange} (h : s.KeepsSteps t) : s.KeepsSteps (t.takeSensor n c) := by
  unfold Part.takeSensor
  split
  exacts [h.clampClosedActive, h.modFxc, h.clampOpenActive, h.modFxc, h.lidOpens, h.modFxc, h.modFxc, h.modFxc,
    h.fuseTrips, h.modFxc]

theorem motionExpires (h : s.KeepsSteps t) : s.KeepsSteps (t.motionExpires n) := by
  refine h.ite ?_
  extract_lets stopped
  split
  exacts [h.modFxc.reverseClamp.recordFault.completeStep, h.modFxc.recordFault.completeStep, h.modFxc]

theorem inrushExpires (h : s.KeepsSteps t) : s.KeepsSteps (t.inrushExpires n) :=
  have g := h.modFxc.modFxc.publish.enterPowered.completeStep.grantPower
  ite h (ite h.modFxc (ite (ite g.tripSupply g) h.modFxc.beginDischarge.completeStep))

theorem reexamine (h : s.KeepsSteps t) : s.KeepsSteps (t.reexamine n) := by
  unfold Part.reexamine
  extract_lets freed
  have hf : s.KeepsSteps freed := h.modFxc
  split
  · exact hf
  · next st hst =>
    split
    · exact hf
    · next k _ =>
      have hand : freed.KeepsSteps (freed.handFixture n k st).1 := (refl freed).handFixture
      split
      · next e => exact hf.trans (fst_of_eq e hand).holdEnd.sendOutcome
      · next e => exact hf.trans (fst_of_eq e hand).holdEnd
      · next e => exact hf.trans ((fst_of_eq e hand).holdFor (by simp [(fst_of_eq e hand).steps, hst]))

theorem dischargeExpires (h : s.KeepsSteps t) : s.KeepsSteps (t.dischargeExpires n) :=
  have g := ite h.modFxc.publish.completeStep h.modFxc.publish
  ite h (ite h.modFxc (g.reexamine.ite g))

theorem takeStop (h : s.KeepsSteps t) : s.KeepsSteps t.takeStop :=
  have g := ((h.of_same (u := { t with station := .stopped, stopPressed := true }) (by rfl)).put
    stationAt_lt).setFactor.emptyPowerQueue
  have g := (g.foldl fun u _ => (refl u).openSwitch).foldl fun u _ => (refl u).leavePowered
  have g := (g.foldl fun u _ => (refl u).reverseClamp.ite (refl u)).offerFault
  (g.foldl fun u _ => (refl u).send (by simp)).send (by simp)

theorem takeStopInput {pressed : Bool} (h : s.KeepsSteps t) : s.KeepsSteps (t.takeStopInput pressed) :=
  have g := h.of_same (u := { t with stopPressed := pressed }) (by rfl)
  h.takeStop.ite (g.ite (g.put stationAt_lt))

theorem takeResume (h : s.KeepsSteps t) : s.KeepsSteps t.takeResume :=
  ite ((h.of_same (u := { t with station := .run }) (by rfl)).put stationAt_lt) h

/-! ### Panel controller -/

/-- The prompt queue changed, with every entry behind its head QUEUED still. -/
theorem modPrompts {f : Panel → Panel} (h : s.KeepsSteps t)
    (hf : t.HeadAlone → ∀ e ∈ (f t.opc).prompts.tail, e.state = .queued) : s.KeepsSteps (t.modOpc f) :=
  h.trans ⟨And.left, rfl, fun _ => rfl, fun _ => id, id, hf⟩

theorem modHead {f : PromptEntry → PromptEntry} (h : s.KeepsSteps t) : s.KeepsSteps (t.modHead f) :=
  h.modPrompts fun ha e he => ha e (by simpa using he)

theorem startTransfer {kind : Link} {first : Byte} {rest : List Byte} (h : s.KeepsSteps t) :
    s.KeepsSteps (t.startTransfer kind first rest) := by
  unfold Part.startTransfer
  exact h.modOpc (by simp)

theorem loadText {c : TextCursor} (h : s.KeepsSteps t) : s.KeepsSteps (t.loadText c) :=
  ite (h.modOpc (by simp)) (h.modOpc (by simp))

theorem loadNext (h : s.KeepsSteps t) : s.KeepsSteps t.loadNext := by
  unfold Part.loadNext
  split
  exacts [h.loadText, h.modOpc (by simp)]

theorem startText {e : PromptEntry} (h : s.KeepsSteps t) : s.KeepsSteps (t.startText e) :=
  (h.startTransfer.modOpc (by simp)).loadText.modHead.holdEnd

theorem linkStart (h : s.KeepsSteps t) : s.KeepsSteps t.linkStart := by
  unfold Part.linkStart
  refine h.ite (ite (h.startTransfer.modOpc (by simp)) ?_)
  extract_lets clear
  have hclear : s.KeepsSteps (clear t) := ite (h.startTransfer.modOpc (by simp)) h
  split
  exacts [h.startText.ite hclear, hclear]

theorem abandonReplay (h : s.KeepsSteps t) : s.KeepsSteps (t.abandonReplay n) := h.endReplay.markLate

theorem removeEntry (h : s.KeepsSteps t) : s.KeepsSteps (t.removeEntry n) := by
  unfold Part.removeEntry
  extract_lets wasHead removed
  have hr : s.KeepsSteps removed := h.modPrompts fun ha e he => ha e ((List.filter_sublist.tail).mem he)
  cases wasHead with
  | none => exact hr
  | some e =>
    refine (modOpc ?_ (by simp)).linkStart
    split
    exacts [hr.modOpc Panel.cutText_prompts, hr.abandonReplay, hr]

theorem handPrompt {st : Step} (h : s.KeepsSteps t) : s.KeepsSteps (t.handPrompt n st).1 := by
  unfold Part.handPrompt
  extract_lets queued started
  have hq : s.KeepsSteps queued := h.linkStart.modPrompts fun ha e he => by
    rw [List.tail_append] at he
    split at he
    · simp at he
    · simp only [List.mem_append, List.mem_singleton] at he
      rcases he with he | rfl
      exacts [ha e he, rfl]
  split
  exacts [ite_fst hq.linkStart hq.linkStart, hq.linkStart]

theorem keepUnanswered {e : PromptEntry} (h : s.KeepsSteps t) : s.KeepsSteps (t.keepUnanswered e) := h.keepReport

theorem answerHead {e : PromptEntry} {pass : Bool} (h : s.KeepsSteps t) : s.KeepsSteps (t.answerHead e pass) :=
  (ite h.modHead.completeStep h.modHead.completeStep).keepUnanswered.removeEntry

theorem repeatHead {e : PromptEntry} (h : s.KeepsSteps t) : s.KeepsSteps (t.repeatHead e) := by
  unfold Part.repeatHead
  refine ite ?_ h
  split
  · next e => exact (fst_of_eq e h.startReplay).modHead
  · next e => exact fst_of_eq e h.startReplay

theorem takePress {p : Press} (h : s.KeepsSteps t) : s.KeepsSteps (t.takePress p) := by
  unfold Part.takePress
  split
  · exact h
  · refine ite ?_ h
    split
    exacts [h.answerHead, h.answerHead, h.repeatHead]

theorem sampleButtons {image : Byte} (h : s.KeepsSteps t) : s.KeepsSteps (t.sampleButtons image) := by
  dsimp only [Part.sampleButtons]
  split
  exacts [(h.modOpc (by simp)).takePress, h.modOpc (by simp)]

theorem endText (h : s.KeepsSteps t) : s.KeepsSteps t.endText := by
  unfold Part.endText
  split
  exacts [h.modHead.ite h, h]

theorem endTransfer {returned : Byte} (h : s.KeepsSteps t) : s.KeepsSteps (t.endTransfer returned) := by
  unfold Part.endTransfer
  extract_lets o idle
  have hi : s.KeepsSteps idle := h.modOpc (by simp)
  refine linkStart (ite hi ?_)
  split
  exacts [hi.sampleButtons.ite hi, hi.endText, hi]

theorem endByte {returned : Byte} (h : s.KeepsSteps t) : s.KeepsSteps (t.endByte returned) := by
  unfold Part.endByte
  refine h.ite ?_
  split
  exacts [(h.modOpc (by simp)).loadNext, h.endTransfer]

theorem takePollDue (h : s.KeepsSteps t) : s.KeepsSteps t.takePollDue :=
  h.ite (h.linkStart.modOpc (by simp)).linkStart

theorem answerExpires (h : s.KeepsSteps t) : s.KeepsSteps t.answerExpires := by
  unfold Part.answerExpires
  split
  exacts [h, ite h.modHead.completeStep.removeEntry h]

theorem takeReplayEnded (h : s.KeepsSteps t) : s.KeepsSteps (t.takeReplayEnded n) := h.modHead.ite h
theorem takeReplayCut (h : s.KeepsSteps t) : s.KeepsSteps (t.takeReplayCut n) := h.modHead.ite h

theorem withdrawPrompt (h : s.KeepsSteps t) : s.KeepsSteps (t.withdrawPrompt n) := by
  unfold Part.withdrawPrompt
  split
  exacts [h, h.keepUnanswered.removeEntry]

theorem dropEntry {e : PromptEntry} (h : s.KeepsSteps t) : s.KeepsSteps (t.dropEntry e) := by
  dsimp only [Part.dropEntry]
  split
  exacts [h.keepUnanswered.modOpc Panel.cutText_prompts, h.keepUnanswered.abandonReplay, h.keepUnanswered]

theorem stopPanel (h : s.KeepsSteps t) : s.KeepsSteps t.stopPanel :=
  ((h.foldl fun u _ => (refl u).dropEntry).modPrompts fun _ => by simp).linkStart

/-! ### Hand-offs -/

theorem handOff {k : Kind} {st : Step} (h : s.KeepsSteps t) : s.KeepsSteps (t.handOff n k st).1 := by
  cases k with
  | unitBegin | unitEnd | wait => exact h
  | clamp | contact | powerOn | powerOff | unclamp => exact h.handFixture
  | setPulse => exact h.handSetPulse
  | setSender => exact h.handSetSender
  | setLines => exact h.handSetLines
  | frameRun => exact h.handFrameRun
  | frameLoad => exact h.handFrameLoad
  | captureArm => exact h.handCaptureArm
  | checkFrame => exact h.handCheckFrame
  | gaugeZero => exact h.handGaugeZero
  | checkGauge => exact h.handCheckGauge
  | checkLamps => exact h.handCheckLamps
  | checkFreq => exact h.handCheckFreq
  | measure => exact h.handMeasure
  | prompt => exact h.handPrompt

end Part.KeepsSteps
end Sys2Proof.Machine
end

section
/-! What every command keeps. -/

namespace Sys2Proof.Machine

/-- No step is in execution on nest `n`, and every other nest is RUNNING or HELD exactly while one of it is. -/
def Part.Between (n : NestId) (s : Part) : Prop := (s.nsq.get n).step = none ∧ ∀ m, m ≠ n → (s.nsq.get m).Matches

/-- From part `s`, which `P` describes, to part `t`, which `Q` then describes, every invariant of exchange memory, of the
queues and of the outcomes is kept. `P` and `Q` are `StepsMatch` at the ends of a command, and `Between n` inside it, where
nest `n` has ended one step and not yet accepted the next. -/
structure Part.Keeps (P Q : Part → Prop) (s t : Part) : Prop where
  formed : s.MemoryFormed → t.MemoryFormed
  distinct : s.WatchQueueDistinct → t.WatchQueueDistinct
  heads : s.HeadAlone → t.HeadAlone
  reaches : P s → Q t
  outcomes : P s → s.OutcomesCurrent → t.OutcomesCurrent

namespace Part.KeepsSteps

variable {s t u : Part} {n : NestId}

theorem distinct (h : s.KeepsSteps t) (hs : s.WatchQueueDistinct) : t.WatchQueueDistinct :=
  (congrArg List.Nodup h.watchQueue).mpr hs

theorem keeps (h : s.KeepsSteps t) : Part.Keeps StepsMatch StepsMatch s t :=
  ⟨h.formed, h.distinct, h.heads, fun hs n => h.matched n (hs n), fun _ => h.outcomes⟩

theorem between (h : s.KeepsSteps t) : Part.Keeps (Between n) (Between n) s t :=
  ⟨h.formed, h.distinct, h.heads, fun hs => ⟨(h.steps n).trans hs.1, fun m hm => h.matched m (hs.2 m hm)⟩,
    fun _ => h.outcomes⟩

/-! ### Within the sequencer -/

theorem putSlot {st : Step} {k : Nat} {v : W32} (h : s.KeepsSteps t) (hst : (s.nsq.get n).step = some st)
    (hk : k < 16) : s.KeepsSteps (t.putSlot st k v) :=
  h.put_formed fun hm => slotAt_lt (hm.2 n st (by rw [h.steps, hst])) hk

/-- The record of the step in execution written FINAL (R14). -/
theorem writeFinal {st : Step} {v : Verdict} {d : Detail} {r : Results} (h : s.KeepsSteps t)
    (hst : (s.nsq.get n).step = some st) : s.KeepsSteps (t.writeFinal st v d r) :=
  have g := ((h.putSlot hst (by decide)).putSlot hst (by decide)).putSlot hst (by decide)
  have g := ((g.putSlot hst (by decide)).putSlot hst (by decide)).putSlot hst (by decide)
  (g.putSlot hst (by decide)).putSlot hst (by decide)

theorem setSkipping {on : Bool} (h : s.KeepsSteps t) : s.KeepsSteps (t.setSkipping n on) :=
  h.track ((refl t).modNsq (by simp))

theorem beginUnit {st : Step} (h : s.KeepsSteps t) : s.KeepsSteps (t.beginUnit n st).1 :=
  (h.closeUnit.ite h).openUnit

theorem endUnit (h : s.KeepsSteps t) : s.KeepsSteps (t.endUnit n).1 := ite_fst h.closeUnit h

theorem beginWait {st : Step} (h : s.KeepsSteps t) : s.KeepsSteps (t.beginWait n st) :=
  h.modNsq (by simp)
theorem keepBack (h : s.KeepsSteps t) : s.KeepsSteps (t.keepBack n) := h.modNsq (by simp)
theorem setLimit {limit : W16} (h : s.KeepsSteps t) : s.KeepsSteps (t.setLimit n limit) :=
  (h.modNsq (by simp)).putNest (by decide)

/-- The course of an accepted step (R26). -/
theorem perform {st : Step} (hi : (t.nsq.get n).step.isSome = true) : t.KeepsSteps (t.perform n st).1 := by
  unfold Part.perform
  refine ite_fst (refl t) ?_
  split
  · exact refl t
  · exact (refl t).beginUnit
  · exact (refl t).endUnit
  · exact ite_fst (refl t) (refl t).beginWait
  · next k _ _ _ _ =>
    refine ite_fst (refl t).keepBack ?_
    have hand : t.KeepsSteps (t.handOff n k st).1 := (refl t).handOff
    split
    · next e => exact fst_of_eq e hand
    · next e => exact fst_of_eq e hand
    · next e => exact (fst_of_eq e hand).holdFor (by simp [(fst_of_eq e hand).steps, hi])

theorem stopOwner {cause : EndCause} (h : s.KeepsSteps t) : s.KeepsSteps (t.stopOwner n cause) := by
  unfold Part.stopOwner
  split
  · exact h
  · split
    · exact h
    · next k _ =>
      refine h.ite ?_
      cases k with
      | clamp | contact | powerOn | powerOff | unclamp => exact h.endFixtureStep
      | setPulse => dsimp only; split; exacts [h.stopBurst, h]
      | setSender => dsimp only; split; exacts [h.stopSenderSettle, h]
      | frameLoad => exact h.endFrameLoad
      | checkFrame => exact h.endCheckFrame
      | checkGauge => exact h.endGaugeCheck
      | checkLamps => exact h.endLampWatch
      | checkFreq => exact h.endCapture
      | measure => exact h.stopMeasurement
      | prompt => exact h.withdrawPrompt
      | unitBegin | unitEnd | wait | setLines | frameRun | captureArm | gaugeZero => exact h

theorem shutDown (h : s.KeepsSteps t) : s.KeepsSteps (t.shutDown n) := h.requestPowerOff.abortUnit

theorem postUnderStop {post : W16} (h : s.KeepsSteps t) : s.KeepsSteps (t.postUnderStop n post) := by
  unfold Part.postUnderStop
  split
  exacts [h.setLimit, h.setLimit.ite (h.ite h.setFactor)]

/-! ### Within the exchange port -/

theorem releaseFirstFault (h : s.KeepsSteps t) : s.KeepsSteps t.releaseFirstFault := by
  unfold Part.releaseFirstFault
  split
  · exact h
  · exact (((h.of_same (u := { t with firstFault := none }) (by rfl)).put ffStateAt_lt).put ffStepAt_lt).put ffTimeAt_lt

theorem takeHostWrite {word : W16} {bytes : BitVec 4} {value : W32} (h : s.KeepsSteps t) :
    s.KeepsSteps (t.takeHostWrite word bytes value) := by
  unfold Part.takeHostWrite
  extract_lets written
  have hw : s.KeepsSteps written := h.trans
    ⟨fun hm => Memory.wf_hostWrite bytes value hm.1 word.isLt, rfl, fun _ => rfl, fun _ => id, id, id⟩
  split
  exacts [hw.ite (hw.send (by simp)), hw]

theorem retireAtReset (h : s.KeepsSteps t) : s.KeepsSteps (t.retireAtReset n) := by
  unfold Part.retireAtReset
  split
  · next st hst => exact h.writeFinal (n := n) (by rw [← h.steps, hst])
  · exact h

theorem rest (h : s.KeepsSteps t) : s.KeepsSteps t.rest := h.linkStart.ite (h.ite (h.of_same (by rfl)))

end Part.KeepsSteps

namespace Part.Keeps

variable {P Q R : Part → Prop} {s t u : Part} {n : NestId}

theorem trans (h : Part.Keeps P Q s t) (g : Part.Keeps Q R t u) : Part.Keeps P R s u where
  formed := g.formed ∘ h.formed
  distinct := g.distinct ∘ h.distinct
  heads := g.heads ∘ h.heads
  reaches := g.reaches ∘ h.reaches
  outcomes hs := g.outcomes (h.reaches hs) ∘ h.outcomes hs

theorem ite {c : Prop} [Decidable c] {a b : Part} (ha : Part.Keeps P Q s a) (hb : Part.Keeps P Q s b) :
    Part.Keeps P Q s (if c then a else b) := by split <;> assumption

/-- A nest that is neither RUNNING nor HELD has no step in execution. -/
theorem idle (hr : (s.nsq.get n).state ≠ .running) (hh : (s.nsq.get n).state ≠ .held) :
    Part.Keeps StepsMatch (Between n) s s :=
  ⟨id, id, id, fun hs => ⟨by simpa [hr, hh] using hs n, fun m _ => hs m⟩, fun _ => id⟩

/-! ### A step ends, and a step is accepted -/

/-- A sequencer drops its step, and the outcomes of it that are still on their way are late (R28). -/
theorem dropStep {f : Nsq → Nsq} (hf : ∀ q, (f q).step = none) :
    Part.Keeps StepsMatch (Between n) t ((t.modNsq n f).forgetStep n) where
  formed h := ⟨h.1, fun m st hst => by
    by_cases hm : n = m
    · simp [Part.forgetStep, hm, hf] at hst
    · exact h.2 m st (by simpa [Part.forgetStep, hm] using hst)⟩
  distinct := id
  heads := id
  reaches h := ⟨by simp [Part.forgetStep, hf], fun m hm => by
    simpa [Part.forgetStep, Nsq.Matches, Ne.symm hm] using h m⟩
  outcomes _ h o ho := by
    obtain ⟨x, hx, e⟩ := List.mem_map.1 ho
    split at e
    · cases e
    · next hno =>
      subst e
      have hn : n ≠ o.nest := fun e => hno (by simp [Notice.isOutcomeOf, e])
      simpa [Part.forgetStep, hn] using h o hx

/-- The step in execution retires (R14). -/
theorem retire {v : Verdict} {d : Detail} {r : Results} : Part.Keeps StepsMatch (Between n) s (s.retire n v d r) := by
  unfold Part.retire
  split
  · next hno => exact ⟨id, id, id, fun hs => ⟨hno, fun m _ => hs m⟩, fun _ => id⟩
  · next st hst =>
    extract_lets final skipped dropped retired cleared
    have hfinal : s.KeepsSteps final := ((KeepsSteps.refl s).writeFinal hst).countStep
    have hdropped : Part.Keeps StepsMatch (Between n) s (dropped.forgetStep n) :=
      hfinal.setSkipping.keeps.trans (dropStep fun _ => rfl)
    have hcleared : Part.Keeps StepsMatch (Between n) s cleared :=
      hdropped.trans (((KeepsSteps.refl _).putNest (by decide)).putNest (by decide)).between
    exact (hcleared.trans (KeepsSteps.refl _).setFactor.between).ite hcleared

/-- A sequencer takes a step of the pool into execution; the outcomes of it on their way are none. -/
theorem takeStep {f : Nsq → Nsq} {st : Step} (hp : st.slot.toNat < Config.slotCount) (hs : ∀ q, (f q).step = some st)
    (hq : ∀ q, (f q).state = .running) : Part.Keeps (Between n) StepsMatch t (t.modNsq n f) where
  formed h := ⟨h.1, fun m st' hst => by
    by_cases hm : n = m
    · subst hm
      obtain rfl : st = st' := by simpa [hs] using hst
      exact hp
    · exact h.2 m st' (by simpa [hm] using hst)⟩
  distinct := id
  heads := id
  reaches h m := by
    by_cases hm : n = m
    · subst hm; simp [hs, hq]
    · simpa [hm, Nsq.Matches] using h.2 m (Ne.symm hm)
  outcomes h ho o hx := by
    have hn : n ≠ o.nest := by
      rintro rfl
      simpa [h.1] using ho o hx
    simpa [hn] using ho o hx

/-- The acceptance of a step (R12). -/
theorem accept {st : Step} (hp : st.slot.toNat < Config.slotCount) :
    Part.Keeps (Between n) StepsMatch s (s.accept n st) :=
  (((((KeepsSteps.refl s).put (slotAt_lt hp (by decide))).put (slotAt_lt hp (by decide))).putNest (by decide)).between.trans
    (takeStep hp (fun _ => rfl) fun _ => rfl)).trans (KeepsSteps.refl _).writeNestState.keeps

/-- A sequencer leaves RUNNING and HELD with no step in execution. -/
theorem leave {f : Part → Part} {g : Nsq → Nsq} (hf : ∀ t, f t = t.modNsq n g) (hs : ∀ q, (g q).step = q.step)
    (hr : ∀ q, (g q).state ≠ .running) (hh : ∀ q, (g q).state ≠ .held) :
    Part.Keeps (Between n) StepsMatch t (t.track n f) := by
  have hset : Part.Keeps (Between n) StepsMatch t (f t) := by
    have hstep (m : NestId) : ((t.modNsq n g).nsq.get m).step = (t.nsq.get m).step := by
      by_cases hm : n = m
      · subst hm; simp [hs]
      · simp [hm]
    rw [hf]
    refine ⟨fun h => ⟨h.1, fun m st hst => h.2 m st (hstep m ▸ hst)⟩, id, id, fun h m => ?_, fun _ h o ho => ?_⟩
    · by_cases hm : n = m
      · subst hm; simp [hs, h.1, hr, hh]
      · simpa [hm, Nsq.Matches] using h.2 m (Ne.symm hm)
    · rw [hstep]; exact h o ho
  rcases t.track_eq n f with ⟨e, -⟩ | ⟨e, -⟩
  · exact e ▸ hset
  · exact e ▸ hset.trans ((KeepsSteps.refl _).putNest (by decide)).keeps

/-! ### Following the chain -/

theorem setSeqState {q : SeqState} (hr : q ≠ .running) (hh : q ≠ .held) :
    Part.Keeps (Between n) StepsMatch s (s.setSeqState n q) :=
  leave (fun _ => rfl) (fun _ => rfl) (fun _ => hr) fun _ => hh

theorem breakChain : Part.Keeps (Between n) StepsMatch s (s.breakChain n) :=
  ((KeepsSteps.refl s).recordFault.modNsq (by simp)).between.trans (setSeqState (by decide) (by decide))

/-- A fetch that passes its checks reads a slot of the pool (R11). -/
theorem slot_of_fetch {p : W16} (h : s.fetch n = some p) : p.toNat < Config.slotCount := by
  unfold Part.fetch at h
  split at h
  · split at h
    · next hc => cases h; exact hc.1
    · cases h
  · cases h

theorem accept_step (st : Step) : ((s.accept n st).nsq.get n).step = some st := by
  simp [Part.accept, Part.putSlot]

/-- The nest follows its chain (R10). -/
theorem follow {k : Nat} : Part.Keeps (Between n) StepsMatch s (s.follow n k) := by
  induction k generalizing s with
  | zero => exact setSeqState (by decide) (by decide)
  | succ k ih =>
    unfold Part.follow
    split
    · exact breakChain
    · next p hp =>
      have hacc : Part.Keeps (Between n) StepsMatch s (s.accept n (s.snapshot p)) := accept (slot_of_fetch hp)
      have hperf := hacc.trans (KeepsSteps.perform (n := n) (st := s.snapshot p) (by simp [accept_step])).keeps
      dsimp only
      split
      · next e => exact ((e ▸ hperf : Part.Keeps (Between n) StepsMatch s (_, _).1).trans retire).trans ih
      · next e => exact (e ▸ hperf : Part.Keeps (Between n) StepsMatch s (_, _).1)

theorem finish {v : Verdict} {d : Detail} {r : Results} : Part.Keeps StepsMatch StepsMatch s (s.finish n v d r) :=
  retire.trans follow

/-! ### POST events -/

theorem startChain {post : W16} (h : (s.nsq.get n).state = .stopped) :
    Part.Keeps StepsMatch StepsMatch s (s.startChain n post) := by
  have hidle : Part.Keeps StepsMatch (Between n) s s := idle (by simp [h]) (by simp [h])
  unfold Part.startChain
  extract_lets head
  split
  · exact hidle.trans breakChain
  next retired based distance posted _ =>
    have hbased : s.KeepsSteps based := ((KeepsSteps.refl s).modNsq (by simp)).putNest (by decide)
    have hposted : s.KeepsSteps posted := hbased.setLimit.modNsq (by simp)
    exact ite ((hidle.trans hposted.between).trans follow) hbased.setFactor.keeps

theorem changeLimit {post : W16} : Part.Keeps StepsMatch StepsMatch s (s.changeLimit n post) := by
  have h := KeepsSteps.refl s
  unfold Part.changeLimit
  split
  · exact h.keeps
  · refine ite ?_ (h.ite h.setFactor).keeps
    extract_lets limited
    have hl : s.KeepsSteps limited := h.setLimit
    split
    · next hw => exact (hl.keeps.trans (idle (by simp [hw]) (by simp [hw]))).trans follow
    · exact hl.keeps

theorem takePost : Part.Keeps StepsMatch StepsMatch s (s.takePost n) := by
  unfold Part.takePost
  extract_lets post
  split
  · next h => exact ite (startChain h) (KeepsSteps.refl s).postUnderStop.keeps
  · exact (KeepsSteps.refl s).keeps
  all_goals exact changeLimit

/-! ### Outcomes, timers and notices -/

theorem takeOutcome {o : OwnerOutcome} : Part.Keeps StepsMatch StepsMatch s (s.takeOutcome o) :=
  finish.ite (KeepsSteps.refl s).keeps

theorem takeEarlier {earlier : List Notice} : Part.Keeps StepsMatch StepsMatch s (s.takeEarlier n earlier) := by
  unfold Part.takeEarlier
  split
  exacts [takeOutcome, (KeepsSteps.refl s).keeps]

theorem takeNotice {m : Notice} {f : Part → Part} (hf : ∀ t, Part.Keeps StepsMatch StepsMatch t (f t)) :
    Part.Keeps StepsMatch StepsMatch s (s.takeNotice n m f) :=
  (takeEarlier.trans (KeepsSteps.refl _).took.keeps).trans (hf _)

theorem receive {m : Notice} {f : Part → Part} (hf : ∀ t, Part.Keeps StepsMatch StepsMatch t (f t)) :
    Part.Keeps StepsMatch StepsMatch s (s.receive m f) :=
  ite (KeepsSteps.refl s).took.keeps ((KeepsSteps.refl s).took.keeps.trans (hf _))

theorem waitExpires : Part.Keeps StepsMatch StepsMatch s (s.waitExpires n) := finish.ite (KeepsSteps.refl s).keeps

theorem deadlineExpires : Part.Keeps StepsMatch StepsMatch s (s.deadlineExpires n) := by
  have h := KeepsSteps.refl s
  unfold Part.deadlineExpires
  split
  · exact h.keeps
  · exact h.keeps.ite (takeEarlier.ite ((h.stopOwner.track ((KeepsSteps.refl _).modNsq (by simp))).keeps.trans finish))

theorem takeSupplyTrip : Part.Keeps StepsMatch StepsMatch s (s.takeSupplyTrip n) := by
  have h : s.KeepsSteps (s.recordFault n .supplyTrip) := (KeepsSteps.refl s).recordFault
  unfold Part.takeSupplyTrip
  refine h.keeps.ite ?_
  split
  exacts [h.stopOwner.setSkipping.keeps.trans finish, h.setSkipping.keeps]

/-! ### Nest abort -/

theorem stopNest : Part.Keeps (Between n) StepsMatch s (s.stopNest n) :=
  ((KeepsSteps.refl s).modNsq (by simp)).between.trans
    (leave (fun _ => rfl) (fun _ => rfl) (fun _ => by simp) fun _ => by simp)

theorem abortChain {c : AbortCause} : Part.Keeps StepsMatch StepsMatch s (s.abortChain n c) :=
  (((KeepsSteps.refl s).recordFault.stopOwner.keeps.trans retire).trans (KeepsSteps.refl _).shutDown.between).trans
    stopNest

theorem takeAbort : Part.Keeps StepsMatch StepsMatch s (s.takeAbort n) := by
  unfold Part.takeAbort
  split
  iterate 3 exact abortChain
  · exact (KeepsSteps.refl s).keeps
  · next h => exact ((idle (by simp [h]) (by simp [h])).trans (KeepsSteps.refl s).shutDown.between).trans stopNest

theorem takeLidAbort : Part.Keeps StepsMatch StepsMatch s (s.takeLidAbort n) := by
  unfold Part.takeLidAbort
  split
  iterate 3 exact abortChain
  exacts [(KeepsSteps.refl s).recordFault.keeps, (KeepsSteps.refl s).recordFault.shutDown.keeps]

theorem takeStationStop : Part.Keeps StepsMatch StepsMatch s (s.takeStationStop n) := by
  unfold Part.takeStationStop
  split
  iterate 3 exact abortChain
  exacts [(KeepsSteps.refl s).keeps, (KeepsSteps.refl s).recordFault.shutDown.keeps]

/-! ### The watch queue -/

theorem takeWatchRequest {w : Watched} : Part.Keeps StepsMatch StepsMatch s (s.takeWatchRequest w) := by
  unfold Part.takeWatchRequest
  split
  · exact (KeepsSteps.refl s).keeps
  · next hw =>
    exact ⟨id, fun h => List.nodup_append.2 ⟨h, by simp, fun a ha b hb => by
      rintro rfl; exact hw (List.mem_singleton.1 hb ▸ ha)⟩, id, id, fun _ => id⟩

theorem takeWatchEvent {w : Watched} {f : Part → Part} (hf : ∀ t, Part.Keeps StepsMatch StepsMatch t (f t)) :
    Part.Keeps StepsMatch StepsMatch s (s.takeWatchEvent w f) := by
  unfold Part.takeWatchEvent
  split
  · exact (KeepsSteps.refl s).keeps
  · next v q hq =>
    have hpop : Part.Keeps StepsMatch StepsMatch s { s with watchQueue := q } :=
      ⟨id, fun h => (List.nodup_cons.1 (hq ▸ h : (v :: q).Nodup)).2, id, id, fun _ => id⟩
    exact (hpop.trans (hf _)).ite (KeepsSteps.refl s).keeps

/-! ### Resets -/

/-- Exchange memory after a reset has its canonical form if the memory it starts from has. -/
theorem wf_resetMemory {m : Memory} (code : NestId → W32) (level : Bool) (h : m.wf = true) :
    (Reset.memory m code level).wf = true := by
  have hnest (l : List NestId) : ∀ m : Memory, m.wf = true →
      (l.foldl (fun m n => Reset.nestWords m n (code n)) m).wf = true := by
    induction l with
    | nil => exact fun _ => id
    | cons n l ih =>
      intro m hm
      refine ih _ ?_
      exact Memory.wf_setWord _ (Memory.wf_setWord _ (Memory.wf_setWord _ (Memory.wf_setWord _ (Memory.wf_setWord _ hm
        (nestAt_lt n (by decide))) (nestAt_lt n (by decide))) (nestAt_lt n (by decide))) (nestAt_lt n (by decide)))
        (nestAt_lt n (by decide))
  exact Memory.wf_setWord _ (hnest _ _ (Memory.wf_setWord _ (Memory.wf_setWord _ (Memory.wf_clearWords _ h)
    stationAt_lt) ffStepAt_lt)) layoutAt_lt

@[simp] theorem atReset_mem (m : Memory) (opc : Panel) (sent : List Notice) (s : Part) :
    (s.atReset m opc sent).mem =
      Reset.memory m (fun n => fixtureCode ((s.atReset m opc sent).fxc.get n).state) s.stopPressed := by
  simp only [Part.atReset]
@[simp] theorem atReset_nsq (m : Memory) (opc : Panel) (sent : List Notice) (s : Part) :
    (s.atReset m opc sent).nsq = .fill Reset.nsq := rfl
@[simp] theorem atReset_opc (m : Memory) (opc : Panel) (sent : List Notice) (s : Part) :
    (s.atReset m opc sent).opc = opc := rfl
@[simp] theorem atReset_sent (m : Memory) (opc : Panel) (sent : List Notice) (s : Part) :
    (s.atReset m opc sent).sent = sent := rfl

theorem atReset {m : Memory} {opc : Panel} {sent : List Notice} (hm : s.MemoryFormed → m.wf = true)
    (hp : opc.prompts = []) (hs : ∀ o, .ownerOutcome o ∉ sent) :
    Part.Keeps StepsMatch StepsMatch s (s.atReset m opc sent) where
  formed h := ⟨by rw [atReset_mem]; exact wf_resetMemory _ _ (hm h), by simp [Reset.nsq]⟩
  distinct _ := List.nodup_nil
  heads _ := by simp [HeadAlone, hp]
  reaches _ n := by simp [Reset.nsq]
  outcomes _ _ o ho := absurd ho (hs o)

theorem deviceReset : Part.Keeps StepsMatch StepsMatch s s.deviceReset := by
  unfold Part.deviceReset
  extract_lets t
  have ht : s.KeepsSteps t := (KeepsSteps.refl s).foldl fun u _ => (KeepsSteps.refl u).retireAtReset
  refine (atReset (m := t.mem) ht.mem ?_ fun o ho => ?_).trans
    (KeepsSteps.ite (KeepsSteps.refl _).takeStop (KeepsSteps.refl _)).keeps
  · unfold Panel.recover; split <;> rfl
  · obtain ⟨m, -, e⟩ := List.mem_filterMap.1 ho
    cases m <;> cases e

theorem powerOn : Part.Keeps StepsMatch StepsMatch s s.powerOn :=
  (atReset (fun _ => rfl) rfl fun _ => List.not_mem_nil).trans
    (KeepsSteps.ite (KeepsSteps.refl _).takeStop (KeepsSteps.refl _)).keeps

end Part.Keeps

/-! ### Commands and steps -/

section
open Sys2Proof.Machine.Part

/-- A command whose meaning on the part is `f`. -/
theorem State.act_keeps {f : Part → Part} {s t : State} (hf : Keeps StepsMatch StepsMatch s.part (f s.part))
    (h : s.act f = .next t) : Keeps StepsMatch StepsMatch s.part t.part := by
  cases h; exact hf

/-- Every command keeps the invariants of exchange memory, of the queues, and of the steps and their outcomes. -/
theorem exec_keeps {c : Instr} {s t : State} (h : exec c s = .next t) :
    Keeps StepsMatch StepsMatch s.part t.part := by
  have k := KeepsSteps.refl s.part
  cases c with
  | powerOnReset => exact State.act_keeps Keeps.powerOn h
  | reset => exact State.act_keeps Keeps.deviceReset h
  | resume => exact State.act_keeps k.takeResume.keeps h
  | factorClear => exact State.act_keeps (k.of_same (by rfl)).keeps h
  | maskWrite => exact State.act_keeps (k.of_same (by rfl)).keeps h
  | registerWriteDiscarded => exact State.act_keeps k.keeps h
  | hostWrite => exact State.act_keeps k.takeHostWrite.keeps h
  | watchRequest w =>
    exact State.act_keeps (f := fun s => (s.took (.watchRequest w)).takeWatchRequest w)
      (k.took.keeps.trans Keeps.takeWatchRequest) h
  | postEvent => exact State.act_keeps (Keeps.takeWatchEvent fun _ => Keeps.takePost) h
  | waitExpiry => exact State.act_keeps Keeps.waitExpires h
  | faultReleaseEvent => exact State.act_keeps (Keeps.takeWatchEvent fun t => (KeepsSteps.refl t).releaseFirstFault.keeps) h
  | ownerOutcome => exact State.act_keeps (Keeps.receive fun _ => Keeps.takeOutcome) h
  | deadlineExpiry => exact State.act_keeps Keeps.deadlineExpires h
  | abortEvent => exact State.act_keeps (Keeps.takeWatchEvent fun _ => Keeps.takeEarlier.trans Keeps.takeAbort) h
  | lidAbort => exact State.act_keeps (Keeps.takeNotice fun _ => Keeps.takeLidAbort) h
  | supplyTripNotice => exact State.act_keeps (Keeps.takeNotice fun _ => Keeps.takeSupplyTrip) h
  | stationStopNotice => exact State.act_keeps (Keeps.takeNotice fun _ => Keeps.takeStationStop) h
  | clampClosedSensor => exact State.act_keeps k.clampClosedActive.keeps h
  | clampOpenSensor => exact State.act_keeps k.clampOpenActive.keeps h
  | motionTimerExpiry => exact State.act_keeps k.motionExpires.keeps h
  | lidOpening => exact State.act_keeps k.lidOpens.keeps h
  | sensorImageChange => exact State.act_keeps k.takeSensor.keeps h
  | fuseTrip => exact State.act_keeps k.fuseTrips.keeps h
  | inrushTimerExpiry => exact State.act_keeps k.inrushExpires.keeps h
  | powerOnEndRequest => exact State.act_keeps k.endPowering.keeps h
  | powerOffRequest => exact State.act_keeps k.requestPowerOff.keeps h
  | powerQueueWithdrawal => exact State.act_keeps k.endPowerOn.keeps h
  | dischargeTimerExpiry => exact State.act_keeps k.dischargeExpires.keeps h
  | stationStop => exact State.act_keeps k.takeStopInput.keeps h
  | stopLevelChange => exact State.act_keeps k.takeStopInput.keeps h
  | idleEnforcement => exact State.act_keeps k.enforceIdle.keeps h
  | activePhaseEnd => exact State.act_keeps k.modChannel.keeps h
  | periodBoundary => exact State.act_keeps k.endPeriod.keeps h
  | burstStopRequest => exact State.act_keeps k.stopBurst.keeps h
  | senderSettleExpiry => exact State.act_keeps k.senderSettles.keeps h
  | senderSettleStopRequest => exact State.act_keeps k.stopSenderSettle.keeps h
  | gapExpiry => exact State.act_keeps k.gapExpires.keeps h
  | restoreSettleExpiry => exact State.act_keeps k.restoreSettles.keeps h
  | endReplayRequest => exact State.act_keeps k.endReplay.keeps h
  | busStart => exact State.act_keeps k.startBus.keeps h
  | urgentStop => exact State.act_keeps k.stopBus.keeps h
  | frameLoadStopRequest => exact State.act_keeps k.endFrameLoad.keeps h
  | checkFrameEndRequest => exact State.act_keeps k.endCheckFrame.keeps h
  | slotDue => exact State.act_keeps k.slotFallsDue.keeps h
  | transmissionEnd => exact State.act_keeps k.transmissionEnds.keeps h
  | receptionStart => exact State.act_keeps k.receptionStarts.keeps h
  | receptionEnd => exact State.act_keeps k.receptionEnds.keeps h
  | monitorStart => exact State.act_keeps k.startMonitor.keeps h
  | monitorFreeze => exact State.act_keeps k.freezeMonitor.keeps h
  | coilEvent => exact State.act_keeps k.takeCoilEvent.keeps h
  | gaugeSettleExpiry => exact State.act_keeps k.gaugeSettles.keeps h
  | settleWatchEndRequest => exact State.act_keeps k.endGaugeCheck.keeps h
  | lampEvent => exact State.act_keeps k.takeLampEvent.keeps h
  | stableTimerExpiry => exact State.act_keeps k.lampsStable.keeps h
  | lampWatchEndRequest => exact State.act_keeps k.endLampWatch.keeps h
  | lpcPowerDeparture => exact State.act_keeps k.lpcDeparts.keeps h
  | pulseEdge => exact State.act_keeps k.takeLevel.keeps h
  | captureEndRequest => exact State.act_keeps k.endCapture.keeps h
  | converterSettleExpiry => exact State.act_keeps k.converterSettles.keeps h
  | sample => exact State.act_keeps k.takeSample.keeps h
  | converterWithdrawal => exact State.act_keeps k.withdrawMeasurement.keeps h
  | converterEndRequest => exact State.act_keeps k.endMeasurement.keeps h
  | converterPowerDeparture => exact State.act_keeps k.stopMeasurement.keeps h
  | pollDue => exact State.act_keeps k.takePollDue.keeps h
  | byteEnd => exact State.act_keeps k.endByte.keeps h
  | answerTimerExpiry => exact State.act_keeps k.answerExpires.keeps h
  | replayEndedReport => exact State.act_keeps ((k.receive fun t => (KeepsSteps.refl t).takeReplayEnded).keeps) h
  | replayCutReport => exact State.act_keeps ((k.receive fun t => (KeepsSteps.refl t).takeReplayCut).keeps) h
  | promptWithdrawal => exact State.act_keeps k.withdrawPrompt.keeps h
  | panelStationStop =>
    exact State.act_keeps (f := fun s => (s.took .panelStop).stopPanel) k.took.stopPanel.keeps h

/-- Every step keeps them: a command from the queue, an internal event, or the passing of time. -/
theorem step_keeps {s t : State} (h : step s = .next t) : Keeps StepsMatch StepsMatch s.part t.part := by
  have k := KeepsSteps.refl s.part
  unfold step at h
  split at h
  · exact (exec_keeps h :)
  · unfold idleStep at h
    split at h
    · cases h; exact k.rest.keeps
    · exact exec_keeps h
    · split at h
      · exact (k.of_same (u := { s.part with choices := s.part.choices + 1 }) (by rfl)).keeps.trans (exec_keeps h)
      · cases h; exact k.keeps

end

/-- Settles O56, by what every operation of the part keeps. -/
theorem stepKeepsMemoryFormed : Obligations.StepKeepsMemoryFormed := fun _ _ hs h => (step_keeps h).formed hs

/-- Settles O57, by what every operation of the part keeps. -/
theorem stepKeepsTheQueues : Obligations.StepKeepsTheQueues := fun _ _ hw hp h =>
  ⟨(step_keeps h).distinct hw, (step_keeps h).heads hp⟩

/-- Settles O60, by what every operation of the part keeps: at the ends of a command `StepsMatch`, and within it, between
a step's end and the next one's acceptance, `Between n`. -/
theorem stepKeepsStepsMatched : Obligations.StepKeepsStepsMatched := fun _ _ hs h =>
  ⟨(step_keeps h).reaches hs, (step_keeps h).outcomes hs⟩

end Sys2Proof.Machine
end

section
/-! The exchange port: the state after reset, the register block, host writes and the first-fault record. -/

namespace Sys2Proof.Machine

/-! ### Terms of the claims -/

/-- A command whose meaning on the part is `f` answers what `f` makes of the part. -/
theorem answers_of_act {c : Instr} {s : State} {post : Part → Prop} {f : Part → Part} (h : exec c s = s.act f)
    (hf : post (f s.part)) : Answers c s post := ⟨f s.part, h, hf⟩

/-- Two parts with the same fields are the same. -/
theorem Part.eq_of_fields {p q : Part} (ticks : p.ticks = q.ticks) (mem : p.mem = q.mem)
    (watchQueue : p.watchQueue = q.watchQueue) (factor : p.factor = q.factor) (mask : p.mask = q.mask)
    (firstFault : p.firstFault = q.firstFault) (station : p.station = q.station)
    (stopPressed : p.stopPressed = q.stopPressed) (nsq : p.nsq = q.nsq) (fxc : p.fxc = q.fxc)
    (powerQueue : p.powerQueue = q.powerQueue) (stu : p.stu = q.stu) (buc : p.buc = q.buc) (gmn : p.gmn = q.gmn)
    (lpc : p.lpc = q.lpc) (pcv : p.pcv = q.pcv) (opc : p.opc = q.opc) (sent : p.sent = q.sent)
    (choices : p.choices = q.choices) : p = q := by
  cases p; cases q; simp_all

namespace Part.StoresOnly

variable {words : List Nat} {s t u : Part}

/-- An operation that leaves exchange memory as it was. -/
theorem of_mem (h : s.StoresOnly words t) (e : u.mem = t.mem) : s.StoresOnly words u := fun a ha => by
  rw [e]; exact h a ha

theorem refl : s.StoresOnly words s := fun _ _ => rfl

/-- A write of one of the words. -/
theorem put {i : Nat} {v : W32} (h : s.StoresOnly words t) (hi : i ∈ words) : s.StoresOnly words (t.put i v) :=
  fun a ha => (Memory.byte_setWord_other t.mem v fun e => ha (e ▸ hi)).trans (h a ha)

theorem putNest {n : NestId} {k : Nat} {v : W32} (h : s.StoresOnly words t) (hi : nestAt n k ∈ words) :
    s.StoresOnly words (t.putNest n k v) := h.put hi

end Part.StoresOnly

/-! ### The state after reset -/

theorem Reset.part_mem : Reset.part.mem = Reset.memory [] (fun _ => 0) false := by simp only [Reset.part]

/-- The state after reset meets every invariant: no step is in execution, and no queue holds anything. -/
theorem reset_safe : Reset.part.Safe where
  left := ⟨by rw [Reset.part_mem]; exact Part.Keeps.wf_resetMemory _ _ rfl, by simp [Reset.part, Reset.nsq]⟩
  right := by
    refine ⟨List.nodup_nil, ?_, ?_, rfl, ?_, ?_, ?_, ?_⟩
    · simp [Part.BudgetKept, Part.poweringCount, Reset.part, Reset.fixture]
    · simp [Part.SwitchesGuarded, Reset.part, Reset.fixture, FixtureState.supplied]
    · simp [Part.HeadAlone, Reset.part, Reset.panel]
    · simp [Part.StepsMatch, Reset.part, Reset.nsq]
    · simp [Part.OutcomesCurrent, Reset.part]
    · simp [Part.StopCutsSupply, Reset.part]

/-- Settles O55, by what each reset value says. -/
theorem resetIsSafe : Obligations.ResetIsSafe := ⟨reset_safe, rfl⟩

/-! ### Register block -/

/-- INTREQ is a level: some factor flag is set whose MASK bit is 1 (R21). -/
theorem Part.intreq_iff (p : Part) :
    p.intreq = true ↔ ∃ i, i < 19 ∧ p.factor.getLsbD i = true ∧ p.mask.getLsbD i = true := by
  have hzero : p.factor &&& p.mask = 0#19 ↔ ∀ i, i < 19 → ¬ (p.factor.getLsbD i = true ∧ p.mask.getLsbD i = true) := by
    constructor
    · intro h i _
      simpa using congrArg (·.getLsbD i) h
    · intro h
      apply BitVec.eq_of_getLsbD_eq
      intro i hi
      simpa using h i hi
  simp only [Part.intreq, decide_eq_true_eq, ne_eq]
  exact (not_congr hzero).trans (by simp)

/-- RESUME with station STOP latched and the STOP input released (R19). -/
theorem Part.takeResume_stopped {p : Part} (h : p.station = .stopped) (hr : p.stopPressed = false) :
    p.takeResume = Part.put stationAt 0 { p with station := .run } := by
  simp [Part.takeResume, h, hr, Part.stationWord, flag]

/-- RESUME in RUN, or with the STOP input pressed, is discarded (R19). -/
theorem Part.takeResume_discarded {p : Part} (h : p.station = .run ∨ p.stopPressed = true) : p.takeResume = p := by
  unfold Part.takeResume
  rcases h with h | h <;> simp [h]

/-- Settles O8, by each write's meaning. -/
theorem registerBlockWrites : Obligations.RegisterBlockWrites := by
  refine ⟨fun v s => ?_, fun v s => ?_, fun r b v s _ => rfl, Part.intreq_iff, fun s hs hr => ?_, fun s h => ?_⟩
  · refine answers_of_act (f := (·.clearFactor v)) rfl ⟨fun i hi => ?_, rfl⟩
    simp [Part.clearFactor, hi]
  · refine answers_of_act (f := (·.writeMask v)) rfl ⟨fun i => ?_, rfl⟩
    by_cases hi : i < 19
    · simp [Part.readRegister, Part.writeMask, place, hi, show i < 32 by omega]
    · simp [Part.readRegister, Part.writeMask, place, hi]
  · refine answers_of_act (f := (·.takeResume)) rfl ?_
    rw [Part.takeResume_stopped hs hr]
    exact ⟨rfl, by simp, rfl, Part.StoresOnly.put (fun _ _ => rfl) (by simp)⟩
  · change s.act (·.takeResume) = _
    simp [State.act, Part.takeResume_discarded h]

/-! ### Host writes and the write watch -/

/-- A word is watched as `x` where `x` lies in it (section 1.3). -/
theorem watchedAt_iff (i : Nat) (x : Watched) : watchedAt i = some x ↔ watchedIndex x = i := by
  constructor
  · intro h
    unfold watchedAt at h
    split at h
    · next hi => cases h; exact hi.symm
    · split at h
      · next hr =>
        dsimp only at h
        split at h
        · cases h; simp only [watchedIndex, nestAt]; omega
        · split at h
          · cases h; simp only [watchedIndex, nestAt]; omega
          · cases h
      · cases h
  · rintro rfl
    have hn (n : NestId) (k : Nat) (hk : k < 64) : 64 ≤ nestAt n k ∧ nestAt n k < 576 ∧
        (nestAt n k - 64) % 64 = k ∧ (nestAt n k - 64) / 64 = n.val := by
      unfold nestAt; omega
    cases x with
    | faultRelease => rfl
    | post n =>
      obtain ⟨h1, h2, h3, h4⟩ := hn n 1 (by decide)
      have h0 : nestAt n 1 ≠ 2 := by omega
      simp [watchedIndex, watchedAt, faultReleaseAt, h0, h1, h2, h3, h4]
    | abort n =>
      obtain ⟨h1, h2, h3, h4⟩ := hn n 2 (by decide)
      have h0 : nestAt n 2 ≠ 2 := by omega
      simp [watchedIndex, watchedAt, faultReleaseAt, h0, h1, h2, h3, h4]

/-- The byte `k` of the word written, and a byte of any other word (R1). -/
theorem byte_takeHostWrite (w : W16) (b : BitVec 4) (v : W32) (p : Part) :
    (p.takeHostWrite w b v).mem = p.mem.hostWrite w.toNat b v := by
  dsimp only [Part.takeHostWrite]
  split
  · split <;> rfl
  · rfl

/-- Settles O9, by the bytes that a host write reaches and the words that are watched. -/
theorem hostWritesAreWatched : Obligations.HostWritesAreWatched := by
  refine ⟨fun w b v s hb => answers_of_act (f := (·.takeHostWrite w b v)) rfl ⟨fun k hk => ?_, fun a ha => ?_,
    fun x hx => ?_, fun hx => ?_, ?_⟩, fun w s =>
    answers_of_act (f := fun p => (p.took (.watchRequest w)).takeWatchRequest w) rfl ⟨?_, ?_⟩⟩
  · rw [byte_takeHostWrite, Memory.byte_hostWrite]
    have h1 : (4 * w.toNat + k) / 4 = w.toNat := by omega
    have h2 : (4 * w.toNat + k) % 4 = k := by omega
    simp [h1, h2]
  · rw [byte_takeHostWrite, Memory.byte_hostWrite, if_neg fun h => ha (by simp [h.1])]
  · have : watchedAt w.toNat = some x := (watchedAt_iff _ _).2 hx
    simp only [Part.takeHostWrite, this, if_neg hb, Part.send]
  · have : watchedAt w.toNat = none := Option.eq_none_iff_forall_ne_some.2 fun x h => hx x ((watchedAt_iff _ _).1 h)
    simp [Part.takeHostWrite, this]
  · dsimp only [Part.takeHostWrite]
    split
    · split <;> rfl
    · rfl
  · by_cases h : w ∈ s.part.watchQueue <;> simp [Part.takeWatchRequest, h]
  · by_cases h : w ∈ s.part.watchQueue <;> simp [Part.takeWatchRequest, h, Part.took]

/-! ### The first-fault record -/

/-- The event at the head of the watch queue is taken by its recipient (R6). -/
theorem Part.takeWatchEvent_head {p : Part} {w : Watched} {q : List Watched} (f : Part → Part)
    (h : p.watchQueue = w :: q) : p.takeWatchEvent w f = f { p with watchQueue := q } := by
  simp [Part.takeWatchEvent, h]

/-- FAULT_RELEASE with an invalid record changes nothing (R24). -/
theorem Part.releaseFirstFault_invalid {p : Part} (h : p.firstFault = none) : p.releaseFirstFault = p := by
  simp [Part.releaseFirstFault, h]

/-- FAULT_RELEASE with a VALID record (R24). -/
theorem Part.releaseFirstFault_valid {p : Part} {f : FirstFault} (h : p.firstFault = some f) :
    p.releaseFirstFault =
      (((Part.put ffStateAt 0 { p with firstFault := none }).put ffStepAt (seqWord none)).put ffTimeAt 0) := by
  simp [Part.releaseFirstFault, h]

theorem Part.releaseFirstFault_firstFault (p : Part) : p.releaseFirstFault.firstFault = none := by
  cases h : p.firstFault with
  | none => rw [releaseFirstFault_invalid h, h]
  | some f => simp [releaseFirstFault_valid h]

theorem Part.releaseFirstFault_timebase (p : Part) : p.releaseFirstFault.timebase = p.timebase := by
  cases h : p.firstFault with
  | none => rw [releaseFirstFault_invalid h]
  | some f => simp only [releaseFirstFault_valid h, put_timebase]; rfl

/-- Settles O10, by the record's two states. -/
theorem faultReleaseOpensTheRecord : Obligations.FaultReleaseOpensTheRecord := by
  refine ⟨fun q s hq => answers_of_act (f := (·.takeWatchEvent .faultRelease (·.releaseFirstFault))) rfl ?_,
    fun source kind seq p => ⟨fun h => ?_, ?_, fun _ => Part.releaseFirstFault_firstFault _⟩⟩
  · rw [Part.takeWatchEvent_head _ hq]
    by_cases hf : s.part.firstFault = none
    · rw [Part.releaseFirstFault_invalid (p := { s.part with watchQueue := q }) hf]
      simp [hf, Part.StoresOnly]
    · obtain ⟨f, hf⟩ := Option.ne_none_iff_exists'.1 hf
      rw [Part.releaseFirstFault_valid (p := { s.part with watchQueue := q }) hf]
      have hdir : ffStepAt ≠ ffStateAt ∧ ffTimeAt ≠ ffStateAt ∧ ffTimeAt ≠ ffStepAt := by decide
      obtain ⟨h1, h2, h3⟩ := hdir
      refine ⟨by simp, by simp, by simp, fun _ => ⟨?_, ?_, ?_⟩, by simp [hf], ?_, ?_⟩
      · simp [h1, h2]
      · simp [h3, seqWord]
      · simp
      · exact ((Part.StoresOnly.put (Part.StoresOnly.of_mem .refl rfl) (by simp)).put (by simp)).put (by simp)
      · apply Part.eq_of_fields <;> simp
  · obtain ⟨f, hf⟩ := Option.isSome_iff_exists.1 h
    exact p.offerFault_valid source kind seq hf
  · rw [Part.offerFault_invalid _ _ _ _ p.releaseFirstFault_firstFault, p.releaseFirstFault_timebase]

end Sys2Proof.Machine
end

section
/-! What either reset leaves: exchange memory, the blocks, and the step pool. -/

namespace Sys2Proof.Machine

/-! ### Where words lie -/

@[simp] theorem nestAt_same (n : NestId) (j k : Nat) : nestAt n j = nestAt n k ↔ j = k := by
  unfold nestAt; omega

theorem nestAt_eq_iff {m n : NestId} {j k : Nat} (hj : j < 64) (hk : k < 64) :
    nestAt m j = nestAt n k ↔ m = n ∧ j = k := by
  unfold nestAt; rw [Fin.ext_iff]; omega

@[simp] theorem slotAt_same (p j k : Nat) : slotAt p j = slotAt p k ↔ j = k := by
  unfold slotAt; omega

theorem slotAt_eq_iff {p q j k : Nat} (hj : j < 16) (hk : k < 16) : slotAt p j = slotAt q k ↔ p = q ∧ j = k := by
  unfold slotAt; omega

@[simp] theorem slotAt_ne_nestAt (p j : Nat) (n : NestId) {k : Nat} (hk : k < 64) : slotAt p j ≠ nestAt n k := by
  unfold slotAt nestAt; omega

@[simp] theorem nestAt_ne_slotAt (p j : Nat) (n : NestId) {k : Nat} (hk : k < 64) : nestAt n k ≠ slotAt p j :=
  (slotAt_ne_nestAt p j n hk).symm

theorem nestAt_ge (n : NestId) (k : Nat) : 64 ≤ nestAt n k := by unfold nestAt; omega

@[simp] theorem nestAt_ne_ffStateAt (n : NestId) (k : Nat) : nestAt n k ≠ ffStateAt := by
  unfold nestAt ffStateAt; omega
@[simp] theorem nestAt_ne_ffStepAt (n : NestId) (k : Nat) : nestAt n k ≠ ffStepAt := by
  unfold nestAt ffStepAt; omega
@[simp] theorem nestAt_ne_ffTimeAt (n : NestId) (k : Nat) : nestAt n k ≠ ffTimeAt := by
  unfold nestAt ffTimeAt; omega
@[simp] theorem slotAt_ne_ffStateAt (p k : Nat) : slotAt p k ≠ ffStateAt := by
  unfold slotAt ffStateAt; omega
@[simp] theorem slotAt_ne_ffStepAt (p k : Nat) : slotAt p k ≠ ffStepAt := by
  unfold slotAt ffStepAt; omega
@[simp] theorem slotAt_ne_ffTimeAt (p k : Nat) : slotAt p k ≠ ffTimeAt := by
  unfold slotAt ffTimeAt; omega

/-- No reset word lies in the step pool (R2). -/
theorem isResetWord_slotAt {p k : Nat} (hp : p < Config.slotCount) (hk : k < 16) :
    isResetWord (slotAt p k) = false := by
  unfold Config.slotCount at hp
  have h : 1024 ≤ slotAt p k ∧ slotAt p k < 33792 := by unfold slotAt; omega
  rw [← Bool.not_eq_true]
  simp only [isResetWord, Bool.or_eq_true, Bool.and_eq_true, decide_eq_true_eq]
  unfold layoutAt stationAt ffStateAt ffStepAt ffTimeAt
  omega

/-- A reset writes a nest block from RETIRED on (R2). -/
theorem isResetWord_nestAt (n : NestId) {k : Nat} (h4 : 4 ≤ k) (hk : k < 16) : isResetWord (nestAt n k) = true := by
  have h : 64 ≤ nestAt n k ∧ nestAt n k < 576 ∧ nestAt n k % 64 = k := by unfold nestAt; omega
  simp [isResetWord, h, h4, hk]

theorem isResetWord_frameAt (n : NestId) (f : Fin 16) {k : Nat} (h6 : 6 ≤ k) (hk : k < 8) :
    isResetWord (frameAt n f k) = true := by
  have h : 35840 ≤ frameAt n f k ∧ frameAt n f k < 36864 ∧ frameAt n f k % 8 = k := by unfold frameAt; omega
  simp [isResetWord, h, h6]

theorem isResetWord_captureAt (n : NestId) (f : Fin 8) {k : Nat} (h2 : 2 ≤ k) (hk : k < 8) :
    isResetWord (captureAt n f k) = true := by
  have h : 36864 ≤ captureAt n f k ∧ captureAt n f k < 37376 ∧ captureAt n f k % 8 = k := by unfold captureAt; omega
  simp [isResetWord, h, h2]

/-! ### Exchange memory after a reset -/

namespace Reset

variable (m : Memory) (code : NestId → W32) (level : Bool)

/-- The words of a nest block that a reset does not leave 0 (R2). -/
def nestWordList : List Nat := [4, 5, 6, 7, 13]

/-- The value of word `k` of them. -/
def nestWord (fixtureCode : W32) (k : Nat) : W32 := if k = 7 then fixtureCode <<< 4 else seqWord none

theorem word_nestWords (n : NestId) (c : W32) {k : Nat} (hk : k ∈ nestWordList) :
    (nestWords m n c).word (nestAt n k) = nestWord c k := by
  simp only [nestWordList, List.mem_cons, List.not_mem_nil, or_false] at hk
  rcases hk with rfl | rfl | rfl | rfl | rfl <;> simp [nestWords, Memory.word_setWord, nestWord]

theorem byte_nestWords_other (n : NestId) (c : W32) {a : Nat} (h : ∀ k ∈ nestWordList, a / 4 ≠ nestAt n k) :
    (nestWords m n c).byte a = m.byte a := by
  simp only [nestWords]
  rw [Memory.byte_setWord_other, Memory.byte_setWord_other, Memory.byte_setWord_other, Memory.byte_setWord_other,
    Memory.byte_setWord_other] <;> exact h _ (by decide)

theorem byte_foldl_nestWords_other (l : List NestId) {a : Nat}
    (h : ∀ n, ∀ k ∈ nestWordList, a / 4 ≠ nestAt n k) :
    (l.foldl (fun m n => nestWords m n (code n)) m).byte a = m.byte a := by
  induction l generalizing m with
  | nil => rfl
  | cons n l ih => exact (ih _).trans (byte_nestWords_other m n (code n) (h n))

theorem word_foldl_nestWords (l : List NestId) (n : NestId) {k : Nat} (hk : k ∈ nestWordList) :
    (l.foldl (fun m n => nestWords m n (code n)) m).word (nestAt n k) =
      if n ∈ l then nestWord (code n) k else m.word (nestAt n k) := by
  have hlt : ∀ j ∈ nestWordList, j < 64 := by decide
  induction l generalizing m with
  | nil => simp
  | cons x l ih =>
    rw [List.foldl_cons, ih]
    by_cases hx : n = x
    · subst hx
      simp [word_nestWords m n _ hk]
    · have hother : (nestWords m x (code x)).word (nestAt n k) = m.word (nestAt n k) :=
        Memory.word_congr fun b hb => byte_nestWords_other m x _ fun j hj => by
          rw [hb, ne_eq, nestAt_eq_iff (hlt k hk) (hlt j hj)]
          exact fun h => hx h.1
      simp [hx, hother]

/-- The words that a reset does not leave 0. -/
def Written (i : Nat) : Prop := i = layoutAt ∨ i = stationAt ∨ i = ffStepAt ∨ ∃ n, ∃ k ∈ nestWordList, i = nestAt n k

/-- A byte of any other word: 0 in a part-owned word that a reset writes, and as before elsewhere. -/
theorem byte_memory {a : Nat} (h : ¬ Written (a / 4)) :
    (memory m code level).byte a = if isResetWord (a / 4) then Memory.unlisted else m.byte a := by
  simp only [Written, not_or, not_exists, not_and] at h
  obtain ⟨hlayout, hstation, hstep, hnest⟩ := h
  simp only [memory]
  rw [Memory.byte_setWord_other _ _ hlayout, byte_foldl_nestWords_other _ _ _ fun n k hk => hnest n k hk,
    Memory.byte_setWord_other _ _ hstep, Memory.byte_setWord_other _ _ hstation, Memory.byte_clearWords]

theorem isResetWord_of_written {i : Nat} (h : Written i) : isResetWord i = true := by
  have hk : ∀ k ∈ nestWordList, 4 ≤ k ∧ k < 16 := by decide
  rcases h with rfl | rfl | rfl | ⟨n, k, hmem, rfl⟩
  · rfl
  · rfl
  · rfl
  · exact isResetWord_nestAt n (hk k hmem).1 (hk k hmem).2

/-- A reset leaves every byte outside the words it writes (R2). -/
theorem byte_memory_other {a : Nat} (h : isResetWord (a / 4) = false) : (memory m code level).byte a = m.byte a := by
  rw [byte_memory m code level fun hw => by simp [isResetWord_of_written hw] at h, h]
  rfl

theorem word_memory_zero {i : Nat} (h : isResetWord i = true) (hw : ¬ Written i) : (memory m code level).word i = 0 := by
  have hempty : Memory.word [] i = 0 := by simp only [Memory.word, Memory.byte, Memory.unlisted]; decide
  rw [← hempty]
  refine Memory.word_congr fun b hb => ?_
  rw [byte_memory m code level (hb ▸ hw), hb, h]
  rfl

theorem word_memory_layout : (memory m code level).word layoutAt = 0x08000801#32 := Memory.word_setWord_same ..

theorem word_memory_nest (n : NestId) {k : Nat} (hk : k ∈ nestWordList) :
    (memory m code level).word (nestAt n k) = nestWord (code n) k := by
  have := nestAt_ge n k
  simp only [memory]
  rw [Memory.word_setWord_other _ _ (by unfold layoutAt; omega), word_foldl_nestWords _ _ _ _ hk,
    if_pos (List.mem_finRange n)]

/-- The words of the directory, below every nest block. -/
theorem word_memory_directory {i : Nat} (hi : i < 64) (h0 : layoutAt ≠ i) :
    (memory m code level).word i =
      (((m.clearWords isResetWord).setWord stationAt (flag level 1)).setWord ffStepAt (seqWord none)).word i := by
  simp only [memory]
  rw [Memory.word_setWord_other _ _ h0]
  refine Memory.word_congr fun b hb => byte_foldl_nestWords_other _ _ _ fun n k _ => ?_
  have := nestAt_ge n k
  omega

theorem word_memory_station : (memory m code level).word stationAt = flag level 1 := by
  have hne : ffStepAt ≠ stationAt := by decide
  rw [word_memory_directory m code level (by decide) (by decide), Memory.word_setWord_other _ _ hne,
    Memory.word_setWord_same]

theorem word_memory_ffStep : (memory m code level).word ffStepAt = seqWord none := by
  rw [word_memory_directory m code level (by decide) (by decide), Memory.word_setWord_same]

theorem not_written_directory {i : Nat} (h : i = ffStateAt ∨ i = ffTimeAt) : ¬ Written i := by
  have hlt : i < 64 ∧ i ≠ layoutAt ∧ i ≠ stationAt ∧ i ≠ ffStepAt := by
    rcases h with rfl | rfl <;> decide
  obtain ⟨hi, hlayout, hstation, hstep⟩ := hlt
  rintro (e | e | e | ⟨n, k, -, e⟩)
  · exact hlayout e
  · exact hstation e
  · exact hstep e
  · have := nestAt_ge n k
    omega

theorem not_written_nestAt (n : NestId) {k : Nat} (hk : k < 64) (h : k ∉ nestWordList) : ¬ Written (nestAt n k) := by
  have hlt : ∀ j ∈ nestWordList, j < 64 := by decide
  have hge := nestAt_ge n k
  rintro (e | e | e | ⟨m, j, hj, e⟩)
  · unfold layoutAt at e; omega
  · unfold stationAt at e; omega
  · unfold ffStepAt at e; omega
  · rw [nestAt_eq_iff hk (hlt j hj)] at e
    exact h (e.2 ▸ hj)

/-- Every word that a reset does not leave 0 lies below the step pool. -/
theorem not_written_of_ge {i : Nat} (h : 1024 ≤ i) : ¬ Written i := by
  have hlt : ∀ j ∈ nestWordList, j < 64 := by decide
  rintro (e | e | e | ⟨m, j, hj, e⟩)
  · unfold layoutAt at e; omega
  · unfold stationAt at e; omega
  · unfold ffStepAt at e; omega
  · have := hlt j hj
    unfold nestAt at e
    omega

end Reset

/-! ### The part after a reset with the STOP input released -/

/-- The panel controller after reset command `c` (R179). -/
def panelAfter (c : Instr) (s : Part) : Panel := if c = .reset then s.opc.recover s.now else Reset.panel

/-- The messages that reset command `c` leaves on their way (R18, R25). -/
def sentAfter (c : Instr) (s : Part) : List Notice := if c = .reset then s.sent.filterMap Notice.afterReset else []

/-- The part with every step in flight retired, nest 0 first (R16). -/
def Part.retiredAtReset (s : Part) : Part := (List.finRange 8).foldl (fun s n => s.retireAtReset n) s

theorem Part.stopIfPressed_released {s : Part} (h : s.stopPressed = false) : s.stopIfPressed = s := by
  simp [stopIfPressed, h]

theorem Part.powerOn_released {s : Part} (h : s.stopPressed = false) : s.powerOn = s.atReset [] Reset.panel [] :=
  stopIfPressed_released h

theorem Part.deviceReset_released {s : Part} (h : s.stopPressed = false) :
    s.deviceReset =
      s.atReset s.retiredAtReset.mem (s.opc.recover s.now) (s.sent.filterMap Notice.afterReset) :=
  stopIfPressed_released h

/-- Either reset with the STOP input released, over whatever it makes of exchange memory. -/
theorem answers_reset {c : Instr} {s : State} {post : Part → Prop} (hc : c = .powerOnReset ∨ c = .reset)
    (hs : s.part.stopPressed = false) (h : ∀ m, post (s.part.atReset m (panelAfter c s.part) (sentAfter c s.part))) :
    Answers c s post := by
  rcases hc with rfl | rfl
  · exact answers_of_act (f := (·.powerOn)) rfl (by rw [Part.powerOn_released hs]; exact h [])
  · exact answers_of_act (f := (·.deviceReset)) rfl (by rw [Part.deviceReset_released hs]; exact h _)

section AtReset

variable (m : Memory) (opc : Panel) (sent : List Notice) (s : Part)

@[simp] theorem Part.atReset_fxc : (s.atReset m opc sent).fxc = .build fun n => (s.fxc.get n).recover := rfl
@[simp] theorem Part.atReset_buc : (s.atReset m opc sent).buc = .fill Reset.bus := rfl
@[simp] theorem Part.atReset_stu : (s.atReset m opc sent).stu = .fill Reset.stimulus := rfl
@[simp] theorem Part.atReset_gmn : (s.atReset m opc sent).gmn = .build fun n => (s.gmn.get n).recover := rfl
@[simp] theorem Part.atReset_lpc : (s.atReset m opc sent).lpc = .build fun n => (s.lpc.get n).recover := rfl

/-- After a reset NEST_STATE shows the fixture state alone. -/
theorem Part.atReset_nestStateWord (n : NestId) :
    (s.atReset m opc sent).nestStateWord n = fixtureCode (s.fxc.get n).recover.state <<< 4 := by
  simp [nestStateWord, Reset.nsq, Reset.bus, seqStateCode, holdCode, flag]

/-- A word after a reset is the word that `Reset.memory` gives. -/
theorem Part.atReset_word (i : Nat) :
    (s.atReset m opc sent).word i =
      (Reset.memory m (fun n => fixtureCode (s.fxc.get n).recover.state) s.stopPressed).word i := by
  simp [Part.word]

end AtReset

theorem Bank.build_const {k : Nat} {α : Type} (x : α) : (.build fun _ => x : Bank k α) = .fill x :=
  Bank.ext_get fun i => by simp

theorem Fixture.recover_reset : Reset.fixture.recover = Reset.fixture := rfl

theorem Gauges.recover_reset : Reset.gauges.recover = Reset.gauges := by
  simp [recover, Reset.gauges, Bank.build_const, Reset.gauge]

theorem Watcher.recover_reset : Reset.watcher.recover = Reset.watcher := by
  simp [recover, Reset.watcher, Bank.build_const, Reset.pulseInput]

/-- A power-on reset of the part as a power-on reset leaves it changes nothing. -/
theorem Part.powerOn_reset : Reset.part.powerOn = Reset.part := by
  rw [Part.powerOn_released rfl]
  apply Part.eq_of_fields <;>
    simp [Part.atReset, Reset.part, Bank.build_const, Fixture.recover_reset, Gauges.recover_reset,
      Watcher.recover_reset]
  simp [Reset.fixture, fixtureCode]

/-- A reset leaves no nest POWERING (R73). -/
theorem Part.atReset_poweringCount (m : Memory) (opc : Panel) (sent : List Notice) (s : Part) :
    (s.atReset m opc sent).poweringCount = 0 := by
  have h (f : Fixture) : f.recover.state ≠ .powering := by
    simp only [Fixture.recover]; split <;> decide
  simp [poweringCount, h]

/-- Settles O4, by the words of exchange memory that a reset leaves. -/
theorem resetMemoryWords : Obligations.ResetMemoryWords := by
  refine ⟨fun c s hc hs => answers_reset hc hs fun m => ?_, ?_⟩
  · simp only [Part.atReset_word, Part.atReset_nestStateWord]
    refine ⟨Reset.word_memory_layout .., ?_, ?_, Reset.word_memory_ffStep .., ?_, fun n => ?_, fun n k hk => ?_,
      fun n f k hk => ?_, fun n f k hk => ?_⟩
    · rw [Reset.word_memory_station, hs]; rfl
    · exact Reset.word_memory_zero _ _ _ rfl (Reset.not_written_directory (.inl rfl))
    · exact Reset.word_memory_zero _ _ _ rfl (Reset.not_written_directory (.inr rfl))
    · have hword {k : Nat} (hk : k ∈ Reset.nestWordList) := Reset.word_memory_nest m
        (fun n => fixtureCode (s.part.fxc.get n).recover.state) s.part.stopPressed n hk
      refine ⟨hword (by decide), hword (by decide), hword (by decide), hword (by decide), ?_, hword (by decide)⟩
      rw [hword (by decide)]
      cases h : (s.part.fxc.get n).clampClosed <;> simp [Reset.nestWord, Fixture.recover, h, fixtureCode]
    · have hr : ∀ k ∈ [8, 9, 10, 11, 12, 14, 15], 4 ≤ k ∧ k < 16 ∧ k ∉ Reset.nestWordList := by decide
      obtain ⟨h4, h16, hno⟩ := hr k hk
      exact Reset.word_memory_zero _ _ _ (isResetWord_nestAt n h4 h16) (Reset.not_written_nestAt n (by omega) hno)
    · have hr : ∀ k ∈ [6, 7], 6 ≤ k ∧ k < 8 := by decide
      obtain ⟨h6, h8⟩ := hr k hk
      exact Reset.word_memory_zero _ _ _ (isResetWord_frameAt n f h6 h8)
        (Reset.not_written_of_ge (by unfold frameAt; omega))
    · have hr : ∀ k ∈ [2, 3, 4, 5, 6, 7], 2 ≤ k ∧ k < 8 := by decide
      obtain ⟨h2, h8⟩ := hr k hk
      exact Reset.word_memory_zero _ _ _ (isResetWord_captureAt n f h2 h8)
        (Reset.not_written_of_ge (by unfold captureAt; omega))
  · change State.reset.act (·.powerOn) = _
    exact congrArg (fun p => Host.Outcome.next (⟨p, []⟩ : State)) Part.powerOn_reset

/-- A fixture after a reset (R73). -/
theorem Fixture.recover_eq (f : Fixture) : f.recover =
    { f with
      state := if f.clampClosed then .clamped else .opened
      drive := if f.drive = .closing ∨ f.drive = .opening then .holdingStill else f.drive
      switchClosed := false, comparator := none, fuseLimit := 0, tripArmed := false, motionTimer := none
      inrushTimer := none, dischargeTimer := none, heldStep := false, powerOn := none } := by
  cases hd : f.drive <;> simp [recover, Reset.fixture, hd]

/-- What reset command `c` leaves of the messages on their way (R18, R25, R179). -/
theorem sentAfter_eq (c : Instr) (s : Part) : sentAfter c s =
    if c = .reset then s.sent.filterMap (fun m => match m with
      | .watchRequest _ | .late _ => some m
      | .ownerOutcome _ | .replayEnded _ | .replayCut _ => some (.late m)
      | .lidAbort _ | .supplyTrip _ | .stationStop _ | .panelStop => none) else [] := by
  unfold sentAfter
  congr 2
  funext m
  cases m <;> rfl

/-- A power-on reset, and a device reset with the link IDLE, leave the panel controller's reset values (R179). -/
theorem panelAfter_uncut {c : Instr} {s : Part} (h : ¬ (c = .reset ∧ s.opc.link ≠ .idle)) :
    panelAfter c s = Reset.panel := by
  unfold panelAfter Panel.recover
  split
  · next hc => rw [if_pos (by simpa [hc] using h)]
  · rfl

/-- A device reset during a panel transfer leaves the transfer cut (R179). -/
theorem panelAfter_cut {s : Part} (h : s.opc.link ≠ .idle) : panelAfter .reset s =
    { Reset.panel with
      link := s.opc.link, shift := s.opc.shift, cut := true
      byteTimer := s.opc.byteTimer.map fun due => due - s.now } := by
  simp [panelAfter, Panel.recover, h]

/-- What both leave of the panel controller. -/
theorem panelAfter_eq (c : Instr) (s : Part) : panelAfter c s =
    { Reset.panel with
      link := (panelAfter c s).link, shift := (panelAfter c s).shift, cut := (panelAfter c s).cut
      byteTimer := (panelAfter c s).byteTimer } := by
  by_cases h : c = .reset ∧ s.opc.link ≠ .idle
  · obtain ⟨rfl, h⟩ := h
    simp [panelAfter_cut h]
  · rw [panelAfter_uncut h]

/-- Settles O5, by the blocks of the part after a reset. -/
theorem resetsClearTheBlocks : Obligations.ResetsClearTheBlocks := by
  refine fun c s hc hs => answers_reset hc hs fun m => ?_
  refine ⟨rfl, rfl, rfl, rfl, by simp [Part.intreq, Part.atReset, Reset.part], rfl, rfl, hs, rfl,
    Part.atReset_poweringCount .., rfl, fun n => ?_, fun n => ?_,
    fun n => ⟨fun i => ?_, fun i => ?_, fun i => ?_, ?_⟩, fun n => ?_, fun n => ?_, fun n => ?_, rfl, rfl, rfl,
    fun n => ?_, sentAfter_eq c s.part, fun n => ?_, ?_, fun h => ?_, ?_⟩
  · simp [Reset.nsq, Reset.unit]
  · simp [Fixture.recover_eq]
  · simp [Part.channel, Reset.stimulus, Reset.channel, Reset.setting]
  · simp [Part.sender, Reset.stimulus, Reset.sender]
  · simp [Reset.stimulus]
  · simp [Reset.stimulus]
  · simp [Part.slot, Part.filter, Reset.bus, Reset.frameSlot, Reset.capture]
  · simp [Part.gauge, Gauges.recover, Reset.gauge]
  · simp [Part.input, Watcher.recover, Reset.watcher, Reset.pulseInput]
  · simp [Part.atReset, Reset.part, Reset.converter]
  · rw [Part.Keeps.atReset_opc, panelAfter_eq]
    simp [Reset.panel]
  · rintro ⟨rfl, h⟩
    simp [panelAfter_cut h]
  · simp [panelAfter_uncut h, Reset.panel]
  · rw [Part.Keeps.atReset_opc, panelAfter_eq]
    simp [Reset.panel, Config.pollUs]

/-! ### The record of a retired step -/

namespace Part

variable (st : Step) (v : Verdict) (d : Detail) (r : Results) (s : Part)

@[simp] theorem writeFinal_nsq : (s.writeFinal st v d r).nsq = s.nsq := rfl
@[simp] theorem writeFinal_timebase : (s.writeFinal st v d r).timebase = s.timebase := rfl

/-- The words of a FINAL record (R14). -/
theorem writeFinal_words :
    (s.writeFinal st v d r).word (slotAt st.slot.toNat 8) = finalWord v d ∧
      (s.writeFinal st v d r).word (slotAt st.slot.toNat 9) = st.accepted ∧
      (s.writeFinal st v d r).word (slotAt st.slot.toNat 10) = s.timebase ∧
      (s.writeFinal st v d r).word (slotAt st.slot.toNat 11) = r.w11 ∧
      (s.writeFinal st v d r).word (slotAt st.slot.toNat 12) = r.w12 ∧
      (s.writeFinal st v d r).word (slotAt st.slot.toNat 13) = r.w13 ∧
      (s.writeFinal st v d r).word (slotAt st.slot.toNat 14) = r.w14 ∧
      (s.writeFinal st v d r).word (slotAt st.slot.toNat 15) = r.w15 := by
  simp [writeFinal, putSlot]

variable {st v d r s}

theorem mem_slotWords {slot : W16} {k : Nat} (hk : k ∈ [8, 9, 10, 11, 12, 13, 14, 15]) :
    slotAt slot.toNat k ∈ slotWords slot := List.mem_map_of_mem hk

theorem StoresOnly.putSlot {words : List Nat} {t : Part} {k : Nat} {x : W32} (h : s.StoresOnly words t)
    (hk : slotAt st.slot.toNat k ∈ words) : s.StoresOnly words (t.putSlot st k x) := h.put hk

theorem StoresOnly.writeFinal {words : List Nat} {t : Part} (h : s.StoresOnly words t)
    (hw : ∀ k ∈ [8, 9, 10, 11, 12, 13, 14, 15], slotAt st.slot.toNat k ∈ words) :
    s.StoresOnly words (t.writeFinal st v d r) :=
  have g := ((h.putSlot (hw 11 (by decide))).putSlot (hw 12 (by decide))).putSlot (hw 13 (by decide))
  have g := ((g.putSlot (hw 14 (by decide))).putSlot (hw 15 (by decide))).putSlot (hw 9 (by decide))
  (g.putSlot (hw 10 (by decide))).putSlot (hw 8 (by decide))

theorem StoresOnly.offerFault {words : List Nat} {t : Part} {source : Fin 9} {kind : FaultKind} {seq : Option W16}
    (h : s.StoresOnly words t) (hw : ∀ i ∈ [ffStateAt, ffStepAt, ffTimeAt], i ∈ words) :
    s.StoresOnly words (t.offerFault source kind seq) := by
  intro a ha
  have hne {i : Nat} (hi : i ∈ [ffStateAt, ffStepAt, ffTimeAt]) : a / 4 ≠ i := fun e => ha (e ▸ hw i hi)
  rw [← h a ha]
  cases hf : t.firstFault with
  | some f => rw [offerFault_valid _ _ _ _ hf]
  | none =>
    rw [Part.offerFault, hf]
    simp only [setFactor_mem, put_mem]
    rw [Memory.byte_setWord_other _ _ (hne (by simp)), Memory.byte_setWord_other _ _ (hne (by simp)),
      Memory.byte_setWord_other _ _ (hne (by simp))]

/-! ### The steps in flight at a device reset -/

@[simp] theorem retireAtReset_nsq (n : NestId) (s : Part) : (s.retireAtReset n).nsq = s.nsq := by
  unfold retireAtReset
  split
  · exact writeFinal_nsq ..
  · rfl

theorem retireAtReset_idle {n : NestId} (h : (s.nsq.get n).step = none) : s.retireAtReset n = s := by
  simp [retireAtReset, h]

theorem retireAtReset_step {n : NestId} (h : (s.nsq.get n).step = some st) :
    s.retireAtReset n = s.writeFinal st .aborted .none .zero := by
  simp [retireAtReset, h]

/-- With the step of nest `n` alone in flight, that step is retired and nothing else. -/
theorem foldl_retireAtReset {n : NestId} {l : List NestId} (hl : l.Nodup)
    (h : ∀ m, m ≠ n → (s.nsq.get m).step = none) :
    l.foldl (fun s m => s.retireAtReset m) s = if n ∈ l then s.retireAtReset n else s := by
  induction l generalizing s with
  | nil => rfl
  | cons x l ih =>
    obtain ⟨hx, hl⟩ := List.nodup_cons.1 hl
    rw [List.foldl_cons, ih hl (by simpa using h)]
    by_cases e : n = x
    · subst e
      simp [hx]
    · simp [e, retireAtReset_idle (h x (Ne.symm e))]

/-- The steps in flight that retire store to the part's words of their slots alone. -/
theorem foldl_retireAtReset_byte {a : Nat} {l : List NestId}
    (h : ∀ n st, (s.nsq.get n).step = some st → a / 4 ∉ slotWords st.slot) :
    (l.foldl (fun s m => s.retireAtReset m) s).mem.byte a = s.mem.byte a := by
  induction l generalizing s with
  | nil => rfl
  | cons x l ih =>
    rw [List.foldl_cons, ih (by simpa using h)]
    cases hst : (s.nsq.get x).step with
    | none => rw [retireAtReset_idle hst]
    | some st => rw [retireAtReset_step hst]; exact StoresOnly.refl.writeFinal (fun _ => mem_slotWords) a (h x st hst)

/-! ### A reset with the STOP input pressed -/

/-- Messages sent change neither exchange memory nor the sequencers. -/
theorem foldl_send_mem_nsq (f : NestId → Notice) (l : List NestId) (s : Part) :
    (l.foldl (fun s n => s.send (f n)) s).mem = s.mem ∧ (l.foldl (fun s n => s.send (f n)) s).nsq = s.nsq := by
  induction l generalizing s with
  | nil => exact ⟨rfl, rfl⟩
  | cons n l ih => exact ih _

/-- A station STOP that finds no nest with supply, none that waits for it and none CLAMPING (R71). -/
theorem takeStop_unsupplied {s : Part} (hq : s.powerQueue = [])
    (hf : ∀ n, (s.fxc.get n).state.supplied = false ∧ (s.fxc.get n).state ≠ .clamping) :
    s.StoresOnly [stationAt, ffStateAt, ffStepAt, ffTimeAt] s.takeStop ∧ s.takeStop.nsq = s.nsq := by
  have hnone (t : Part) (ht : t.fxc = s.fxc) (l : List NestId) :
      l.foldl (fun s n => if (s.fxc.get n).state = .clamping then s.reverseClamp n else s) t = t := by
    induction l with
    | nil => rfl
    | cons n l ih => simpa [ht, (hf n).2] using ih
  have hsupplied (t : Part) (ht : t.fxc = s.fxc) : t.suppliedNests = [] := by simp [suppliedNests, ht, hf]
  unfold takeStop
  extract_lets stopped flagged emptied supplied opened left released offered noticed
  have hfxc : emptied.fxc = s.fxc := by simp [emptied, flagged, stopped, emptyPowerQueue, hq]
  have hsup : supplied = [] := hsupplied _ hfxc
  have hrel : released = emptied := by
    simp only [released, left, opened, hsup, List.foldl_nil]
    exact hnone _ hfxc _
  have hmem : s.StoresOnly [stationAt, ffStateAt, ffStepAt, ffTimeAt] emptied := by
    simp only [emptied, emptyPowerQueue, flagged, stopped, setFactor_powerQueue, put_powerQueue, hq, List.foldl_nil]
    exact ((StoresOnly.refl.of_mem rfl).put (by simp)).of_mem rfl
  have hnsq : emptied.nsq = s.nsq := by simp [emptied, flagged, stopped, emptyPowerQueue, hq]
  have hoff : offered = emptied.offerFault 8 .stationStop none := by simp only [offered, hrel]
  obtain ⟨hm, hn⟩ := foldl_send_mem_nsq .stationStop (List.finRange 8) offered
  clear_value emptied offered
  subst hoff
  have hstored := hmem.offerFault (source := 8) (kind := .stationStop) (seq := none) (by simp)
  exact ⟨hstored.of_mem (by rw [send_mem]; exact hm), by rw [send_nsq, ← hnsq]; exact hn.trans (offerFault_nsq ..)⟩

/-- A fixture after a reset has no supply and does not move (R73). -/
theorem recover_unsupplied (f : Fixture) : f.recover.state.supplied = false ∧ f.recover.state ≠ .clamping := by
  simp only [Fixture.recover]
  split <;> decide

/-- A device reset keeps what the retired steps leave of every byte that it does not write, and empties the sequencers. -/
theorem deviceReset_pool (s : Part) :
    (∀ a, isResetWord (a / 4) = false → s.deviceReset.mem.byte a = s.retiredAtReset.mem.byte a) ∧
      s.deviceReset.nsq = .fill Reset.nsq := by
  have hdir : ∀ i ∈ [stationAt, ffStateAt, ffStepAt, ffTimeAt], isResetWord i = true := by decide
  rw [show s.deviceReset = (s.atReset s.retiredAtReset.mem (s.opc.recover s.now)
    (s.sent.filterMap Notice.afterReset)).stopIfPressed from rfl]
  have hbyte {a : Nat} (ha : isResetWord (a / 4) = false) : (s.atReset s.retiredAtReset.mem (s.opc.recover s.now)
      (s.sent.filterMap Notice.afterReset)).mem.byte a = s.retiredAtReset.mem.byte a := by
    rw [Part.Keeps.atReset_mem, Reset.byte_memory_other _ _ _ ha]
  obtain ⟨hstore, hnsq⟩ := takeStop_unsupplied (s := s.atReset s.retiredAtReset.mem (s.opc.recover s.now)
    (s.sent.filterMap Notice.afterReset)) rfl fun n => by
      rw [atReset_fxc, Bank.get_build]
      exact recover_unsupplied _
  unfold stopIfPressed
  split
  · refine ⟨fun a ha => ?_, hnsq⟩
    rw [hstore a fun h => by simp [hdir _ h] at ha, hbyte ha]
  · exact ⟨fun _ => hbyte, rfl⟩

theorem deviceReset_word (s : Part) {i : Nat} (h : isResetWord i = false) :
    s.deviceReset.word i = s.retiredAtReset.word i :=
  Memory.word_congr fun _ hb => s.deviceReset_pool.1 _ (hb ▸ h)

/-- The words of the slot of the one step in flight at a device reset (R16). -/
theorem deviceReset_slot {n : NestId} (hst : (s.nsq.get n).step = some st) (hp : st.slot.toNat < Config.slotCount)
    (h : ∀ m, m ≠ n → (s.nsq.get m).step = none) {k : Nat} (hk : k < 16) :
    s.deviceReset.word (slotAt st.slot.toNat k) = (s.writeFinal st .aborted .none .zero).word (slotAt st.slot.toNat k) := by
  rw [deviceReset_word s (isResetWord_slotAt hp hk), retiredAtReset,
    foldl_retireAtReset (List.nodup_finRange 8) h, if_pos (List.mem_finRange n), retireAtReset_step hst]

end Part

/-- Settles O6, by the record that `writeFinal` leaves and by the words that a reset writes. -/
theorem deviceResetKeepsThePool : Obligations.DeviceResetKeepsThePool := by
  refine ⟨fun s n st hst hp h => answers_of_act (f := (·.deviceReset)) rfl ?_,
    fun s => answers_of_act (f := (·.deviceReset)) rfl fun a ha hslot => ?_⟩
  · obtain ⟨h8, h9, h10, h11, h12, h13, h14, h15⟩ :=
      Part.writeFinal_words st .aborted .none .zero s.part
    have hword {k : Nat} (hk : k < 16) := Part.deviceReset_slot hst hp h hk
    refine ⟨fun k hk => ?_, (hword (by decide)).trans h9, (hword (by decide)).trans h10,
      (hword (by decide)).trans h8, by simp [s.part.deviceReset_pool.2, Reset.nsq]⟩
    simp only [List.mem_cons, List.not_mem_nil, or_false] at hk
    rcases hk with rfl | rfl | rfl | rfl | rfl
    exacts [(hword (by decide)).trans h11, (hword (by decide)).trans h12, (hword (by decide)).trans h13,
      (hword (by decide)).trans h14, (hword (by decide)).trans h15]
  · rw [s.part.deviceReset_pool.1 a ha]
    refine Part.foldl_retireAtReset_byte fun n st hst hmem => ?_
    obtain ⟨k, hk, e⟩ := List.mem_map.1 hmem
    exact hslot n st hst k hk e.symm

end Sys2Proof.Machine
end

section
/-! The sequencer's chain: faults, acceptance, and POST events that start no head step. -/

namespace Sys2Proof.Machine

/-! ### Frames -/

/-- From part `s` to part `t` nothing has changed but the sequencer of nest `n` and the words `words`. -/
structure Part.AtNest (n : NestId) (words : List Nat) (s t : Part) : Prop where
  same : t = { s with nsq := t.nsq, mem := t.mem }
  others : Bank.AgreeBut n s.nsq t.nsq
  stores : s.StoresOnly words t

theorem Bank.AgreeBut.trans {k : Nat} {α : Type} {i : Fin k} {a b c : Bank k α} (h : Bank.AgreeBut i a b)
    (g : Bank.AgreeBut i b c) : Bank.AgreeBut i a c := fun j hj => (h j hj).trans (g j hj)

theorem Part.StoresOnly.trans {words : List Nat} {s t u : Part} (h : s.StoresOnly words t)
    (g : t.StoresOnly words u) : s.StoresOnly words u := fun a ha => (g a ha).trans (h a ha)

theorem Part.StoresOnly.mono {words more : List Nat} {s t : Part} (h : s.StoresOnly words t)
    (hw : ∀ i ∈ words, i ∈ more) : s.StoresOnly more t := fun a ha => h a fun hm => ha (hw _ hm)

theorem Part.StoresOnly.modNsq {words : List Nat} {s t : Part} {n : NestId} {f : Nsq → Nsq}
    (h : s.StoresOnly words t) : s.StoresOnly words (t.modNsq n f) := h

theorem Part.StoresOnly.setFactor {words : List Nat} {s t : Part} {i : Nat} (h : s.StoresOnly words t) :
    s.StoresOnly words (t.setFactor i) := h

theorem Part.NestOnly.trans {n : NestId} {s t u : Part} (h : s.NestOnly n t) (g : t.NestOnly n u) : s.NestOnly n u := by
  obtain ⟨h1, h2, h3, h4, h5, h6⟩ := h
  obtain ⟨g1, g2, g3, g4, g5, g6⟩ := g
  exact ⟨h1.trans g1, h2.trans g2, h3.trans g3, h4.trans g4, h5.trans g5, h6.trans g6⟩

/-- A word outside those stored to reads as before. -/
theorem Part.StoresOnly.word {words : List Nat} {s t : Part} (h : s.StoresOnly words t) {i : Nat} (hi : i ∉ words) :
    t.word i = s.word i := Memory.word_congr fun _ hb => h _ (hb ▸ hi)

namespace Part.AtNest

variable {n : NestId} {words : List Nat} {s t u : Part}

theorem refl : AtNest n words s s := ⟨rfl, .refl n _, .refl⟩

theorem trans (h : AtNest n words s t) (g : AtNest n words t u) : AtNest n words s u :=
  ⟨by rw [g.same, h.same], h.others.trans g.others, h.stores.trans g.stores⟩

theorem mono {more : List Nat} (h : AtNest n words s t) (hw : ∀ i ∈ words, i ∈ more) : AtNest n more s t :=
  ⟨h.same, h.others, h.stores.mono hw⟩

theorem modNsq {f : Nsq → Nsq} (h : AtNest n words s t) : AtNest n words s (t.modNsq n f) :=
  h.trans ⟨rfl, .modify n _ _, .refl⟩

theorem put {i : Nat} {v : W32} (h : AtNest n words s t) (hi : i ∈ words) : AtNest n words s (t.put i v) :=
  h.trans ⟨rfl, .refl n _, StoresOnly.refl.put hi⟩

theorem putNest {k : Nat} {v : W32} (h : AtNest n words s t) (hk : nestAt n k ∈ words) :
    AtNest n words s (t.putNest n k v) := h.put hk

theorem track {f : Part → Part} (hf : AtNest n words s (f t)) (hk : nestAt n 7 ∈ words) :
    AtNest n words s (t.track n f) := by
  rcases t.track_eq n f with ⟨e, -⟩ | ⟨e, -⟩
  · exact e ▸ hf
  · exact e ▸ hf.putNest hk

theorem nestOnly (h : AtNest n words s t) : s.NestOnly n t := by
  rw [h.same]
  exact ⟨h.others, .refl n _, .refl n _, .refl n _, .refl n _, .refl n _⟩

theorem timebase (h : AtNest n words s t) : t.timebase = s.timebase := by rw [h.same]; rfl
theorem now (h : AtNest n words s t) : t.now = s.now := by rw [h.same]; rfl

end Part.AtNest

/-! ### Nest faults -/

namespace Part

variable {n : NestId} {s : Part}

/-- A captured fault's words (R23). -/
theorem offerFault_words (source : Fin 9) (kind : FaultKind) (seq : Option W16) (h : s.firstFault = none) :
    (s.offerFault source kind seq).word ffStateAt = ffStateWord ⟨source, kind, seq, s.timebase⟩ ∧
      (s.offerFault source kind seq).word ffStepAt = seqWord seq ∧
      (s.offerFault source kind seq).word ffTimeAt = s.timebase ∧
      (s.offerFault source kind seq).factor = s.factor ||| 1#19 <<< factorFirstFault := by
  have hdir : ffStateAt ≠ ffStepAt ∧ ffStateAt ≠ ffTimeAt ∧ ffTimeAt ≠ ffStepAt := by decide
  obtain ⟨h1, h2, h3⟩ := hdir
  rw [offerFault, h]
  simp only [setFactor_word, put_word, setFactor_factor, put_factor]
  simp [h1, h2, h3]

/-- A flag reads set once it is set, and every other flag reads as before. -/
theorem getLsbD_setFlag (f : BitVec 19) (i j : Nat) :
    (f ||| 1#19 <<< i).getLsbD j = (f.getLsbD j || (decide (j < 19) && decide (i = j))) := by
  simp only [BitVec.getLsbD_or, BitVec.getLsbD_shiftLeft, BitVec.getLsbD_one]
  congr 1
  rw [Bool.eq_iff_iff]
  simp only [Bool.and_eq_true, Bool.not_eq_true', decide_eq_true_eq, decide_eq_false_iff_not]
  omega

namespace Records

variable {k : FaultKind} {q : Option W16} {t u : Part}

/-- What has been recorded stands after an operation that leaves the fault, its words and the flags. -/
theorem of_same (h : s.Records n k q t) (hf : (u.nsq.get n).fault = (t.nsq.get n).fault)
    (hq : (u.nsq.get n).faultSeq = (t.nsq.get n).faultSeq)
    (hw : ∀ i ∈ [nestAt n 8, ffStateAt, ffStepAt, ffTimeAt], u.word i = t.word i) (hfac : u.factor = t.factor)
    (hff : u.firstFault = t.firstFault) : s.Records n k q u := by
  obtain ⟨h1, h2, h3, h4, h5, h6⟩ := h
  unfold Part.Records
  rw [hf, hq, hfac, hff, hw _ (by simp), hw _ (by simp), hw _ (by simp), hw _ (by simp)]
  exact ⟨h1, h2, h3, h4, h5, h6⟩

end Records

/-- A fault of any kind but STATION_STOP is recorded on the nest and offered to the first-fault record (R22, R23). -/
theorem recordFault_eq {k : FaultKind} (h : k ≠ .stationStop) (s : Part) : s.recordFault n k =
    ((((s.modNsq n fun x => { x with fault := k, faultSeq := (s.nsq.get n).sequence }).putNest n 8
      (nestFaultWord k (s.nsq.get n).sequence)).setFactor (factorFault n)).offerFault n.castSucc k
        (s.nsq.get n).sequence) := by
  simp [recordFault, h]

theorem nestAt_not_firstFault (n : NestId) (k : Nat) : nestAt n k ∉ [ffStateAt, ffStepAt, ffTimeAt] := by simp

/-- The flag of the fault, and the FIRST_FAULT flag where the fault is captured (R22, R23). -/
theorem recordFault_factor {k : FaultKind} (h : k ≠ .stationStop) (s : Part) : (s.recordFault n k).factor =
    if s.firstFault = none then (s.factor ||| 1#19 <<< factorFault n) ||| 1#19 <<< factorFirstFault
    else s.factor ||| 1#19 <<< factorFault n := by
  rw [recordFault_eq h]
  split
  · next hf => rw [(offerFault_words _ _ _ (by simpa using hf)).2.2.2]; simp
  · next hf =>
    obtain ⟨f, hf⟩ := Option.ne_none_iff_exists'.1 hf
    rw [offerFault_valid (f := f) _ _ _ _ (by simpa using hf)]
    simp

theorem recordFault_stores {k : FaultKind} (h : k ≠ .stationStop) (s : Part) :
    s.StoresOnly [nestAt n 8, ffStateAt, ffStepAt, ffTimeAt] (s.recordFault n k) := by
  rw [recordFault_eq h]
  exact (StoresOnly.refl.modNsq.putNest (by simp)).setFactor.offerFault (by simp)

theorem recordFault_records {k : FaultKind} (h : k ≠ .stationStop) (s : Part) :
    s.Records n k (s.nsq.get n).sequence (s.recordFault n k) := by
  have hfac := recordFault_factor (n := n) h s
  have hn8 : (s.recordFault n k).word (nestAt n 8) = nestFaultWord k (s.nsq.get n).sequence := by
    rw [recordFault_eq h, (StoresOnly.refl.offerFault (fun _ => id)).word (nestAt_not_firstFault n 8), setFactor_word,
      putNest_word_same]
  refine ⟨by simp [recordFault_nsq], by simp [recordFault_nsq], hn8, ?_, ?_, fun hf _ => ?_⟩
  · have : factorFault n < 19 := by unfold factorFault; omega
    rw [hfac]
    split <;> simp [this]
  · rintro (hf | hf)
    · obtain ⟨f, hf⟩ := Option.isSome_iff_exists.1 hf
      rw [recordFault_eq h, offerFault_valid (f := f) _ _ _ _ (by simpa using hf)]
      simp
    · exact absurd hf h
  · have hbase : ((((s.modNsq n fun x => { x with fault := k, faultSeq := (s.nsq.get n).sequence }).putNest n 8
      (nestFaultWord k (s.nsq.get n).sequence)).setFactor (factorFault n))).firstFault = none := by simpa using hf
    obtain ⟨h1, h2, h3, -⟩ := offerFault_words n.castSucc k (s.nsq.get n).sequence hbase
    refine ⟨?_, ?_, ?_, ?_, ?_⟩
    · rw [recordFault_eq h, offerFault_invalid _ _ _ _ hbase]; simp
    · rw [recordFault_eq h, h1]; simp
    · rw [recordFault_eq h, h2]
    · rw [recordFault_eq h, h3]; simp
    · rw [hfac, if_pos hf, getLsbD_setFlag]; simp [factorFirstFault]

/-! ### CHAIN_BROKEN -/

theorem breakChain_nsq (n : NestId) (s : Part) : (s.breakChain n).nsq = s.nsq.modify n fun x =>
    { x with
      state := .faulted, hold := .none, position := none, fault := .chainBroken
      faultSeq := (s.nsq.get n).sequence } := by
  simp [breakChain, setSeqState, recordFault_nsq]

theorem breakChain_same (n : NestId) (s : Part) : s.breakChain n =
    { s with
      nsq := (s.breakChain n).nsq, mem := (s.breakChain n).mem, factor := (s.breakChain n).factor
      firstFault := (s.breakChain n).firstFault } := by
  apply Part.eq_of_fields <;> simp [breakChain, setSeqState]

/-- The sequencer state set and NEST_STATE written: no other word, and nothing else of the part (R4). -/
theorem AtNest.setSeqState {words : List Nat} {t : Part} {q : SeqState} (h : AtNest n words s t)
    (hk : nestAt n 7 ∈ words) : AtNest n words s (t.setSeqState n q) := h.modNsq.track hk

/-- After the fault is recorded, the chain position goes and the nest is FAULTED. -/
theorem atNest_breakChain (n : NestId) (s : Part) : AtNest n [nestAt n 7] (s.recordFault n .chainBroken) (s.breakChain n) :=
  AtNest.refl.modNsq.setSeqState (by simp)

theorem breakChain_stores (n : NestId) (s : Part) :
    s.StoresOnly [nestAt n 7, nestAt n 8, ffStateAt, ffStepAt, ffTimeAt] (s.breakChain n) :=
  ((recordFault_stores (by decide) s).mono (by simp)).trans ((atNest_breakChain n s).stores.mono (by simp))

theorem breakChain_records (n : NestId) (s : Part) : s.Records n .chainBroken (s.nsq.get n).sequence (s.breakChain n) := by
  have hset := atNest_breakChain n s
  refine (recordFault_records (by decide) s).of_same (by simp [breakChain_nsq, recordFault_nsq])
    (by simp [breakChain_nsq, recordFault_nsq]) (fun i hi => hset.stores.word ?_) (by rw [hset.same]) (by rw [hset.same])
  rw [List.mem_singleton]
  rcases List.mem_cons.1 hi with rfl | hi
  · simp
  · exact fun e => nestAt_not_firstFault n 7 (e ▸ hi)

theorem breakChain_factor (n : NestId) (s : Part) : (s.breakChain n).factor =
    if s.firstFault = none then (s.factor ||| 1#19 <<< factorFault n) ||| 1#19 <<< factorFirstFault
    else s.factor ||| 1#19 <<< factorFault n := by
  rw [← recordFault_factor (n := n) (k := .chainBroken) (by decide)]
  rw [(atNest_breakChain n s).same]

theorem breakChain_setsOnly (n : NestId) (s : Part) :
    s.SetsOnly [factorFault n, factorFirstFault] (s.breakChain n) := by
  intro i hi
  have hne : factorFault n ≠ i ∧ factorFirstFault ≠ i := by
    constructor <;> (rintro rfl; exact hi (by simp))
  rw [breakChain_factor]
  split <;> simp only [getLsbD_setFlag, hne.1, hne.2, decide_false, Bool.and_false, Bool.or_false]

theorem breakChain_nestOnly (n : NestId) (s : Part) : s.NestOnly n (s.breakChain n) := by
  have hnsq : Bank.AgreeBut n s.nsq (s.breakChain n).nsq := by rw [breakChain_nsq]; exact .modify n _ _
  rw [breakChain_same]
  exact ⟨hnsq, .refl n _, .refl n _, .refl n _, .refl n _, .refl n _⟩

/-- A change of the sequencer state is shown in NEST_STATE (R4). -/
theorem track_shows {f : Part → Part} (h : ((f s).nsq.get n).state ≠ (s.nsq.get n).state) :
    (s.track n f).word (nestAt n 7) = (s.track n f).nestStateWord n := by
  have hinj : ∀ a b : SeqState, (seqStateCode a).setWidth 3 = (seqStateCode b).setWidth 3 → a = b := by
    intro a b; cases a <;> cases b <;> simp [seqStateCode]
  rcases s.track_eq n f with ⟨-, e⟩ | ⟨e, -⟩
  · have := congrArg (·.extractLsb' 0 3) e
    simp only [nestStateWord_sequencer] at this
    exact absurd (hinj _ _ this) h
  · rw [e]; simp

/-- A nest that is not FAULTED yet shows its state once its chain is broken (R4). -/
theorem breakChain_shows (h : (s.nsq.get n).state ≠ .faulted) :
    (s.breakChain n).word (nestAt n 7) = (s.breakChain n).nestStateWord n :=
  track_shows (by simpa [recordFault_nsq] using h.symm)

/-! ### Acceptance -/

/-- The sequencer once it has accepted step `st` (R12, R26, R32). -/
theorem accept_nsq (n : NestId) (st : Step) (s : Part) : (s.accept n st).nsq = s.nsq.modify n fun x =>
    { x with
      step := some st, position := some st.nextSlot, state := .running, hold := .none
      deadline := some (s.now + 1000 * st.deadlineMs), waitTimer := none, report := none, unhanded := false } := by
  simp [accept, putSlot, dueInMs]

theorem atNest_accept (n : NestId) (st : Step) (s : Part) :
    AtNest n [nestAt n 5, nestAt n 7, slotAt st.slot.toNat 8, slotAt st.slot.toNat 9] s (s.accept n st) :=
  ((((AtNest.refl.put (by simp)).put (by simp)).putNest (by simp)).modNsq).putNest (by simp)

/-- The words that an acceptance writes (R12, R26). -/
theorem accept_words (n : NestId) (st : Step) (s : Part) :
    (s.accept n st).word (nestAt n 5) = seqWord (some st.sequence) ∧
      (s.accept n st).word (nestAt n 7) = (s.accept n st).nestStateWord n ∧
      (s.accept n st).word (slotAt st.slot.toNat 8) = 1 ∧
      (s.accept n st).word (slotAt st.slot.toNat 9) = st.accepted := by
  simp [accept, putSlot, writeNestState, putNest_word, acceptedWord]

/-- A change of a sequencer that leaves its state, its hold reason and SKIPPING leaves NEST_STATE. -/
theorem modNsq_nestStateWord {n : NestId} {f : Nsq → Nsq} (s : Part)
    (h : ∀ q, (f q).state = q.state ∧ (f q).hold = q.hold ∧ (f q).skipping = q.skipping) :
    (s.modNsq n f).nestStateWord n = s.nestStateWord n := by
  simp [nestStateWord, h]

/-- What an acceptance makes of the nest, and what is then done with its timer and its hand-off (R12, R26, R32). -/
theorem accept_accepts {n : NestId} {st : Step} {s t : Part} {wait : Option Nat} {unhanded : Bool}
    (hn : t.nsq = (s.accept n st).nsq.modify n fun x => { x with waitTimer := wait, unhanded := unhanded })
    (hm : t.mem = (s.accept n st).mem) (hshown : t.nestStateWord n = (s.accept n st).nestStateWord n)
    (hst : st.accepted = s.timebase) : s.Accepts n st wait unhanded t := by
  obtain ⟨h5, h7, h8, h9⟩ := accept_words n st s
  unfold word at h5 h7 h8 h9
  simp only [Part.Accepts, hn, Bank.get_modify_same, accept_nsq, word, hm, hshown, true_and]
  exact ⟨h5, h7, h8, h9.trans hst⟩

/-! ### Fetch -/

/-- The record in slot `p` as the part reads it, in any part that has its words and the time (R12). -/
theorem snapshot_eq {s t : Part} {p : W16} (hw : ∀ k, k < 16 → t.word (slotAt p.toNat k) = s.word (slotAt p.toNat k))
    (ht : t.timebase = s.timebase) : t.snapshot p = s.stepIn p := by
  have : (Bank.build fun k => t.word (slotAt p.toNat k.val) : Bank 16 W32) =
      .build fun k => s.word (slotAt p.toNat k.val) := congrArg _ (funext fun k => hw k.val k.isLt)
  simp only [snapshot, stepIn, this, ht]

/-- A fetch passes where the slot lies in the pool and its record carries the next sequence (R11). -/
theorem fetch_eq {s : Part} {n : NestId} {p r : W16} (hp : (s.nsq.get n).position = some p)
    (hr : (s.nsq.get n).retired = some r) :
    s.fetch n = if p.toNat < Config.slotCount ∧ (s.snapshot p).sequence = r + 1 then some p else none := by
  simp [fetch, hp, hr, Step.sequence, Step.w, snapshot]

/-! ### The course of an accepted step -/

/-- A WAIT that is not skipped runs its timer (R36). -/
theorem perform_wait {n : NestId} {st : Step} {s : Part} (hs : s.skips n st = false) (hk : st.kind = some .wait)
    (hw : st.w 2 ≠ 0) : s.perform n st = (s.beginWait n st, none) := by
  simp only [perform, hs, hk, if_neg hw, Bool.false_eq_true, if_false]

theorem atNest_beginWait (n : NestId) (st : Step) (s : Part) : AtNest n [] s (s.beginWait n st) := AtNest.refl.modNsq

/-- A WAIT accepted and performed (R12, R36). -/
theorem accept_wait {n : NestId} {st : Step} (s : Part) (hst : st.accepted = s.timebase) :
    s.AcceptsWait n st ((s.accept n st).beginWait n st) := by
  have hnow : (s.accept n st).dueInMs (st.w 2).toNat = s.now + 1000 * (st.w 2).toNat := by
    rw [dueInMs, (atNest_accept n st s).now]
  refine accept_accepts ?_ rfl (modNsq_nestStateWord _ (by simp)) hst
  simp [beginWait, hnow, accept_nsq]

/-- SKIPPING mode skips a step that is neither ALWAYS nor a unit step (R42). -/
theorem skips_eq_false {n : NestId} {st : Step} {s : Part}
    (h : (s.nsq.get n).skipping = false ∨ st.always = true ∨ st.kind = some .unitBegin ∨ st.kind = some .unitEnd) :
    s.skips n st = false := by
  rcases h with h | h | h | h <;> simp [skips, h, Step.isKind]

/-! ### Following the chain -/

/-- A fetch that fails breaks the chain (R11). -/
theorem follow_broken {n : NestId} {s : Part} {k : Nat} (hk : 1 ≤ k) (h : s.fetch n = none) :
    s.follow n k = s.breakChain n := by
  obtain ⟨k, rfl⟩ := Nat.exists_eq_add_of_le' hk
  simp [follow, h]

/-- A step that does not retire at its acceptance stays in execution (R26). -/
theorem follow_stays {n : NestId} {s t : Part} {k : Nat} {p : W16} (hk : 1 ≤ k) (h : s.fetch n = some p)
    (hp : (s.accept n (s.snapshot p)).perform n (s.snapshot p) = (t, none)) : s.follow n k = t := by
  obtain ⟨k, rfl⟩ := Nat.exists_eq_add_of_le' hk
  simp [follow, h, hp]

/-- A step that retires at its acceptance is followed by the next (R10). -/
theorem follow_retires {n : NestId} {s t : Part} {k : Nat} {p : W16} {v : Verdict} {d : Detail} {r : Results}
    (h : s.fetch n = some p)
    (hp : (s.accept n (s.snapshot p)).perform n (s.snapshot p) = (t, some (v, d, r))) :
    s.follow n (k + 1) = (t.retire n v d r).follow n k := by
  simp [follow, h, hp]

/-! ### POST events -/

/-- POST as a POST event reads it (R6). -/
def postOf (n : NestId) (s : Part) : W16 := field (s.word (nestAt n 1)) 0 16

theorem takePost_start {n : NestId} {s : Part} (h : (s.nsq.get n).state = .stopped) (hs : s.station = .run) :
    s.takePost n = s.startChain n (s.postOf n) := by
  simp [takePost, h, hs, postOf]

theorem takePost_underStop {n : NestId} {s : Part} (h : (s.nsq.get n).state = .stopped) (hs : s.station = .stopped) :
    s.takePost n = s.postUnderStop n (s.postOf n) := by
  simp [takePost, h, hs, postOf]

theorem takePost_faulted {n : NestId} {s : Part} (h : (s.nsq.get n).state = .faulted) : s.takePost n = s := by
  simp [takePost, h]

theorem takePost_known {n : NestId} {s : Part}
    (h : (s.nsq.get n).state = .waiting ∨ (s.nsq.get n).state = .running ∨ (s.nsq.get n).state = .held) :
    s.takePost n = s.changeLimit n (s.postOf n) := by
  rcases h with h | h | h <;> simp [takePost, h, postOf]

theorem inWindow_iff (d : Nat) : inWindow d = true ↔ 1 ≤ d ∧ d ≤ 2048 := by
  simp only [inWindow, Bool.and_eq_true, decide_eq_true_eq]
  exact Iff.rfl

/-- The base sequence of a chain start: that of the record in slot HEAD (R7). -/
def baseOf (n : NestId) (s : Part) : W16 := field (s.word (slotAt (s.word (nestAt n 0)).toNat 0)) 0 16

/-- A chain start with HEAD beyond the pool (R7, R49). -/
theorem startChain_beyond {n : NestId} {s : Part} (post : W16) (h : Config.slotCount ≤ (s.word (nestAt n 0)).toNat) :
    s.startChain n post = s.breakChain n := by
  simp [startChain, h]

/-- RETIRED set to the base minus 1 (R7). -/
def based (n : NestId) (s : Part) : Part :=
  (s.modNsq n fun q => { q with retired := some (s.baseOf n - 1) }).putNest n 4 (seqWord (some (s.baseOf n - 1)))

/-- A chain start whose POST is out of the window (R7). -/
theorem startChain_held {n : NestId} {s : Part} {post : W16} (h : (s.word (nestAt n 0)).toNat < Config.slotCount)
    (hw : inWindow (seqDistance (s.baseOf n - 1) post) = false) :
    s.startChain n post = (s.based n).setFactor factorPostRange := by
  unfold baseOf at hw
  simp only [startChain, if_neg (Nat.not_le.2 h), hw, Bool.false_eq_true, if_false, based, baseOf]

/-- A chain start whose POST lies in the window (R7). -/
theorem startChain_open {n : NestId} {s : Part} {post : W16} (h : (s.word (nestAt n 0)).toNat < Config.slotCount)
    (hw : inWindow (seqDistance (s.baseOf n - 1) post) = true) :
    s.startChain n post =
      (((s.based n).setLimit n post).modNsq n fun q => { q with position := some (field (s.word (nestAt n 0)) 0 16) }).follow
        n (seqDistance (s.baseOf n - 1) post) := by
  unfold baseOf at hw
  simp only [startChain, if_neg (Nat.not_le.2 h), hw, if_true, based, baseOf]

theorem atNest_based (n : NestId) (s : Part) : AtNest n [nestAt n 4] s (s.based n) := AtNest.refl.modNsq.putNest (by simp)

theorem atNest_setLimit (n : NestId) (limit : W16) (s : Part) : AtNest n [nestAt n 6] s (s.setLimit n limit) :=
  AtNest.refl.modNsq.putNest (by simp)

@[simp] theorem setLimit_nsq (n : NestId) (limit : W16) (s : Part) :
    (s.setLimit n limit).nsq = s.nsq.modify n fun q => { q with limit := some limit } := rfl

@[simp] theorem setLimit_word (n : NestId) (limit : W16) (s : Part) :
    (s.setLimit n limit).word (nestAt n 6) = seqWord (some limit) := by
  simp [setLimit]

/-- A POST event under station STOP, or while a chain is known, in a nest that does not wait (R8, R9). -/
theorem changeLimit_busy {n : NestId} {s : Part} {post r : W16} (hr : (s.nsq.get n).retired = some r)
    (hw : inWindow (seqDistance r post) = true) (h : (s.nsq.get n).state ≠ .waiting) :
    s.changeLimit n post = s.setLimit n post := by
  simp [changeLimit, hr, hw, h]

/-- A POST event of a waiting nest fetches at once (R10). -/
theorem changeLimit_waiting {n : NestId} {s : Part} {post r : W16} (hr : (s.nsq.get n).retired = some r)
    (hw : inWindow (seqDistance r post) = true) (h : (s.nsq.get n).state = .waiting) :
    s.changeLimit n post = (s.setLimit n post).follow n (seqDistance r post) := by
  simp [changeLimit, hr, hw, h]

/-- A POST out of the window (R9). -/
theorem changeLimit_out {n : NestId} {s : Part} {post r : W16} (hr : (s.nsq.get n).retired = some r)
    (hw : inWindow (seqDistance r post) = false) :
    s.changeLimit n post = if seqDistance r post = 0 then s else s.setFactor factorPostRange := by
  simp [changeLimit, hr, hw]

/-- Under station STOP, RETIRED present (R8). -/
theorem postUnderStop_known {n : NestId} {s : Part} {post r : W16} (hr : (s.nsq.get n).retired = some r) :
    s.postUnderStop n post =
      if inWindow (seqDistance r post) then s.setLimit n post
      else if seqDistance r post = 0 then s else s.setFactor factorPostRange := by
  simp [postUnderStop, hr]

/-- Under station STOP, RETIRED absent (R8). -/
theorem postUnderStop_unknown {n : NestId} {s : Part} (post : W16) (hr : (s.nsq.get n).retired = none) :
    s.postUnderStop n post = s.setLimit n post := by
  simp [postUnderStop, hr]

/-- The part with the event at the head of the watch queue taken, which leaves the queue `q` (R6). -/
def dequeued (q : List Watched) (s : Part) : Part := { s with watchQueue := q }

@[simp] theorem dequeued_ticks (q : List Watched) (s : Part) : (s.dequeued q).ticks = s.ticks := rfl
@[simp] theorem dequeued_mem (q : List Watched) (s : Part) : (s.dequeued q).mem = s.mem := rfl
@[simp] theorem dequeued_factor (q : List Watched) (s : Part) : (s.dequeued q).factor = s.factor := rfl
@[simp] theorem dequeued_mask (q : List Watched) (s : Part) : (s.dequeued q).mask = s.mask := rfl
@[simp] theorem dequeued_firstFault (q : List Watched) (s : Part) : (s.dequeued q).firstFault = s.firstFault := rfl
@[simp] theorem dequeued_station (q : List Watched) (s : Part) : (s.dequeued q).station = s.station := rfl
@[simp] theorem dequeued_stopPressed (q : List Watched) (s : Part) : (s.dequeued q).stopPressed = s.stopPressed := rfl
@[simp] theorem dequeued_nsq (q : List Watched) (s : Part) : (s.dequeued q).nsq = s.nsq := rfl
@[simp] theorem dequeued_fxc (q : List Watched) (s : Part) : (s.dequeued q).fxc = s.fxc := rfl
@[simp] theorem dequeued_powerQueue (q : List Watched) (s : Part) : (s.dequeued q).powerQueue = s.powerQueue := rfl
@[simp] theorem dequeued_stu (q : List Watched) (s : Part) : (s.dequeued q).stu = s.stu := rfl
@[simp] theorem dequeued_buc (q : List Watched) (s : Part) : (s.dequeued q).buc = s.buc := rfl
@[simp] theorem dequeued_gmn (q : List Watched) (s : Part) : (s.dequeued q).gmn = s.gmn := rfl
@[simp] theorem dequeued_lpc (q : List Watched) (s : Part) : (s.dequeued q).lpc = s.lpc := rfl
@[simp] theorem dequeued_pcv (q : List Watched) (s : Part) : (s.dequeued q).pcv = s.pcv := rfl
@[simp] theorem dequeued_opc (q : List Watched) (s : Part) : (s.dequeued q).opc = s.opc := rfl
@[simp] theorem dequeued_sent (q : List Watched) (s : Part) : (s.dequeued q).sent = s.sent := rfl
@[simp] theorem dequeued_choices (q : List Watched) (s : Part) : (s.dequeued q).choices = s.choices := rfl
@[simp] theorem dequeued_now (q : List Watched) (s : Part) : (s.dequeued q).now = s.now := rfl
@[simp] theorem dequeued_timebase (q : List Watched) (s : Part) : (s.dequeued q).timebase = s.timebase := rfl
@[simp] theorem dequeued_watchQueue (q : List Watched) (s : Part) : (s.dequeued q).watchQueue = q := rfl
@[simp] theorem dequeued_word (q : List Watched) (s : Part) (i : Nat) : (s.dequeued q).word i = s.word i := rfl
@[simp] theorem dequeued_postOf (q : List Watched) (n : NestId) (s : Part) : (s.dequeued q).postOf n = s.postOf n := rfl
@[simp] theorem dequeued_baseOf (q : List Watched) (n : NestId) (s : Part) : (s.dequeued q).baseOf n = s.baseOf n := rfl
@[simp] theorem dequeued_stepIn (q : List Watched) (p : W16) (s : Part) : (s.dequeued q).stepIn p = s.stepIn p := rfl

theorem NestOnly.of_dequeued {q : List Watched} {n : NestId} {s t : Part} (h : (s.dequeued q).NestOnly n t) :
    s.NestOnly n t := h

theorem StoresOnly.of_dequeued {q : List Watched} {words : List Nat} {s t : Part}
    (h : (s.dequeued q).StoresOnly words t) : s.StoresOnly words t := h

end Part

/-- A POST event at the head of the watch queue answers what the sequencer makes of it (R6). -/
theorem answers_post {n : NestId} {q : List Watched} {s : State} {post : Part → Prop}
    (hq : s.part.watchQueue = .post n :: q) (h : post ((s.part.dequeued q).takePost n)) : Answers (.postEvent n) s post :=
  answers_of_act (f := (·.takeWatchEvent (.post n) (·.takePost n))) rfl
    (by rw [Part.takeWatchEvent_head _ hq]; exact h)

/-- Settles O12, by the cases of `startChain`. -/
theorem chainStartHeldOrBroken : Obligations.ChainStartHeldOrBroken := by
  intro n q s hq hst hrun hstep head post base
  have htake : (s.part.dequeued q).takePost n = (s.part.dequeued q).startChain n post :=
    Part.takePost_start (by simpa using hst) (by simpa using hrun)
  refine ⟨fun hh hd => answers_post hq ?_, fun hh => answers_post hq ?_⟩
  · have hw : inWindow (seqDistance ((s.part.dequeued q).baseOf n - 1) post) = false := by
      rw [← Bool.not_eq_true, Part.inWindow_iff]
      change ¬ (1 ≤ seqDistance (base - 1) post ∧ seqDistance (base - 1) post ≤ 2048)
      omega
    obtain ⟨hsame, hothers, hstores⟩ := Part.atNest_based n (s.part.dequeued q)
    rw [htake, Part.startChain_held (s := s.part.dequeued q) hh hw]
    refine ⟨?_, ?_, ?_, hstores, ?_, ?_⟩
    · simp [Part.based, Part.baseOf, base, head]
    · simp [Part.based, Part.baseOf, base, head]
    · simp [Part.based]
    · exact (Part.atNest_based n (s.part.dequeued q)).nestOnly
    · apply Part.eq_of_fields <;> simp [Part.based]
  · obtain ⟨h1, h2, h3, h4, h5, h6⟩ := (s.part.dequeued q).breakChain_records n
    rw [htake, Part.startChain_beyond (s := s.part.dequeued q) _ hh]
    refine ⟨?_, ?_, h4, ?_, ?_, (s.part.dequeued q).breakChain_stores n, (s.part.dequeued q).breakChain_nestOnly n⟩
    · simp [Part.breakChain_nsq, Nsq.sequence, hstep]
    · rw [h3]
      simp [Nsq.sequence, hstep, nestFaultWord, faultCode]
    · intro hf
      simpa [Nsq.sequence, hstep] using (h6 (by simpa using hf) (by decide)).1
    · intro hf
      simpa using h5 (.inl (by simpa using hf))

namespace Part

/-- A nest in which a POST event moves the posted limit and fetches nothing (R8, R9). -/
def MovesLimit (s : Part) (n : NestId) : Prop :=
  (s.nsq.get n).state = .running ∨ (s.nsq.get n).state = .held ∨ (s.nsq.get n).state = .stopped ∧ s.station = .stopped

variable {n : NestId} {s : Part} {r : W16}

/-- A POST in the window becomes the posted limit (R8, R9). -/
theorem takePost_moves (h : s.MovesLimit n) (hr : (s.nsq.get n).retired = some r)
    (hw : inWindow (seqDistance r (s.postOf n)) = true) : s.takePost n = s.setLimit n (s.postOf n) := by
  rcases h with h | h | ⟨h, hs⟩
  · rw [takePost_known (.inr (.inl h)), changeLimit_busy hr hw (by simp [h])]
  · rw [takePost_known (.inr (.inr h)), changeLimit_busy hr hw (by simp [h])]
  · rw [takePost_underStop h hs, postUnderStop_known hr, if_pos hw]

/-- A POST out of the window is discarded, or sets POST_RANGE (R8, R9). -/
theorem takePost_out (h : s.MovesLimit n ∨ (s.nsq.get n).state = .waiting) (hr : (s.nsq.get n).retired = some r)
    (hw : inWindow (seqDistance r (s.postOf n)) = false) :
    s.takePost n = if seqDistance r (s.postOf n) = 0 then s else s.setFactor factorPostRange := by
  rcases h with (h | h | ⟨h, hs⟩) | h
  · rw [takePost_known (.inr (.inl h)), changeLimit_out hr hw]
  · rw [takePost_known (.inr (.inr h)), changeLimit_out hr hw]
  · rw [takePost_underStop h hs, postUnderStop_known hr, if_neg (by simp [hw])]
  · rw [takePost_known (.inl h), changeLimit_out hr hw]

/-- The record in a slot of the pool reads as before once LIMIT is written (R10). -/
theorem setLimit_snapshot (limit slot : W16) : (s.setLimit n limit).snapshot slot = s.stepIn slot :=
  snapshot_eq (fun k _ => (s.atNest_setLimit n limit).stores.word (by simp)) rfl

/-- The fetch of a nest whose limit has just been set (R10, R11). -/
theorem setLimit_fetch {slot : W16} (limit : W16) (hp : (s.nsq.get n).position = some slot)
    (hr : (s.nsq.get n).retired = some r) : (s.setLimit n limit).fetch n =
      if slot.toNat < Config.slotCount ∧ (s.stepIn slot).sequence = r + 1 then some slot else none := by
  rw [fetch_eq (p := slot) (r := r) (by simpa using hp) (by simpa using hr), setLimit_snapshot]

/-- A POST event of a waiting nest accepts the next step, a WAIT (R10, R36). -/
theorem takePost_waits {slot : W16} (h : (s.nsq.get n).state = .waiting) (hr : (s.nsq.get n).retired = some r)
    (hp : (s.nsq.get n).position = some slot) (hw : inWindow (seqDistance r (s.postOf n)) = true)
    (hslot : slot.toNat < Config.slotCount) (hseq : (s.stepIn slot).sequence = r + 1)
    (hk : (s.stepIn slot).kind = some .wait) (hwait : (s.stepIn slot).w 2 ≠ 0)
    (hskip : (s.nsq.get n).skipping = false ∨ (s.stepIn slot).always = true) :
    s.takePost n =
      ((s.setLimit n (s.postOf n)).accept n (s.stepIn slot)).beginWait n (s.stepIn slot) := by
  rw [takePost_known (.inl h), changeLimit_waiting hr hw h]
  refine follow_stays ((inWindow_iff _).1 hw).1 (by rw [setLimit_fetch _ hp hr, if_pos ⟨hslot, hseq⟩]) ?_
  rw [setLimit_snapshot]
  refine perform_wait (skips_eq_false ?_) hk hwait
  rcases hskip with h | h
  · exact .inl (by simpa [accept_nsq] using h)
  · exact .inr (.inl h)

/-- A POST event of a waiting nest breaks the chain where the fetch fails (R10, R11). -/
theorem takePost_breaks {slot : W16} (h : (s.nsq.get n).state = .waiting) (hr : (s.nsq.get n).retired = some r)
    (hp : (s.nsq.get n).position = some slot) (hw : inWindow (seqDistance r (s.postOf n)) = true)
    (hbad : ¬ (slot.toNat < Config.slotCount ∧ (s.stepIn slot).sequence = r + 1)) :
    s.takePost n = (s.setLimit n (s.postOf n)).breakChain n := by
  rw [takePost_known (.inl h), changeLimit_waiting hr hw h]
  exact follow_broken ((inWindow_iff _).1 hw).1 (by rw [setLimit_fetch _ hp hr, if_neg hbad])

end Part

/-- A POST event whose part stays as it was answers that part. -/
theorem exec_postEvent {n : NestId} {q : List Watched} {s : State} {p : Part}
    (hq : s.part.watchQueue = .post n :: q) (h : (s.part.dequeued q).takePost n = p) :
    exec (.postEvent n) s = .next { s with part := p } := by
  obtain ⟨p', hp', e⟩ := answers_post (post := fun t => t = p) hq h
  rw [hp', e]

/-- Settles O13, by the states in which a POST event is taken. -/
theorem postMovesTheLimitOrIsHeld : Obligations.PostMovesTheLimitOrIsHeld := by
  intro n q s hq x post known setsLimit
  have hexec (h : (s.part.dequeued q).takePost n = s.part.dequeued q) :
      exec (.postEvent n) s = .next { s with part := { s.part with watchQueue := q } } := exec_postEvent hq h
  have hsets (h : (s.part.dequeued q).takePost n = (s.part.dequeued q).setLimit n post) : setsLimit := by
    refine answers_post hq ?_
    have hlim := Part.atNest_setLimit n post (s.part.dequeued q)
    rw [h]
    exact ⟨by simp [x], by simp, hlim.stores, hlim.nestOnly, hlim.same⟩
  have hmoves (hk : known) : (s.part.dequeued q).MovesLimit n := by simpa [known, Part.MovesLimit] using hk
  refine ⟨fun r hk hr => ?_, ?_, fun hst hstop hr => hsets ?_, fun hst => hexec ?_⟩
  · have hk' : (s.part.dequeued q).MovesLimit n ∨ ((s.part.dequeued q).nsq.get n).state = .waiting := hk.imp_left hmoves
    have hout (hw : ¬ (1 ≤ seqDistance r post ∧ seqDistance r post ≤ 2048)) :
        (s.part.dequeued q).takePost n =
          if seqDistance r post = 0 then s.part.dequeued q else (s.part.dequeued q).setFactor factorPostRange :=
      Part.takePost_out hk' hr (by rw [← Bool.not_eq_true, Part.inWindow_iff]; exact hw)
    refine ⟨fun hk h1 h2 => hsets (Part.takePost_moves (hmoves hk) hr ((Part.inWindow_iff _).2 ⟨h1, h2⟩)),
      fun h0 => hexec ?_, fun h2 => answers_post hq ?_⟩
    · rw [hout (by omega), if_pos h0]
    · rw [hout (by omega), if_neg (by omega)]
      exact ⟨rfl, rfl⟩
  · intro r slot hst hr hpos h1 h2 st
    have hw := (Part.inWindow_iff _).2 ⟨h1, h2⟩
    refine ⟨fun hslot hseq hkind hwait hskip => answers_post hq ?_, fun hbad hstep => answers_post hq ?_⟩
    · rw [Part.takePost_waits (s := s.part.dequeued q) hst hr hpos hw hslot hseq hkind hwait hskip]
      have hacc := (Part.atNest_accept n st ((s.part.dequeued q).setLimit n post)).trans
        ((Part.atNest_beginWait n st _).mono (by simp))
      have hall := ((Part.atNest_setLimit n post (s.part.dequeued q)).mono (more := [nestAt n 5, nestAt n 6, nestAt n 7,
        slotAt slot.toNat 8, slotAt slot.toNat 9]) (by simp)).trans (hacc.mono (by simp [st, Part.stepIn]))
      refine ⟨Part.accept_wait ((s.part.dequeued q).setLimit n post) rfl, ?_, ?_, hall.stores, hall.nestOnly, hall.same⟩
      · exact (hacc.stores.word (by simp)).trans (Part.setLimit_word ..)
      · simp [Part.beginWait, Part.accept_nsq, x, ← hr, Part.postOf, post]
    · have hbad' : ¬ (slot.toNat < Config.slotCount ∧ st.sequence = r + 1) := by
        rintro ⟨h, h'⟩
        rcases hbad with hbad | hbad
        exacts [absurd h (Nat.not_lt.2 hbad), hbad h']
      have htake : (s.part.dequeued q).takePost n = ((s.part.dequeued q).setLimit n post).breakChain n :=
        Part.takePost_breaks hst hr hpos hw hbad'
      rw [htake]
      have hlim := Part.atNest_setLimit n post (s.part.dequeued q)
      have hseq : (((s.part.dequeued q).setLimit n post).nsq.get n).sequence = none := by
        simp [Nsq.sequence, show (s.part.nsq.get n).step = none from hstep]
      have hrec := ((s.part.dequeued q).setLimit n post).breakChain_records n
      rw [hseq] at hrec
      have hstores := ((s.part.dequeued q).setLimit n post).breakChain_stores n
      refine ⟨?_, hrec, ?_, Part.breakChain_shows (by simp [show (s.part.nsq.get n).state = .waiting from hst]),
        ((s.part.dequeued q).setLimit n post).breakChain_setsOnly n,
        (hlim.stores.mono (by simp)).trans (hstores.mono (by simp)),
        hlim.nestOnly.trans (Part.breakChain_nestOnly n _), ((s.part.dequeued q).setLimit n post).breakChain_same n⟩
      · simp [Part.breakChain_nsq, Nsq.sequence, show (s.part.nsq.get n).step = none from hstep, x]
      · exact (hstores.word (by simp)).trans (Part.setLimit_word ..)
  · exact (Part.takePost_underStop (s := s.part.dequeued q) hst hstop).trans (Part.postUnderStop_unknown _ hr)
  · exact Part.takePost_faulted hst

end Sys2Proof.Machine
end

section
/-! Retirement, and the fetch that follows it. -/

namespace Sys2Proof.Machine

/-- Two changes that agree on what stands at the index are the same there. -/
theorem Bank.modify_congr {k : Nat} {α : Type} (b : Bank k α) (i : Fin k) {f g : α → α}
    (h : f (b.get i) = g (b.get i)) : b.modify i f = b.modify i g := by
  simp only [Bank.modify, h]

namespace Part

variable {n : NestId} {st : Step} {s t u : Part} {v : Verdict} {d : Detail} {r : Results}

/-! ### Words apart -/

theorem slotAt_not_slotWords {p q : W16} {k : Nat} (h : p ≠ q) (hk : k < 16) : slotAt p.toNat k ∉ slotWords q := by
  intro hm
  obtain ⟨j, hj, e⟩ := List.mem_map.1 hm
  have hj : j < 16 := by
    have : ∀ j ∈ [8, 9, 10, 11, 12, 13, 14, 15], j < 16 := by decide
    exact this j hj
  exact h (BitVec.eq_of_toNat_eq ((slotAt_eq_iff hj hk).1 e).1.symm)

/-- Words that no slot has are none of a slot's. -/
theorem slotWords_apart {p : W16} {words : List Nat} (h : ∀ k, k < 16 → slotAt p.toNat k ∉ words) :
    ∀ i ∈ slotWords p, i ∉ words := by
  intro i hi
  obtain ⟨k, hk, rfl⟩ := List.mem_map.1 hi
  have hlt : ∀ k ∈ [8, 9, 10, 11, 12, 13, 14, 15], k < 16 := by decide
  exact h k (hlt k hk)

theorem nestAt_not_slotWords (n : NestId) {k : Nat} (hk : k < 64) (p : W16) : nestAt n k ∉ slotWords p := by
  intro hm
  obtain ⟨j, -, e⟩ := List.mem_map.1 hm
  exact slotAt_ne_nestAt _ _ n hk e

theorem mem_nestWords {n : NestId} {k : Nat} (hk : k ∈ [4, 5, 6, 7, 8, 9, 10, 11, 12, 13, 14, 15]) :
    nestAt n k ∈ nestWords n := List.mem_map_of_mem hk

/-! ### The parts of a retirement -/

/-- The unit record once a step has retired: counted, if a unit is OPEN and the step is no unit step (R39). -/
def countedUnit (n : NestId) (st : Step) (v : Verdict) (s : Part) : UnitRecord :=
  let u := (s.nsq.get n).unit
  if u.state = .opened ∧ st.kind ≠ some .unitBegin ∧ st.kind ≠ some .unitEnd then u.count st.sequence v else u

theorem countStep_nsq (n : NestId) (st : Step) (v : Verdict) (s : Part) :
    (s.countStep n st v).nsq = s.nsq.modify n fun q => { q with unit := s.countedUnit n st v } := by
  by_cases h : (s.nsq.get n).unit.state = .opened ∧ st.kind ≠ some .unitBegin ∧ st.kind ≠ some .unitEnd
  · simp only [countStep, countedUnit, if_pos h]
    split <;> simp
  · simp only [countStep, countedUnit, if_neg h]
    exact (Bank.put_get _ _).symm

theorem atNest_countStep (n : NestId) (st : Step) (v : Verdict) (s : Part) :
    AtNest n [nestAt n 11, nestAt n 12, nestAt n 13] s (s.countStep n st v) := by
  unfold countStep
  extract_lets u t counted written
  have hw : AtNest n [nestAt n 11, nestAt n 12, nestAt n 13] s written :=
    (AtNest.refl.modNsq.putNest (by simp)).putNest (by simp)
  split
  · split
    exacts [hw, hw.putNest (by simp)]
  · exact .refl

theorem atNest_writeFinal : AtNest n (slotWords st.slot) s (s.writeFinal st v d r) :=
  ⟨rfl, .refl n _, StoresOnly.refl.writeFinal fun _ => mem_slotWords⟩

theorem setSkipping_nsq (n : NestId) (on : Bool) (s : Part) :
    (s.setSkipping n on).nsq = s.nsq.modify n fun q => { q with skipping := on } := by
  simp [setSkipping]

theorem atNest_setSkipping (n : NestId) (on : Bool) (s : Part) : AtNest n [nestAt n 7] s (s.setSkipping n on) :=
  AtNest.refl.modNsq.track (by simp)

/-- The record written, the step counted and SKIPPING set: what a retirement does before it drops the step. -/
def recorded (n : NestId) (st : Step) (v : Verdict) (d : Detail) (r : Results) (s : Part) : Part :=
  let t := (s.writeFinal st v d r).countStep n st v
  t.setSkipping n (skippingAfter st v (t.nsq.get n).skipping)

theorem recorded_nsq : (s.recorded n st v d r).nsq = s.nsq.modify n fun q =>
    { q with unit := s.countedUnit n st v, skipping := skippingAfter st v q.skipping } := by
  have hu : (s.writeFinal st v d r).countedUnit n st v = s.countedUnit n st v := rfl
  simp only [recorded, setSkipping_nsq, countStep_nsq, writeFinal_nsq, hu, Bank.modify_modify, Bank.get_modify_same]
  exact Bank.modify_congr _ _ rfl

theorem atNest_recorded :
    AtNest n (slotWords st.slot ++ [nestAt n 7, nestAt n 11, nestAt n 12, nestAt n 13]) s (s.recorded n st v d r) :=
  ((atNest_writeFinal.mono (by simp +contextual)).trans ((atNest_countStep n st v _).mono (by simp))).trans
    ((atNest_setSkipping n _ _).mono (by simp))

/-- The step dropped: RETIRED and CURRENT written, and nothing of the step left with its owners (R14, R28, R45). -/
def dropped (n : NestId) (seq : W16) (s : Part) : Part :=
  (((s.modNsq n fun q =>
    { q with retired := some seq, step := none, deadline := none, waitTimer := none, report := none
             unhanded := false }).forgetStep n).putNest n 4 (seqWord (some seq))).putNest n 5 (seqWord none)

theorem retire_eq (h : (s.nsq.get n).step = some st) (v : Verdict) (d : Detail) (r : Results) :
    s.retire n v d r =
      if st.notify || st.isKind .unitEnd then
        ((s.recorded n st v d r).dropped n st.sequence).setFactor (factorNotify n)
      else (s.recorded n st v d r).dropped n st.sequence := by
  simp only [retire, h, recorded, dropped]

/-- The sequencer after a retirement (R14, R39, R41). -/
theorem retire_nsq (h : (s.nsq.get n).step = some st) (v : Verdict) (d : Detail) (r : Results) :
    (s.retire n v d r).nsq = s.nsq.modify n fun q =>
      { q with
        unit := s.countedUnit n st v, skipping := skippingAfter st v q.skipping, retired := some st.sequence
        step := none, deadline := none, waitTimer := none, report := none, unhanded := false } := by
  rw [retire_eq h]
  split <;> simp [dropped, forgetStep, recorded_nsq]

theorem dropped_stores (n : NestId) (seq : W16) (s : Part) :
    s.StoresOnly [nestAt n 4, nestAt n 5] (s.dropped n seq) := by
  have hforget : s.StoresOnly [nestAt n 4, nestAt n 5] ((s.modNsq n fun q =>
      { q with retired := some seq, step := none, deadline := none, waitTimer := none, report := none
               unhanded := false }).forgetStep n) := StoresOnly.refl
  exact (hforget.putNest (by simp)).putNest (by simp)

theorem retire_stores (h : (s.nsq.get n).step = some st) (v : Verdict) (d : Detail) (r : Results) :
    s.StoresOnly (slotWords st.slot ++ [nestAt n 4, nestAt n 5, nestAt n 7, nestAt n 11, nestAt n 12, nestAt n 13])
      (s.retire n v d r) := by
  have hdropped := (atNest_recorded.stores.mono (by simp; tauto)).trans
    ((dropped_stores n st.sequence (s.recorded n st v d r)).mono
      (more := slotWords st.slot ++ [nestAt n 4, nestAt n 5, nestAt n 7, nestAt n 11, nestAt n 12, nestAt n 13])
      (by simp))
  rw [retire_eq h]
  split
  exacts [hdropped.setFactor, hdropped]

/-- A retirement stores to words of the slot and of the nest block that the part owns. -/
theorem retire_stores_owned (h : (s.nsq.get n).step = some st) (more : List Nat) :
    s.StoresOnly (slotWords st.slot ++ nestWords n ++ more) (s.retire n v d r) := by
  refine (retire_stores h v d r).mono fun i hi => List.mem_append_left _ ?_
  refine (List.mem_append.1 hi).elim (List.mem_append_left _) fun hi => List.mem_append_right _ ?_
  simp only [List.mem_cons, List.not_mem_nil, or_false] at hi
  rcases hi with rfl | rfl | rfl | rfl | rfl | rfl <;> exact mem_nestWords (by decide)

/-- What a retirement leaves of the part but the sequencer and memory (R28, R45, R61). -/
theorem retire_same (h : (s.nsq.get n).step = some st) (v : Verdict) (d : Detail) (r : Results) :
    s.retire n v d r =
      { s with
        nsq := (s.retire n v d r).nsq, mem := (s.retire n v d r).mem, sent := outcomesLate n s.sent
        factor := if st.notify || st.isKind .unitEnd then s.factor ||| 1#19 <<< factorNotify n else s.factor
        fxc := s.fxc.put n { s.fxc.get n with powerOn := none }
        pcv := { s.pcv with records := s.pcv.records.put n none } } := by
  have hsent := retire_sent v d r h
  have hfields : (s.retire n v d r).fxc = s.fxc.put n { s.fxc.get n with powerOn := none } ∧
      (s.retire n v d r).pcv = { s.pcv with records := s.pcv.records.put n none } := by
    rw [retire_eq h]
    split <;> simp [dropped, forgetStep, recorded, setSkipping, writeFinal, putSlot, Bank.modify]
  have hfactor : (s.retire n v d r).factor =
      if st.notify || st.isKind .unitEnd then s.factor ||| 1#19 <<< factorNotify n else s.factor := by
    rw [retire_eq h]
    split <;> simp [dropped, forgetStep, recorded, setSkipping, writeFinal, putSlot]
  rw [← hsent, ← hfactor, ← hfields.1, ← hfields.2, retire_eq h]
  split
  all_goals
    apply Part.eq_of_fields <;> simp [dropped, forgetStep, recorded, setSkipping, writeFinal, putSlot]

/-- The record of the step stands once it is written: only words of the nest block are written after it (R14). -/
theorem retire_slot (h : (s.nsq.get n).step = some st) (v : Verdict) (d : Detail) (r : Results) (p : W16) (k : Nat) :
    (s.retire n v d r).word (slotAt p.toNat k) = (s.writeFinal st v d r).word (slotAt p.toNat k) := by
  have hcount := (atNest_countStep n st v (s.writeFinal st v d r)).stores
  have hskip := (atNest_setSkipping n (skippingAfter st v (((s.writeFinal st v d r).countStep n st v).nsq.get n).skipping)
    ((s.writeFinal st v d r).countStep n st v)).stores
  have hdrop := dropped_stores n st.sequence (s.recorded n st v d r)
  have hword : ((s.recorded n st v d r).dropped n st.sequence).word (slotAt p.toNat k) =
      (s.writeFinal st v d r).word (slotAt p.toNat k) :=
    (hdrop.word (by simp)).trans ((hskip.word (by simp)).trans (hcount.word (by simp)))
  rw [retire_eq h]
  split <;> simp [hword]

/-- What a retirement does, in the terms of the claims (R14). -/
theorem retire_retires (h : (s.nsq.get n).step = some st) (v : Verdict) (d : Detail) (r : Results) :
    s.Retires n st v d r (s.retire n v d r) := by
  obtain ⟨h8, h9, h10, h11, h12, h13, h14, h15⟩ := writeFinal_words st v d r s
  have hnest : (s.retire n v d r).word (nestAt n 4) = seqWord (some st.sequence) ∧
      (s.retire n v d r).word (nestAt n 5) = seqWord none := by
    rw [retire_eq h]
    split <;> simp [dropped, putNest_word]
  simp only [Part.Retires, retire_slot h, retire_nsq h, Bank.get_modify_same, and_true]
  exact ⟨h11, h12, h13, h14, h15, h9, h10, h8, hnest⟩

/-- What has retired stands after an operation that leaves the record, RETIRED, CURRENT and the sequencer's step. -/
theorem Retires.after {words : List Nat} (h : s.Retires n st v d r t) (hs : t.StoresOnly words u)
    (hslot : ∀ i ∈ slotWords st.slot, i ∉ words) (hnest : nestAt n 4 ∉ words ∧ nestAt n 5 ∉ words)
    (hr : (u.nsq.get n).retired = (t.nsq.get n).retired) (hst : (u.nsq.get n).step = (t.nsq.get n).step)
    (hd : (u.nsq.get n).deadline = (t.nsq.get n).deadline)
    (hw : (u.nsq.get n).waitTimer = (t.nsq.get n).waitTimer)
    (hu : (u.nsq.get n).unhanded = (t.nsq.get n).unhanded) : s.Retires n st v d r u := by
  have hword {k : Nat} (hk : k ∈ [8, 9, 10, 11, 12, 13, 14, 15]) :
      u.word (slotAt st.slot.toNat k) = t.word (slotAt st.slot.toNat k) := hs.word (hslot _ (mem_slotWords hk))
  unfold Part.Retires at h ⊢
  rwa [hword (by decide), hword (by decide), hword (by decide), hword (by decide), hword (by decide),
    hword (by decide), hword (by decide), hword (by decide), hs.word hnest.1, hs.word hnest.2, hr, hst, hd, hw, hu]

/-- The outcome of the step in execution, which is not late, retires it (R28). -/
theorem receive_outcome {o : OwnerOutcome} (hl : ¬ s.Late (.ownerOutcome o))
    (hst : (s.nsq.get o.nest).step = some st) (hseq : o.sequence = st.sequence) :
    s.receive (.ownerOutcome o) (·.takeOutcome o) =
      ((s.took (.ownerOutcome o)).retire o.nest o.verdict o.detail o.results).goOn o.nest := by
  rw [late_iff, Bool.not_eq_true] at hl
  rw [receive_taken _ _ hl]
  simp [takeOutcome, Nsq.sequence, hst, hseq, finish]

/-- The nest goes on with the slots that its chain names, up to the posted limit (R10). -/
theorem goOn_eq {r l : W16} (hr : (s.nsq.get n).retired = some r) (hl : (s.nsq.get n).limit = some l) :
    s.goOn n = s.follow n (seqDistance r l) := by
  simp [goOn, Nsq.ahead, hr, hl]

/-- A retirement leaves the record in every other slot (R14). -/
theorem retire_snapshot (h : (s.nsq.get n).step = some st) {p : W16} (hp : p ≠ st.slot) :
    (s.retire n v d r).snapshot p = s.stepIn p :=
  snapshot_eq (fun k hk => (retire_stores h v d r).word (by
    simp [slotAt_not_slotWords hp hk])) (by rw [retire_same h]; rfl)

theorem retire_nestOnly (h : (s.nsq.get n).step = some st) : s.NestOnly n (s.retire n v d r) := by
  have hnsq : Bank.AgreeBut n s.nsq (s.retire n v d r).nsq := by rw [retire_nsq h]; exact .modify n _ _
  rw [retire_same h]
  exact ⟨hnsq, .put n _ _, .refl n _, .refl n _, .refl n _, .refl n _⟩

/-- The fetch that follows a retirement (R10, R11). -/
theorem retire_fetch (h : (s.nsq.get n).step = some st) {slot : W16} (hpos : (s.nsq.get n).position = some slot)
    (hne : slot ≠ st.slot) : (s.retire n v d r).fetch n =
      if slot.toNat < Config.slotCount ∧ (s.stepIn slot).sequence = st.sequence + 1 then some slot else none := by
  rw [fetch_eq (p := slot) (r := st.sequence) (by simpa [retire_nsq h] using hpos) (by simp [retire_nsq h]),
    retire_snapshot h hne]

theorem retire_goOn (h : (s.nsq.get n).step = some st) {l : W16} (hl : (s.nsq.get n).limit = some l) :
    (s.retire n v d r).goOn n = (s.retire n v d r).follow n (seqDistance st.sequence l) :=
  goOn_eq (by simp [retire_nsq h]) (by simpa [retire_nsq h] using hl)

/-- SKIPPING mode stays off over a step that is not CRITICAL or that passes (R41). -/
theorem skippingAfter_off (st : Step) {v : Verdict} (h : st.critical = false ∨ v = .pass) :
    skippingAfter st v false = false := by
  rcases h with h | rfl
  · simp [skippingAfter, h]
  · simp [skippingAfter]

/-- What the sequencer makes of an owner's answer to a hand-off (R26). -/
def answered (n : NestId) : Part × Answer → Part × Option (Verdict × Detail × Results)
  | (s, .done v d r) => (s, some (v, d, r))
  | (s, .started) => (s, none)
  | (s, .held why) => (s.holdFor n why, none)

/-- A step of an owner is handed to it, unless station STOP keeps it back (R26, R72, R189). -/
theorem perform_owned {k : Kind} (hs : s.skips n st = false) (hk : st.kind = some k)
    (hno : k ∉ [.unitBegin, .unitEnd, .wait]) : s.perform n st =
      if k.barredByStop && s.underStop n then (s.keepBack n, none) else answered n (s.handOff n k st) := by
  unfold perform
  rw [if_neg (by simp [hs]), hk]
  cases k with
  | unitBegin | unitEnd | wait => simp at hno
  | _ => rfl

/-- A step of the fixture or the panel controller that station STOP keeps back (R72, R189). -/
theorem perform_keptBack {k : Kind} (hs : s.skips n st = false) (hk : st.kind = some k) (hb : k.barredByStop = true)
    (hu : s.underStop n = true) : s.perform n st = (s.keepBack n, none) := by
  have hfree : ∀ k ∈ [Kind.unitBegin, .unitEnd, .wait], k.barredByStop = false := by decide
  have hno : k ∉ [.unitBegin, .unitEnd, .wait] := fun h => by simp [hfree k h] at hb
  rw [perform_owned hs hk hno, if_pos (by simp [hb, hu])]

/-- A step kept back is accepted and not handed over (R72, R189). -/
theorem accept_keptBack (s : Part) (hst : st.accepted = s.timebase) :
    s.Accepts n st none true ((s.accept n st).keepBack n) :=
  accept_accepts (by simp [keepBack, accept_nsq]) rfl (modNsq_nestStateWord _ (by simp)) hst

theorem atNest_keepBack (n : NestId) (s : Part) : AtNest n [] s (s.keepBack n) := AtNest.refl.modNsq

/-- A chain broken after a retirement leaves what has retired (R11, R14). -/
theorem Retires.breakChain (h : s.Retires n st v d r t) : s.Retires n st v d r (t.breakChain n) :=
  h.after (breakChain_stores n t) (slotWords_apart fun k _ => by simp) (by simp) (by simp [breakChain_nsq])
    (by simp [breakChain_nsq]) (by simp [breakChain_nsq]) (by simp [breakChain_nsq]) (by simp [breakChain_nsq])

/-- A step is accepted as well from any part at the same time. -/
theorem Accepts.of_start {wait : Option Nat} {unhanded : Bool} (h : t.Accepts n st wait unhanded u)
    (hn : t.now = s.now) (ht : t.timebase = s.timebase) : s.Accepts n st wait unhanded u := by
  unfold Part.Accepts at h ⊢
  rwa [← hn, ← ht]

/-- A notice of station STOP on its way stays on its way (R51). -/
theorem mem_outcomesLate_stationStop {messages : List Notice} (m : NestId) (h : .stationStop n ∈ messages) :
    .stationStop n ∈ outcomesLate m messages := List.mem_map.2 ⟨.stationStop n, h, rfl⟩

/-- A fault is recorded as well from any part with the same first-fault record and time. -/
theorem Records.of_start {k : FaultKind} {q : Option W16} (h : t.Records n k q u) (hf : t.firstFault = s.firstFault)
    (ht : t.timebase = s.timebase) : s.Records n k q u := by
  unfold Part.Records at h ⊢
  rwa [← hf, ← ht]

/-! ### A retirement by an outcome, and the fetch that follows it -/

/-- The part once outcome `o` is taken and the step in execution retired by it (R10, R28). -/
def retiredBy (o : OwnerOutcome) (s : Part) : Part :=
  (s.took (.ownerOutcome o)).retire o.nest o.verdict o.detail o.results

section

variable {o : OwnerOutcome} {slot limit : W16}

theorem retiredBy_nsq (h : (s.nsq.get o.nest).step = some st) :
    (s.retiredBy o).nsq = s.nsq.modify o.nest fun q =>
      { q with
        unit := (s.took (.ownerOutcome o)).countedUnit o.nest st o.verdict
        skipping := skippingAfter st o.verdict q.skipping, retired := some st.sequence
        step := none, deadline := none, waitTimer := none, report := none, unhanded := false } :=
  retire_nsq (s := s.took (.ownerOutcome o)) h ..

/-- What a retirement by an outcome leaves of the part but the sequencer, memory and the factors (R28, R45, R61). -/
theorem retiredBy_same (h : (s.nsq.get o.nest).step = some st) :
    s.retiredBy o =
      { s with
        nsq := (s.retiredBy o).nsq, mem := (s.retiredBy o).mem, factor := (s.retiredBy o).factor
        sent := outcomesLate o.nest (s.sent.erase (.ownerOutcome o))
        fxc := s.fxc.put o.nest { s.fxc.get o.nest with powerOn := none }
        pcv := { s.pcv with records := s.pcv.records.put o.nest none } } := by
  have hsame := retire_same (s := s.took (.ownerOutcome o)) h o.verdict o.detail o.results
  unfold retiredBy
  rw [hsame]
  rfl

theorem retiredBy_retires (h : (s.nsq.get o.nest).step = some st) :
    s.Retires o.nest st o.verdict o.detail o.results (s.retiredBy o) :=
  retire_retires (s := s.took (.ownerOutcome o)) h ..

theorem retiredBy_stores (h : (s.nsq.get o.nest).step = some st) (more : List Nat) :
    s.StoresOnly (slotWords st.slot ++ nestWords o.nest ++ more) (s.retiredBy o) :=
  retire_stores_owned (s := s.took (.ownerOutcome o)) h more

theorem retiredBy_nestOnly (h : (s.nsq.get o.nest).step = some st) : s.NestOnly o.nest (s.retiredBy o) :=
  retire_nestOnly (s := s.took (.ownerOutcome o)) h

theorem retiredBy_limit (h : (s.nsq.get o.nest).step = some st) :
    ((s.retiredBy o).nsq.get o.nest).limit = (s.nsq.get o.nest).limit := by
  rw [retiredBy_nsq h]
  simp

theorem retiredBy_sent (h : (s.nsq.get o.nest).step = some st) :
    (s.retiredBy o).sent = outcomesLate o.nest (s.sent.erase (.ownerOutcome o)) := by
  rw [retiredBy_same h]

/-- An outcome that is not late retires its step, and the sequencer follows the chain (R10, R28). -/
theorem receive_follows (hlate : ¬ s.Late (.ownerOutcome o)) (h : (s.nsq.get o.nest).step = some st)
    (hseq : o.sequence = st.sequence) (hl : (s.nsq.get o.nest).limit = some limit) :
    s.receive (.ownerOutcome o) (·.takeOutcome o) = (s.retiredBy o).follow o.nest (seqDistance st.sequence limit) :=
  (receive_outcome hlate h hseq).trans (retire_goOn (s := s.took (.ownerOutcome o)) h hl)

/-- The fetch after the retirement finds nothing: the step stays retired, and the nest is FAULTED (R11, R49). -/
theorem retiredBy_breaks (h : (s.nsq.get o.nest).step = some st) (hl : (s.nsq.get o.nest).limit = some limit)
    (hstate : (s.nsq.get o.nest).state = .running ∨ (s.nsq.get o.nest).state = .held) :
    let p := (s.retiredBy o).breakChain o.nest
    s.Retires o.nest st o.verdict o.detail o.results p ∧ (p.nsq.get o.nest).state = .faulted ∧
      (p.nsq.get o.nest).position = none ∧ s.Records o.nest .chainBroken none p ∧
      (p.nsq.get o.nest).limit = some limit ∧ p.word (nestAt o.nest 7) = p.nestStateWord o.nest ∧
      p.sent = outcomesLate o.nest (s.sent.erase (.ownerOutcome o)) ∧
      s.StoresOnly (slotWords st.slot ++ nestWords o.nest ++ [ffStateAt, ffStepAt, ffTimeAt]) p ∧
      s.NestOnly o.nest p := by
  have hsame := retiredBy_same h
  have hrec := (s.retiredBy o).breakChain_records o.nest
  have hnone : ((s.retiredBy o).nsq.get o.nest).sequence = none := by
    rw [retiredBy_nsq h]
    simp [Nsq.sequence]
  have hnot : ((s.retiredBy o).nsq.get o.nest).state ≠ .faulted := by
    rw [retiredBy_nsq h]
    rcases hstate with h | h <;> simp [h]
  rw [hnone] at hrec
  refine ⟨(retiredBy_retires h).breakChain, by simp [breakChain_nsq], by simp [breakChain_nsq],
    hrec.of_start (by rw [hsame]) (by rw [hsame]; rfl), ?_, breakChain_shows hnot, ?_, ?_,
    (retiredBy_nestOnly h).trans ((s.retiredBy o).breakChain_nestOnly o.nest)⟩
  · simp [breakChain_nsq, retiredBy_limit h, hl]
  · rw [breakChain_same]
    exact retiredBy_sent h
  · exact (retiredBy_stores h _).trans (((s.retiredBy o).breakChain_stores o.nest).mono (by simp [mem_nestWords]))

/-- What the retirement by outcome `o` of step `st` shows in part `p` once the step of slot `slot` is accepted after it
(R10, R14). -/
def Follows (s : Part) (o : OwnerOutcome) (st : Step) (slot limit : W16) (p : Part) : Prop :=
  (p.nsq.get o.nest).retired = some st.sequence ∧
    (p.nsq.get o.nest).limit = some limit ∧ p.word (nestAt o.nest 4) = seqWord (some st.sequence) ∧
    p.word (slotAt st.slot.toNat 8) = finalWord o.verdict o.detail ∧
    p.word (slotAt st.slot.toNat 9) = st.accepted ∧ p.word (slotAt st.slot.toNat 10) = s.timebase ∧
    p.word (slotAt st.slot.toNat 11) = o.results.w11 ∧ p.word (slotAt st.slot.toNat 12) = o.results.w12 ∧
    p.word (slotAt st.slot.toNat 13) = o.results.w13 ∧ p.word (slotAt st.slot.toNat 14) = o.results.w14 ∧
    p.word (slotAt st.slot.toNat 15) = o.results.w15 ∧
    p.sent = outcomesLate o.nest (s.sent.erase (.ownerOutcome o)) ∧
    s.StoresOnly (slotWords st.slot ++ nestWords o.nest ++ [slotAt slot.toNat 8, slotAt slot.toNat 9]) p ∧
    s.NestOnly o.nest p

/-- The words that an acceptance in slot `slot` writes hold no word of another slot. -/
theorem acceptedWords_apart {k : Nat} (hne : slot ≠ st.slot) (hk : k < 16) :
    slotAt st.slot.toNat k ∉ [nestAt n 5, nestAt n 7, slotAt slot.toNat 8, slotAt slot.toNat 9] := by
  have h8 := mt (slotAt_eq_iff (p := st.slot.toNat) (q := slot.toNat) hk (k := 8) (by decide)).1
  have h9 := mt (slotAt_eq_iff (p := st.slot.toNat) (q := slot.toNat) hk (k := 9) (by decide)).1
  have hne' : st.slot.toNat ≠ slot.toNat := fun e => hne (BitVec.eq_of_toNat_eq e.symm)
  simp [h8, h9, hne']

/-- An acceptance after the retirement leaves what the retirement shows. -/
theorem retiredBy_follows {p : Part} (h : (s.nsq.get o.nest).step = some st)
    (hl : (s.nsq.get o.nest).limit = some limit) (hne : slot ≠ st.slot)
    (hp : AtNest o.nest [nestAt o.nest 5, nestAt o.nest 7, slotAt slot.toNat 8, slotAt slot.toNat 9] (s.retiredBy o) p)
    (hret : (p.nsq.get o.nest).retired = ((s.retiredBy o).nsq.get o.nest).retired)
    (hlim : (p.nsq.get o.nest).limit = ((s.retiredBy o).nsq.get o.nest).limit) : s.Follows o st slot limit p := by
  obtain ⟨h11, h12, h13, h14, h15, h9, h10, h8, h4, -, hretired, -⟩ := retiredBy_retires h
  have hslot {k : Nat} (hk : k < 16) : p.word (slotAt st.slot.toNat k) = (s.retiredBy o).word (slotAt st.slot.toNat k) :=
    hp.stores.word (acceptedWords_apart hne hk)
  refine ⟨hret.trans hretired, (hlim.trans (retiredBy_limit h)).trans hl, (hp.stores.word (by simp)).trans h4,
    (hslot (by decide)).trans h8, (hslot (by decide)).trans h9, (hslot (by decide)).trans h10,
    (hslot (by decide)).trans h11, (hslot (by decide)).trans h12, (hslot (by decide)).trans h13,
    (hslot (by decide)).trans h14, (hslot (by decide)).trans h15, ?_, ?_, (retiredBy_nestOnly h).trans hp.nestOnly⟩
  · rw [hp.same]
    exact retiredBy_sent h
  · exact (retiredBy_stores h _).trans (hp.stores.mono (by simp [mem_nestWords]))

/-- The step accepted after the retirement is not skipped if it is ALWAYS, or SKIPPING mode stays off (R41). -/
theorem retiredBy_performs {next : Step} (h : (s.nsq.get o.nest).step = some st)
    (hskip : next.always = true ∨
      ((s.nsq.get o.nest).skipping = false ∧ (st.critical = false ∨ o.verdict = .pass))) :
    ((s.retiredBy o).accept o.nest next).skips o.nest next = false := by
  rcases hskip with ha | ⟨hoff, hcrit⟩
  · exact skips_eq_false (.inr (.inl ha))
  · refine skips_eq_false (.inl ?_)
    simpa [accept_nsq, retiredBy_nsq h, hoff] using skippingAfter_off st hcrit

/-- A station STOP on its way to the nest keeps back the step accepted after the retirement. -/
theorem retiredBy_underStop {next : Step} (h : (s.nsq.get o.nest).step = some st)
    (hstop : s.station = .stopped ∨ .stationStop o.nest ∈ s.sent) :
    ((s.retiredBy o).accept o.nest next).underStop o.nest = true := by
  have hacc := atNest_accept o.nest next (s.retiredBy o)
  have hstation : ((s.retiredBy o).accept o.nest next).station = s.station := by
    rw [hacc.same, retiredBy_same h]
  have hsent : ((s.retiredBy o).accept o.nest next).sent = (s.retiredBy o).sent := by rw [hacc.same]
  rw [underStop_iff, hstation, hsent, retiredBy_sent h]
  exact hstop.imp_right fun h => mem_outcomesLate_stationStop o.nest (by simpa using h)

end

end Part

/-- Settles O15, by the two ends of the fetch that follows a retirement. -/
theorem failedFetchFaultsTheNest : Obligations.FailedFetchFaultsTheNest := by
  intro o st slot limit s hlate hst hp hseq hlim hd hpos hne hstate n next
  let w := s.part.retiredBy o
  have hw : s.part.receive (.ownerOutcome o) (·.takeOutcome o) = w.follow n (seqDistance st.sequence limit) :=
    Part.receive_follows hlate hst hseq hlim
  have hfetch : w.fetch n =
      if slot.toNat < Config.slotCount ∧ next.sequence = st.sequence + 1 then some slot else none :=
    Part.retire_fetch (s := s.part.took (.ownerOutcome o)) hst hpos hne
  refine ⟨fun hbad => answers_of_act (f := (·.receive (.ownerOutcome o) (·.takeOutcome o))) rfl ?_, ?_⟩
  · have hbad' : ¬ (slot.toNat < Config.slotCount ∧ next.sequence = st.sequence + 1) := by
      rintro ⟨h, h'⟩
      rcases hbad with hbad | hbad
      exacts [absurd h (Nat.not_lt.2 hbad), hbad h']
    rw [hw, Part.follow_broken hd (by rw [hfetch, if_neg hbad'])]
    exact Part.retiredBy_breaks hst hlim hstate
  · intro hslot hnext hskip follows
    have hfetch' : w.fetch n = some slot := by rw [hfetch, if_pos ⟨hslot, hnext⟩]
    have hsnap : w.snapshot slot = next := Part.retire_snapshot (s := s.part.took (.ownerOutcome o)) hst hne
    have hskips : (w.accept n next).skips n next = false := Part.retiredBy_performs hst hskip
    have hfollows (p : Part) (hp : Part.AtNest n [nestAt n 5, nestAt n 7, slotAt slot.toNat 8, slotAt slot.toNat 9] w p)
        (hr : (p.nsq.get n).retired = (w.nsq.get n).retired) (hl : (p.nsq.get n).limit = (w.nsq.get n).limit) :
        follows p := Part.retiredBy_follows hst hlim hne hp hr hl
    have hacc := Part.atNest_accept n next w
    have hsame : w = _ := Part.retiredBy_same hst
    have htime : next.accepted = w.timebase := by rw [hsame]; rfl
    have hnow : w.now = s.part.now := by rw [hsame]; rfl
    refine ⟨fun hk hwait => answers_of_act (f := (·.receive (.ownerOutcome o) (·.takeOutcome o))) rfl ?_,
      fun k hk hb hstop => answers_of_act (f := (·.receive (.ownerOutcome o) (·.takeOutcome o))) rfl ?_⟩
    · rw [hw, Part.follow_stays hd hfetch' (by rw [hsnap]; exact Part.perform_wait hskips hk hwait)]
      refine ⟨?_, hfollows _ (hacc.trans ((Part.atNest_beginWait n next _).mono (by simp))) ?_ ?_⟩
      · have hwaits : w.Accepts n next _ false _ := Part.accept_wait w htime
        rw [hnow] at hwaits
        exact hwaits.of_start hnow htime.symm
      · simp [Part.beginWait, Part.accept_nsq]
      · simp [Part.beginWait, Part.accept_nsq]
    · have hunder : (w.accept n next).underStop n = true := Part.retiredBy_underStop hst hstop
      have hall := hacc.trans ((Part.atNest_keepBack n (w.accept n next)).mono (by simp))
      rw [hw, Part.follow_stays hd hfetch' (by rw [hsnap]; exact Part.perform_keptBack hskips hk hb hunder)]
      refine ⟨(Part.accept_keptBack w htime).of_start hnow htime.symm, hfollows _ hall ?_ ?_, ?_, ?_, ?_⟩
      · simp [Part.keepBack, Part.accept_nsq]
      · simp [Part.keepBack, Part.accept_nsq]
      all_goals rw [hall.same, hsame]

end Sys2Proof.Machine
end

section
/-! A chain start and its head record. -/

namespace Sys2Proof.Machine.Part

variable {n : NestId} {s t u : Part} {st : Step}

/-! ### The chain start -/

/-- The part once RETIRED, LIMIT and the chain position are set (R7). -/
def posted (n : NestId) (s : Part) : Part :=
  ((s.based n).setLimit n (s.postOf n)).modNsq n fun q => { q with position := some (field (s.word (nestAt n 0)) 0 16) }

theorem atNest_posted (n : NestId) (s : Part) : AtNest n [nestAt n 4, nestAt n 6] s (s.posted n) :=
  (((atNest_based n s).mono (by simp)).trans ((atNest_setLimit n _ _).mono (by simp))).modNsq

theorem posted_nsq (n : NestId) (s : Part) : (s.posted n).nsq = s.nsq.modify n fun x =>
    { x with
      retired := some (s.baseOf n - 1), limit := some (s.postOf n)
      position := some (field (s.word (nestAt n 0)) 0 16) } := by
  simp [posted, based]

/-- The slot that HEAD names, read as 16 bits, is HEAD itself where it lies in the pool. -/
theorem head_slot {w : W32} (h : w.toNat < 2048) : (field w 0 16 : W16).toNat = w.toNat := by
  simp only [field, BitVec.extractLsb'_toNat]
  omega

/-- The head record is fetched: its sequence is the base (R7, R11). -/
theorem posted_fetch (h : (s.word (nestAt n 0)).toNat < 2048) :
    (s.posted n).fetch n = some (field (s.word (nestAt n 0)) 0 16) ∧
      (s.posted n).snapshot (field (s.word (nestAt n 0)) 0 16) = s.stepIn (field (s.word (nestAt n 0)) 0 16) := by
  have hsnap : (s.posted n).snapshot (field (s.word (nestAt n 0)) 0 16) = s.stepIn (field (s.word (nestAt n 0)) 0 16) :=
    snapshot_eq (fun k hk => (atNest_posted n s).stores.word (by simp)) (atNest_posted n s).timebase
  refine ⟨?_, hsnap⟩
  have hseq : (s.stepIn (field (s.word (nestAt n 0)) 0 16)).sequence = s.baseOf n := by
    simp [Step.sequence, Step.w, stepIn, baseOf, head_slot h]
  rw [fetch_eq (p := field (s.word (nestAt n 0)) 0 16) (r := s.baseOf n - 1) (by simp [posted_nsq]) (by simp [posted_nsq]),
    hsnap, hseq, if_pos ⟨by rw [head_slot h]; exact h, by simp⟩]

theorem posted_mem (n : NestId) (s : Part) : (s.posted n).mem =
    (s.mem.setWord (nestAt n 4) (seqWord (some (s.baseOf n - 1)))).setWord (nestAt n 6)
      (seqWord (some (s.postOf n))) := rfl

theorem accept_mem (n : NestId) (st : Step) (s : Part) : (s.accept n st).mem =
    (((s.mem.setWord (slotAt st.slot.toNat 9) st.accepted).setWord (slotAt st.slot.toNat 8) 1).setWord (nestAt n 5)
      (seqWord (some st.sequence))).setWord (nestAt n 7) ((s.accept n st).nestStateWord n) := by
  simp [accept, putSlot, writeNestState, acceptedWord]

/-- The words that a chain start and the acceptance of its head step write (R7, R12). -/
theorem chainStarted_mem (s : Part) (n : NestId) (q : List Watched) (base post : W16) (st : Step) :
    (s.chainStarted n q base post st).mem =
      (((((s.mem.setWord (nestAt n 4) (seqWord (some (base - 1)))).setWord (nestAt n 6) (seqWord (some post))).setWord
        (slotAt st.slot.toNat 9) s.timebase).setWord (slotAt st.slot.toNat 8) 1).setWord (nestAt n 5)
        (seqWord (some base))).setWord (nestAt n 7) ((s.chainStarted n q base post st).nestStateWord n) := rfl

/-- The chain started and its head step accepted, as the claims state it. -/
theorem posted_accept (q : List Watched) (s : Part) {base : W16} (hb : s.baseOf n = base)
    (hst : st.accepted = s.timebase) (hseq : st.sequence = base) :
    ((s.dequeued q).posted n).accept n st = s.chainStarted n q base (s.postOf n) st := by
  have hnsq : (((s.dequeued q).posted n).accept n st).nsq = (s.chainStarted n q base (s.postOf n) st).nsq := by
    rw [accept_nsq, posted_nsq, Bank.modify_modify]
    simp [chainStarted, Bank.modify, hb, (atNest_posted n (s.dequeued q)).now]
  have hshown : (((s.dequeued q).posted n).accept n st).nestStateWord n =
      (s.chainStarted n q base (s.postOf n) st).nestStateWord n := by
    simp only [nestStateWord, hnsq]
    rfl
  have hmem : (((s.dequeued q).posted n).accept n st).mem = (s.chainStarted n q base (s.postOf n) st).mem := by
    rw [accept_mem, posted_mem, chainStarted_mem, hshown]
    simp [hb, hst, hseq]
  have hframe := ((atNest_posted n (s.dequeued q)).mono (more := [nestAt n 4, nestAt n 6, nestAt n 5, nestAt n 7,
    slotAt st.slot.toNat 8, slotAt st.slot.toNat 9]) (by simp)).trans ((atNest_accept n st _).mono (by simp))
  rw [hframe.same, hnsq, hmem]
  rfl

end Sys2Proof.Machine.Part
end

section
/-! What a hand-off that ends or holds its step at once leaves of the nest's chain. -/

namespace Sys2Proof.Machine

@[simp] theorem nestAt_ne_frameAt (m n : NestId) (f : Fin 16) (j : Nat) {k : Nat} (hk : k < 64) :
    frameAt m f j ≠ nestAt n k := by
  unfold frameAt nestAt; omega
@[simp] theorem nestAt_ne_captureAt (m n : NestId) (f : Fin 8) (j : Nat) {k : Nat} (hk : k < 64) :
    captureAt m f j ≠ nestAt n k := by
  unfold captureAt nestAt; omega

/-- From part `s` to part `t` the time stands, and the chain of nest `n`: its limit and its position, and its state but for
the end of a hold. -/
structure Part.KeepsChain (n : NestId) (s t : Part) : Prop where
  ticks : t.ticks = s.ticks
  limit : (t.nsq.get n).limit = (s.nsq.get n).limit
  position : (t.nsq.get n).position = (s.nsq.get n).position
  state : (s.nsq.get n).state ≠ .held → (t.nsq.get n).state = (s.nsq.get n).state
  limitWord : t.word (nestAt n 6) = s.word (nestAt n 6)

namespace Part.KeepsChain

variable {n m : NestId} {s t u : Part}

theorem refl (s : Part) : KeepsChain n s s := ⟨rfl, rfl, rfl, fun _ => rfl, rfl⟩

theorem trans (h : KeepsChain n s t) (g : KeepsChain n t u) : KeepsChain n s u where
  ticks := g.ticks.trans h.ticks
  limit := g.limit.trans h.limit
  position := g.position.trans h.position
  state hs := (g.state (by rwa [h.state hs])).trans (h.state hs)
  limitWord := g.limitWord.trans h.limitWord

theorem ite {c : Prop} [Decidable c] {a b : Part} (ha : KeepsChain n s a) (hb : KeepsChain n s b) :
    KeepsChain n s (if c then a else b) := by split <;> assumption

theorem foldl {α : Type} {f : Part → α → Part} {l : List α} (h : KeepsChain n s t)
    (hf : ∀ (t : Part) (x : α), KeepsChain n t (f t x)) : KeepsChain n s (l.foldl f t) := by
  induction l generalizing t with
  | nil => exact h
  | cons x l ih => exact ih (h.trans (hf t x))

theorem ite_fst {α : Type} {c : Prop} [Decidable c] {a b : Part × α} (ha : KeepsChain n s a.1)
    (hb : KeepsChain n s b.1) : KeepsChain n s (if c then a else b).1 := by split <;> assumption

theorem pair {α : Type} {a : α} (h : KeepsChain n s u) : KeepsChain n s (u, a).1 := h

/-- The part of an answer that is known. -/
theorem fst_of_eq {α : Type} {p : Part × α} {a : α} (e : p = (u, a)) (h : KeepsChain n s p.1) : KeepsChain n s u := by
  subst e; exact h

/-! ### Operations of the blocks -/

/-- An operation that leaves the time, the sequencers and exchange memory. -/
theorem of_same (h : KeepsChain n s t) (ht : u.ticks = t.ticks) (hn : u.nsq = t.nsq) (hm : u.mem = t.mem) :
    KeepsChain n s u :=
  h.trans ⟨ht, by rw [hn], by rw [hn], fun _ => by rw [hn], by unfold word; rw [hm]⟩

theorem modFxc {f : Fixture → Fixture} (h : KeepsChain n s t) : KeepsChain n s (t.modFxc m f) :=
  h.of_same (by simp) (by simp) (by simp)
theorem modStu {f : Stimulus → Stimulus} (h : KeepsChain n s t) : KeepsChain n s (t.modStu m f) :=
  h.of_same (by simp) (by simp) (by simp)
theorem modBuc {f : Bus → Bus} (h : KeepsChain n s t) : KeepsChain n s (t.modBuc m f) :=
  h.of_same (by simp) (by simp) (by simp)
theorem modGmn {f : Gauges → Gauges} (h : KeepsChain n s t) : KeepsChain n s (t.modGmn m f) :=
  h.of_same (by simp) (by simp) (by simp)
theorem modLpc {f : Watcher → Watcher} (h : KeepsChain n s t) : KeepsChain n s (t.modLpc m f) :=
  h.of_same (by simp) (by simp) (by simp)
theorem modPcv {f : Converter → Converter} (h : KeepsChain n s t) : KeepsChain n s (t.modPcv f) :=
  h.of_same (by simp) (by simp) (by simp)
theorem modOpc {f : Panel → Panel} (h : KeepsChain n s t) : KeepsChain n s (t.modOpc f) :=
  h.of_same (by simp) (by simp) (by simp)

theorem put {i : Nat} {v : W32} (h : KeepsChain n s t) (hi : i ≠ nestAt n 6) : KeepsChain n s (t.put i v) :=
  h.trans ⟨rfl, rfl, rfl, fun _ => rfl, put_word_other _ v hi⟩

/-- An operation that is tracked writes NEST_STATE besides (R4). -/
theorem track {f : Part → Part} (h : KeepsChain n s (f t)) : KeepsChain n s (t.track m f) := by
  have hne : nestAt m 7 ≠ nestAt n 6 := by
    rw [ne_eq, nestAt_eq_iff (by decide) (by decide)]
    simp
  rcases t.track_eq m f with ⟨e, -⟩ | ⟨e, -⟩
  · exact e ▸ h
  · exact e ▸ h.put hne

theorem publish {f : FixtureState} (h : KeepsChain n s t) : KeepsChain n s (t.publish m f) := h.modFxc.track

theorem completeStep {k : Kind} {v : Verdict} {d : Detail} {r : Results} (h : KeepsChain n s t) :
    KeepsChain n s (t.completeStep m k v d r) := by
  rcases completeStep_cases m k v d r t with ⟨e, -⟩ | ⟨st, -, -, -, e⟩
  · rwa [e]
  · rw [e]
    refine h.trans ⟨rfl, ?_, ?_, fun _ => ?_, rfl⟩
    all_goals
      by_cases hm : m = n
      · subst hm; simp
      · simp [hm]

theorem holdEnd (h : KeepsChain n s t) : KeepsChain n s (t.holdEnd m) := by
  by_cases hm : (t.nsq.get m).state = .held
  · refine ite (track (h.trans ⟨rfl, ?_, ?_, ?_, rfl⟩)) h
    all_goals
      by_cases hn : m = n
      · subst hn; simp [hm]
      · simp [hn]
  · rwa [holdEnd_other hm]

/-! ### Within the hand-offs -/

theorem applyLines {mask value : Byte} (h : KeepsChain n s t) : KeepsChain n s (t.applyLines n mask value) :=
  h.modStu.ite h

theorem writeSlotStatus {k : Fin 16} (h : KeepsChain n s t) : KeepsChain n s (t.writeSlotStatus n k) := h.put (by simp)

theorem startTransmission {k : Fin 16} {due : Nat} (h : KeepsChain n s t) :
    KeepsChain n s (t.startTransmission n k due) := by
  unfold Part.startTransmission
  extract_lets f unstaged lined marked frame sending
  have hlined : KeepsChain n s lined := by
    unfold lined
    split
    exacts [applyLines h.modBuc, h.modBuc]
  have hsending : KeepsChain n s sending := (hlined.writeSlotStatus.ite hlined).modBuc
  split
  exacts [hsending.modBuc.completeStep.ite hsending, hsending]

theorem arbitrate (h : KeepsChain n s t) : KeepsChain n s (t.arbitrate n) := by
  unfold Part.arbitrate
  refine ite ?_ h
  split
  exacts [h.startTransmission, h]

theorem handFrameRun {st : Step} (s : Part) : KeepsChain n s (s.handFrameRun n st).1 := by
  have hstop (u : Part) (k : Fin 16) : KeepsChain n u (u.stopSlot n k) :=
    (refl u).ite (writeSlotStatus (refl u).modBuc.modBuc)
  have hclear (u : Part) : KeepsChain n u (u.clearMute n) :=
    ite ((track (refl u).modBuc).foldl fun v _ => ite (refl v).writeSlotStatus (refl v)) (refl u)
  have hstart (u : Part) (k : Fin 16) : KeepsChain n u (u.startSlot n k) :=
    (writeSlotStatus (refl u).modBuc).put (by simp)
  unfold Part.handFrameRun
  extract_lets start stop
  split
  · exact refl s
  next stopped unmuted started begun running _ _ =>
    have hstopped : KeepsChain n s stopped := (refl s).foldl hstop
    have hunmuted : KeepsChain n s unmuted := hstopped.ite (hstopped.trans (hclear _))
    have hbegun : KeepsChain n s begun := hunmuted.foldl hstart
    exact hbegun.ite hbegun.modBuc.arbitrate

theorem handFrameLoad {st : Step} (s : Part) : KeepsChain n s (s.handFrameLoad n st).1 := by
  have hstage (k : Fin 16) (p : BitVec 64) (mask value : Byte) (sync : Bool) :
      KeepsChain n s (s.stageLoad n k p mask value sync).1 :=
    writeSlotStatus (ite (applyLines (refl s).modBuc) (refl s).modBuc)
  unfold Part.handFrameLoad
  (repeat' split)
  exacts [refl s, refl s, (hstage ..).modBuc, hstage .., ite (refl s).modBuc (applyLines (refl s).modBuc)]

theorem handSetLines {st : Step} (s : Part) : KeepsChain n s (s.handSetLines n st).1 := by
  have hstage (k : Fin 16) (mask value : Byte) : KeepsChain n s (s.stageLines n k mask value).1 :=
    ite_fst (writeSlotStatus (refl s).modBuc) (refl s)
  dsimp only [Part.handSetLines]
  split
  · exact refl s
  · split
    · split
      · next e => exact fst_of_eq e (hstage ..)
      · next e => exact (fst_of_eq e (hstage ..)).applyLines
    · exact (refl s).applyLines

theorem writeCaptureFlags {k : Fin 8} (h : KeepsChain n s t) : KeepsChain n s (t.writeCaptureFlags n k) := h.put (by simp)

theorem handCaptureArm {st : Step} (s : Part) : KeepsChain n s (s.handCaptureArm n st).1 := by
  have harm (u : Part) (k : Fin 8) : KeepsChain n u (u.armFilter n k) :=
    have g := ((refl u).modBuc.put (by simp)).put (by simp)
    writeCaptureFlags (((g.put (by simp)).put (by simp)).put (by simp))
  unfold Part.handCaptureArm
  split
  · exact refl s
  · exact ((refl s).foldl fun u _ => (refl u).modBuc).foldl harm

theorem handCheckFrame {st : Step} (s : Part) : KeepsChain n s (s.handCheckFrame n st).1 := by
  have hexamine (u : Part) : KeepsChain n u (u.examine n).1 := by
    unfold Part.examine
    split
    · exact refl u
    · exact ite_fst (modBuc (writeCaptureFlags (refl u).modBuc)) (modBuc (writeCaptureFlags (refl u).modBuc))
  unfold Part.handCheckFrame
  split
  · exact refl s
  · split
    · exact refl s
    · dsimp only
      split
      · exact writeCaptureFlags (refl s).modBuc.modBuc
      · split
        · split <;> next e => exact fst_of_eq e ((refl s).modBuc.trans (hexamine _))
        · exact (refl s).modBuc

theorem handSetPulse {st : Step} (s : Part) : KeepsChain n s (s.handSetPulse n st).1 := by
  have h := refl (n := n) s
  dsimp only [Part.handSetPulse]
  split
  · exact ite_fst h (ite_fst h (ite_fst h.modStu (ite_fst h.modStu.modStu h.modStu)))
  · exact h

theorem handSetSender {st : Step} (s : Part) : KeepsChain n s (s.handSetSender n st).1 := by
  unfold Part.handSetSender
  split
  exacts [refl s, ite_fst (refl s) (refl s).modStu]

theorem handCheckGauge {st : Step} (s : Part) : KeepsChain n s (s.handCheckGauge n st).1 := by
  unfold Part.handCheckGauge
  split
  exacts [ite_fst (refl s) (ite_fst (refl s) (refl s).modGmn), refl s]

theorem handCheckLamps {st : Step} (s : Part) : KeepsChain n s (s.handCheckLamps n st).1 := by
  unfold Part.handCheckLamps
  split
  exacts [refl s, ite_fst (refl s) (ite_fst (refl s) (refl s).modLpc)]

theorem handCheckFreq {st : Step} (s : Part) : KeepsChain n s (s.handCheckFreq n st).1 := by
  unfold Part.handCheckFreq
  split
  exacts [refl s, ite_fst (refl s) (refl s).modLpc]

theorem handMeasure {st : Step} (s : Part) : KeepsChain n s (s.handMeasure n st).1 := by
  have hgrant (u : Part) (q : W16) (h : KeepsChain n s u) : KeepsChain n s (u.grantConverter n q) := by
    unfold Part.grantConverter
    split
    · unfold Part.beginPoint
      exact h.modPcv.modPcv
    · exact h
  dsimp only [Part.handMeasure]
  split
  · exact refl s
  · split_ifs
    exacts [refl s, refl s, hgrant _ _ (refl s).modPcv, pair (refl s).modPcv.modPcv]

/-- A nest that is not supplied is handed POWER_OFF without more; a supplied one is started (R67). -/
theorem handPowerOff (s : Part) (h : (s.handPowerOff n).2 ≠ .started) : KeepsChain n s (s.handPowerOff n).1 := by
  unfold Part.handPowerOff at h ⊢
  split
  · next e => simp [e] at h
  · exact refl s
  · exact (refl s).modFxc
  · exact refl s

theorem handFixture {k : Kind} {st : Step} (s : Part) (h : (s.handFixture n k st).2 ≠ .started) :
    KeepsChain n s (s.handFixture n k st).1 := by
  have hf := refl (n := n) s
  cases k with
  | clamp =>
    change KeepsChain n s (s.handClamp n).1
    dsimp only [Part.handClamp]
    split
    exacts [ite_fst hf (ite_fst hf.modFxc.publish hf.modFxc.publish), hf.modFxc, hf]
  | unclamp =>
    change KeepsChain n s (s.handUnclamp n).1
    dsimp only [Part.handUnclamp]
    split
    exacts [ite_fst hf.modFxc.publish hf.modFxc.publish, ite_fst hf.modFxc.publish hf.modFxc.publish, hf.modFxc, hf]
  | contact =>
    change KeepsChain n s (s.handContact n st).1
    dsimp only [Part.handContact]
    split
    exacts [ite_fst hf.publish hf.publish, ite_fst hf.publish hf.publish, hf.modFxc, hf]
  | powerOn =>
    change KeepsChain n s (s.handPowerOn n st).1
    have hqueued (u : Part) (q : List PowerEntry) (g : KeepsChain n s u) : KeepsChain n s { u with powerQueue := q } :=
      g.of_same rfl rfl rfl
    exact ite_fst hf (ite_fst hf.modFxc.modFxc (ite_fst hf (ite_fst hf.modFxc.modFxc.publish (hqueued _ _ hf.modFxc))))
  | powerOff => exact handPowerOff s h
  | _ => exact hf

theorem linkStart (h : KeepsChain n s t) : KeepsChain n s t.linkStart := by
  have htransfer (u : Part) (k : Link) (b : Byte) (bs : List Byte) : KeepsChain n u (u.startTransfer k b bs) := by
    unfold Part.startTransfer
    exact (refl u).modOpc
  have htext (u : Part) (e : PromptEntry) : KeepsChain n u (u.startText e) :=
    have g := (htransfer u .text (showByte e.nest) []).modOpc
    holdEnd (modOpc (ite g.modOpc g.modOpc))
  have hclear (u : Part) : KeepsChain n u (if u.opc.clearPending then
      (u.startTransfer .clear clearByte []).modOpc fun o => { o with clearPending := false } else u) :=
    ite (htransfer u .clear clearByte []).modOpc (refl u)
  refine h.trans ?_
  unfold Part.linkStart
  refine ite (refl t) (ite (htransfer t ..).modOpc ?_)
  extract_lets clear
  split
  exacts [ite (htext t _) (hclear t), hclear t]

theorem handPrompt {st : Step} (s : Part) : KeepsChain n s (s.handPrompt n st).1 := by
  have h := (refl (n := n) s).linkStart.modOpc (f := fun o => { o with prompts := o.prompts ++ [promptEntryOf n st] })
  unfold Part.handPrompt
  extract_lets queued started
  split
  exacts [ite_fst h.linkStart h.linkStart, h.linkStart]

/-- A hand-off that ends or holds its step at once leaves the nest's chain (R26). -/
theorem handOff {k : Kind} {st : Step} (s : Part) (h : (s.handOff n k st).2 ≠ .started) :
    KeepsChain n s (s.handOff n k st).1 := by
  cases k with
  | unitBegin | unitEnd | wait => exact refl s
  | clamp | contact | powerOn | powerOff | unclamp => exact handFixture s h
  | setPulse => exact handSetPulse s
  | setSender => exact handSetSender s
  | setLines => exact handSetLines s
  | frameRun => exact handFrameRun s
  | frameLoad => exact handFrameLoad s
  | captureArm => exact handCaptureArm s
  | checkFrame => exact handCheckFrame s
  | gaugeZero => exact ite_fst (refl s) (refl s).modGmn
  | checkGauge => exact handCheckGauge s
  | checkLamps => exact handCheckLamps s
  | checkFreq => exact handCheckFreq s
  | measure => exact handMeasure s
  | prompt => exact handPrompt s

end Part.KeepsChain

end Sys2Proof.Machine
end

section
/-! The head step of a chain start: handed over, skipped, refused, or ended at once. -/

namespace Sys2Proof.Machine.Part

variable {n : NestId} {s t u : Part} {st : Step} {v : Verdict} {d : Detail} {r : Results}

/-! ### The head step accepted -/

/-- The step that slot HEAD holds (R7). -/
def headStep (n : NestId) (s : Part) : Step := s.stepIn (field (s.word (nestAt n 0)) 0 16)

/-- The part once the chain is started and its head step accepted, the watch queue left being `q` (R7, R12). -/
def headStarted (n : NestId) (q : List Watched) (s : Part) : Part :=
  s.chainStarted n q (s.baseOf n) (s.postOf n) (s.headStep n)

/-- HEAD lies in the pool, and POST in the window (R7). -/
def HeadPosted (n : NestId) (s : Part) : Prop :=
  (s.word (nestAt n 0)).toNat < 2048 ∧ 1 ≤ seqDistance (s.baseOf n - 1) (s.postOf n) ∧
    seqDistance (s.baseOf n - 1) (s.postOf n) ≤ 2048

theorem headStep_sequence (h : s.HeadPosted n) : (s.headStep n).sequence = s.baseOf n := by
  simp [headStep, Step.sequence, Step.w, stepIn, baseOf, head_slot h.1]

/-- A chain start in the window fetches the head record (R7, R10). -/
theorem takePost_head {q : List Watched} (h : (s.nsq.get n).state = .stopped) (hs : s.station = .run)
    (hp : s.HeadPosted n) :
    (s.dequeued q).takePost n = ((s.dequeued q).posted n).follow n (seqDistance (s.baseOf n - 1) (s.postOf n)) :=
  (takePost_start (s := s.dequeued q) h hs).trans
    (startChain_open (s := s.dequeued q) hp.1 ((inWindow_iff _).2 hp.2))

/-- The distance from the base minus 1 to the base. -/
theorem seqDistance_base (b : W16) : seqDistance (b - 1) b = 1 := by
  have h : b - (b - 1) = 1 := by bv_omega
  rw [seqDistance, h]
  rfl

/-- The head record is fetched, and its step accepted (R7, R11, R12). -/
theorem posted_head (q : List Watched) (hp : s.HeadPosted n) :
    ((s.dequeued q).posted n).fetch n = some (s.headStep n).slot ∧
      ((s.dequeued q).posted n).snapshot (s.headStep n).slot = s.headStep n ∧
      ((s.dequeued q).posted n).accept n (s.headStep n) = s.headStarted n q := by
  obtain ⟨hfetch, hsnap⟩ := posted_fetch (s := s.dequeued q) hp.1
  exact ⟨hfetch, hsnap, posted_accept q s rfl rfl (headStep_sequence hp)⟩

/-- What the accepted head step does not end is what the POST event leaves (R26). -/
theorem takePost_stays {q : List Watched} (h : (s.nsq.get n).state = .stopped) (hs : s.station = .run)
    (hp : s.HeadPosted n) (hperf : (s.headStarted n q).perform n (s.headStep n) = (t, none)) :
    (s.dequeued q).takePost n = t := by
  obtain ⟨hfetch, hsnap, hacc⟩ := posted_head q hp
  rw [takePost_head h hs hp]
  refine follow_stays hp.2.1 hfetch ?_
  rwa [hsnap, hacc]

/-- The head record alone is posted, and its step ends at its acceptance: it retires, and the nest waits (R10, R26). -/
theorem takePost_ends {q : List Watched} (h : (s.nsq.get n).state = .stopped) (hs : s.station = .run)
    (hp : s.HeadPosted n) (hlast : s.postOf n = s.baseOf n)
    (hperf : (s.headStarted n q).perform n (s.headStep n) = (t, some (v, d, r))) :
    (s.dequeued q).takePost n = (t.retire n v d r).setSeqState n .waiting := by
  obtain ⟨hfetch, hsnap, hacc⟩ := posted_head q hp
  rw [takePost_head h hs hp, hlast, seqDistance_base]
  refine (follow_retires (k := 0) hfetch ?_).trans rfl
  rwa [hsnap, hacc]

/-- The sequencer once the head step is accepted. -/
theorem headStarted_nsq (n : NestId) (q : List Watched) (s : Part) : (s.headStarted n q).nsq.get n =
    { s.nsq.get n with
      state := .running, hold := .none, retired := some (s.baseOf n - 1), limit := some (s.postOf n)
      position := some (s.headStep n).nextSlot, step := some (s.headStep n), report := none, waitTimer := none
      unhanded := false, deadline := some (s.now + 1000 * (s.headStep n).deadlineMs) } := by
  simp [headStarted, chainStarted]

theorem headStarted_limitWord (n : NestId) (q : List Watched) (s : Part) :
    (s.headStarted n q).word (nestAt n 6) = seqWord (some (s.postOf n)) := by
  unfold word headStarted
  rw [chainStarted_mem]
  simp [Memory.word_setWord]

theorem headStarted_skips (n : NestId) (q : List Watched) (s : Part) (st : Step) :
    (s.headStarted n q).skips n st = s.skips n st := by
  simp [skips, headStarted_nsq]

theorem skips_iff (n : NestId) (s : Part) (st : Step) : s.skips n st = true ↔
    (s.nsq.get n).skipping = true ∧ st.always = false ∧ st.kind ≠ some .unitBegin ∧ st.kind ≠ some .unitEnd := by
  simp [skips, Step.isKind, and_assoc]

/-! ### The head step ends at its acceptance -/

/-- What stands of a chain start until its head step retires. -/
structure HeadKept (n : NestId) (q : List Watched) (s t : Part) : Prop where
  step : (t.nsq.get n).step = some (s.headStep n)
  limit : (t.nsq.get n).limit = some (s.postOf n)
  position : (t.nsq.get n).position = some (s.headStep n).nextSlot
  limitWord : t.word (nestAt n 6) = seqWord (some (s.postOf n))
  watchQueue : t.watchQueue = q
  ticks : t.ticks = s.ticks

theorem headKept_started (n : NestId) (q : List Watched) (s : Part) : HeadKept n q s (s.headStarted n q) :=
  ⟨by simp [headStarted_nsq], by simp [headStarted_nsq], by simp [headStarted_nsq], headStarted_limitWord n q s, rfl, rfl⟩

/-- A hand-off that ends the step at once leaves it. -/
theorem headKept_handOff {k : Kind} (n : NestId) (q : List Watched) (s : Part) (st : Step)
    (h : ((s.headStarted n q).handOff n k st).2 ≠ .started) :
    HeadKept n q s ((s.headStarted n q).handOff n k st).1 := by
  have hk := headKept_started n q s
  have hc := KeepsChain.handOff (s.headStarted n q) h
  have hs : (s.headStarted n q).KeepsSteps ((s.headStarted n q).handOff n k st).1 := (KeepsSteps.refl _).handOff
  exact ⟨(hs.steps n).trans hk.step, hc.limit.trans hk.limit, hc.position.trans hk.position,
    hc.limitWord.trans hk.limitWord, hs.watchQueue.trans hk.watchQueue, hc.ticks.trans hk.ticks⟩

/-- The step's retirement, after which the nest waits. -/
def ended (n : NestId) (v : Verdict) (d : Detail) (r : Results) (t : Part) : Part :=
  (t.retire n v d r).setSeqState n .waiting

theorem atNest_ended (n : NestId) (v : Verdict) (d : Detail) (r : Results) (t : Part) :
    AtNest n [nestAt n 7] (t.retire n v d r) (t.ended n v d r) := AtNest.refl.setSeqState (by simp)

theorem ended_nsq (h : (t.nsq.get n).step = some st) : (t.ended n v d r).nsq = t.nsq.modify n fun q =>
    { q with
      state := .waiting, hold := .none, unit := t.countedUnit n st v, skipping := skippingAfter st v q.skipping
      retired := some st.sequence, step := none, deadline := none, waitTimer := none, report := none
      unhanded := false } := by
  simp [ended, setSeqState, retire_nsq h]

/-- What the head step's retirement with verdict `v`, detail `d` and results `r` shows in part `p`: LIMIT, the record, and
the nest WAITING (R7, R10, R14). -/
def HeadRetires (n : NestId) (q : List Watched) (s : Part) (v : Verdict) (d : Detail) (r : Results) (p : Part) : Prop :=
  p.word (nestAt n 6) = seqWord (some (s.postOf n)) ∧ s.Retires n (s.headStep n) v d r p ∧
    (p.nsq.get n).state = .waiting ∧ (p.nsq.get n).limit = some (s.postOf n) ∧
    (p.nsq.get n).position = some (s.headStep n).nextSlot ∧ p.watchQueue = q

theorem ended_retires {q : List Watched} (h : HeadKept n q s t) : s.HeadRetires n q v d r (t.ended n v d r) := by
  have hn := ended_nsq (v := v) (d := d) (r := r) h.step
  have hw := (atNest_ended n v d r t).stores
  have htime : t.timebase = s.timebase := by unfold timebase now; rw [h.ticks]
  have hret : s.Retires n (s.headStep n) v d r (t.retire n v d r) := by
    have := retire_retires h.step v d r
    unfold Part.Retires at this ⊢
    rwa [← htime]
  refine ⟨?_, hret.after hw (slotWords_apart fun k _ => by simp) (by simp) ?_ ?_ ?_ ?_ ?_, ?_, ?_, ?_, ?_⟩
  · rw [hw.word (by simp), (retire_stores h.step v d r).word (by simp [nestAt_not_slotWords]), h.limitWord]
  iterate 5 simp [hn, retire_nsq h.step]
  · simp [hn]
  · simp [hn, h.limit]
  · simp [hn, h.position]
  · rw [(atNest_ended n v d r t).same, retire_same h.step]
    exact h.watchQueue

/-- The frame of the head step's end. -/
theorem ended_butForTheStep (h : (t.nsq.get n).step = some st) :
    t.ButForTheStep n st.slot (t.ended n v d r) ∧ (t.ended n v d r).opc = t.opc := by
  have hframe := atNest_ended n v d r t
  have hsame := retire_same h v d r
  have hopc : (t.ended n v d r).opc = t.opc := by rw [hframe.same, hsame]
  refine ⟨⟨?_, ?_, ?_, ?_, ?_⟩, hopc⟩
  · rw [hframe.same, hsame]
  · rw [ended_nsq h]; exact .modify n _ _
  · rw [hopc]; exact .refl n _
  · intro i hi
    have hne : factorNotify n ≠ i := by rintro rfl; simp at hi
    rw [hframe.same, hsame]
    dsimp only
    split
    · rw [getLsbD_setFlag]; simp [hne]
    · rfl
  · exact (retire_stores_owned h _).trans (hframe.stores.mono (by simp [mem_nestWords]))

/-! ### Unit steps -/

/-- From part `s` to part `t` nothing has changed but the unit record of nest `n`, to `u`, its words and its lamp (R37). -/
structure UnitOnly (n : NestId) (u : UnitRecord) (s t : Part) : Prop where
  same : t = { s with nsq := t.nsq, mem := t.mem, opc := { s.opc with lamps := t.opc.lamps } }
  unit : t.nsq = s.nsq.modify n fun q => { q with unit := u }
  lamps : Bank.AgreeBut n s.opc.lamps t.opc.lamps
  stores : s.StoresOnly ([9, 10, 11, 12, 13, 14, 15].map (nestAt n)) t

namespace UnitOnly

variable {x y : UnitRecord}

theorem trans (h : UnitOnly n x s t) (g : UnitOnly n y t u) : UnitOnly n y s u :=
  ⟨by rw [g.same, h.same], by rw [g.unit, h.unit, Bank.modify_modify], h.lamps.trans g.lamps, h.stores.trans g.stores⟩

theorem refl (n : NestId) (s : Part) : UnitOnly n (s.nsq.get n).unit s s :=
  ⟨rfl, (Bank.put_get _ _).symm, .refl n _, .refl⟩

theorem headKept {q : List Watched} (h : UnitOnly n x s t) (g : HeadKept n q u s) : HeadKept n q u t where
  step := by simpa [h.unit] using g.step
  limit := by simpa [h.unit] using g.limit
  position := by simpa [h.unit] using g.position
  limitWord := (h.stores.word (by simp)).trans g.limitWord
  watchQueue := by rw [h.same]; exact g.watchQueue
  ticks := by rw [h.same]; exact g.ticks

/-- The end of a step after a change of the unit is the end of the step. -/
theorem butForTheStep {slot : W16} (h : UnitOnly n x s t) (g : t.ButForTheStep n slot u) : s.ButForTheStep n slot u := by
  obtain ⟨g1, g2, g3, g4, g5⟩ := g
  have hnsq : Bank.AgreeBut n s.nsq t.nsq := by rw [h.unit]; exact .modify n _ _
  refine ⟨?_, hnsq.trans g2, h.lamps.trans g3, ?_, (h.stores.mono ?_).trans g5⟩
  · rw [g1, h.same]
  · have hf : t.factor = s.factor := by rw [h.same]
    intro i hi
    rw [g4 i hi, hf]
  · intro i hi
    obtain ⟨k, hk, rfl⟩ := List.mem_map.1 hi
    have hsub : ∀ k ∈ [9, 10, 11, 12, 13, 14, 15], k ∈ [4, 5, 6, 7, 8, 9, 10, 11, 12, 13, 14, 15] := by decide
    simp [mem_nestWords (hsub k hk)]

end UnitOnly

theorem StoresOnly.writeUnitState {words : List Nat} {v : UnitState} (h : s.StoresOnly words t)
    (hk : nestAt n 10 ∈ words) : s.StoresOnly words (t.writeUnitState n v) := by
  have hmem : (t.writeUnitState n v).mem = (t.putNest n 10 (unitCode v)).mem := by simp [Part.writeUnitState]
  exact (h.putNest hk).of_mem hmem

/-- A unit opened (R37, R38). -/
theorem openUnit_only (n : NestId) (tag : W32) (s : Part) :
    UnitOnly n ⟨tag, .opened, 0, 0, 0, 0, none, s.timebase, 0⟩ s (s.openUnit n tag) where
  same := by apply Part.eq_of_fields <;> simp [openUnit, writeUnitState]
  unit := by simp [openUnit, writeUnitState, Reset.unit]
  lamps := by simpa [openUnit, writeUnitState] using .put n _ _
  stores := by
    unfold openUnit
    refine StoresOnly.writeUnitState ?_ (by simp)
    exact (((((StoresOnly.refl.modNsq.putNest (by simp)).putNest (by simp)).putNest (by simp)).putNest (by simp)).putNest
      (by simp)).putNest (by simp)

theorem openUnit_words (n : NestId) (tag : W32) (s : Part) :
    (s.openUnit n tag).word (nestAt n 9) = tag ∧ (s.openUnit n tag).word (nestAt n 10) = unitCode .opened ∧
      (s.openUnit n tag).word (nestAt n 11) = 0 ∧ (s.openUnit n tag).word (nestAt n 12) = 0 ∧
      (s.openUnit n tag).word (nestAt n 13) = 0xFFFFFFFF#32 ∧ (s.openUnit n tag).word (nestAt n 14) = s.timebase ∧
      (s.openUnit n tag).word (nestAt n 15) = 0 := by
  simp [openUnit, writeUnitState, putNest_word, seqWord]

/-- A unit closed (R37). -/
theorem closeUnit_only (n : NestId) (v : UnitState) (s : Part) :
    UnitOnly n { (s.nsq.get n).unit with state := v, closedAt := s.timebase } s (s.closeUnit n v) where
  same := by apply Part.eq_of_fields <;> simp [closeUnit, writeUnitState]
  unit := by
    simp only [closeUnit, writeUnitState, modOpc_nsq, putNest_nsq, modNsq_nsq, Bank.modify_modify]
    exact Bank.modify_congr _ _ rfl
  lamps := by simpa [closeUnit, writeUnitState] using .put n _ _
  stores := (StoresOnly.refl.modNsq.putNest (by simp)).writeUnitState (by simp)

theorem closeUnit_words (n : NestId) (v : UnitState) (s : Part) :
    (s.closeUnit n v).word (nestAt n 10) = unitCode v ∧ (s.closeUnit n v).word (nestAt n 15) = s.timebase := by
  simp [closeUnit, writeUnitState, putNest_word]

/-- A unit step is not counted (R39). -/
theorem countStep_unitStep (hk : st.kind = some .unitBegin ∨ st.kind = some .unitEnd) (t : Part) :
    t.countStep n st v = t ∧ t.countedUnit n st v = (t.nsq.get n).unit := by
  rcases hk with hk | hk <;> simp [countStep, countedUnit, hk]

/-- The end of a unit step leaves the unit's record and words (R39). -/
theorem ended_unitStep (h : (t.nsq.get n).step = some st)
    (hk : st.kind = some .unitBegin ∨ st.kind = some .unitEnd) :
    ((t.ended n v d r).nsq.get n).unit = (t.nsq.get n).unit ∧
      ∀ k ∈ [9, 10, 11, 12, 13, 14, 15], (t.ended n v d r).word (nestAt n k) = t.word (nestAt n k) := by
  have hrec : t.StoresOnly (slotWords st.slot ++ [nestAt n 7]) (t.recorded n st v d r) := by
    simp only [recorded, (countStep_unitStep hk _).1]
    exact ((atNest_writeFinal (n := n)).stores.mono (by simp +contextual)).trans
      ((atNest_setSkipping n _ _).stores.mono (by simp))
  refine ⟨by simp [ended_nsq h, (countStep_unitStep hk t).2], fun k hmem => ?_⟩
  have hk : 9 ≤ k ∧ k < 64 := by
    have hall : ∀ k ∈ [9, 10, 11, 12, 13, 14, 15], 9 ≤ k ∧ k < 64 := by decide
    exact hall k hmem
  have hne : k ≠ 4 ∧ k ≠ 5 ∧ k ≠ 7 := by omega
  have hdropped : ((t.recorded n st v d r).dropped n st.sequence).word (nestAt n k) = t.word (nestAt n k) :=
    ((dropped_stores n _ _).word (by simp [hne])).trans (hrec.word (by simp [hne, nestAt_not_slotWords, hk]))
  rw [(atNest_ended n v d r t).stores.word (by simp [hne]), retire_eq h]
  split
  · rw [setFactor_word, hdropped]
  · exact hdropped

/-! ### The course of the steps that end at once -/

/-- What an owner's answer makes of the step (R26). -/
theorem answered_started {p : Part × Answer} (h : p.2 = .started) : answered n p = (p.1, none) := by
  obtain ⟨t, a⟩ := p
  obtain rfl : a = .started := h
  rfl

theorem answered_held {p : Part × Answer} {why : HoldReason} (h : p.2 = .held why) :
    answered n p = (p.1.holdFor n why, none) := by
  obtain ⟨t, a⟩ := p
  obtain rfl : a = .held why := h
  rfl

theorem answered_done {p : Part × Answer} (h : p.2 = .done v d r) : answered n p = (p.1, some (v, d, r)) := by
  obtain ⟨t, a⟩ := p
  obtain rfl : a = .done v d r := h
  rfl

/-- A nest that is not HELD shows the hold (R26). -/
theorem holdFor_shows {why : HoldReason} (h : (s.nsq.get n).state ≠ .held) :
    (s.holdFor n why).word (nestAt n 7) = (s.holdFor n why).nestStateWord n :=
  track_shows (by simpa using h.symm)

theorem atNest_holdFor (n : NestId) (why : HoldReason) (s : Part) : AtNest n [nestAt n 7] s (s.holdFor n why) :=
  AtNest.refl.modNsq.track (by simp)

/-- UNIT_END with an OPEN unit (R40). -/
theorem endUnit_opened (h : (s.nsq.get n).unit.state = .opened) :
    s.endUnit n =
      (s.closeUnit n (s.nsq.get n).unit.verdict, .pass, .none,
        ⟨unitCode (s.nsq.get n).unit.verdict, (s.nsq.get n).unit.countsA, (s.nsq.get n).unit.countsB,
          seqWord (s.nsq.get n).unit.firstFail, 0⟩) := by
  simp [endUnit, h]

/-- UNIT_END without one (R40). -/
theorem endUnit_closed (h : (s.nsq.get n).unit.state ≠ .opened) :
    s.endUnit n = (s, .refused, .noUnit, ⟨0, 0, 0, seqWord none, 0⟩) := by
  simp [endUnit, h, Results.zero]

/-- A skipped step (R42). -/
theorem perform_skipped (h : s.skips n st = true) : s.perform n st = (s, some (.skipped, .none, .zero)) := by
  simp [perform, h]

/-- A step of unknown kind (R29). -/
theorem perform_unknown (hs : s.skips n st = false) (h : st.kind = none) :
    s.perform n st = (s, some (.refused, .badKind, .zero)) := by
  simp [perform, hs, h]

/-- A WAIT of 0 (R36). -/
theorem perform_waitZero (hs : s.skips n st = false) (h : st.kind = some .wait) (hw : st.w 2 = 0) :
    s.perform n st = (s, some (.pass, .none, .zero)) := by
  simp only [perform, hs, h, if_pos hw, Bool.false_eq_true, if_false]

/-- UNIT_BEGIN (R38). -/
theorem perform_unitBegin (h : st.kind = some .unitBegin) :
    s.perform n st = ((s.beginUnit n st).1, some (.pass, .none, (s.beginUnit n st).2)) := by
  simp [perform, skips_eq_false (.inr (.inr (.inl h))), h]

/-- UNIT_END (R40). -/
theorem perform_unitEnd (h : st.kind = some .unitEnd) : s.perform n st = ((s.endUnit n).1, some (s.endUnit n).2) := by
  simp [perform, skips_eq_false (.inr (.inr (.inr h))), h]

/-- UNIT_BEGIN closes a unit that is OPEN, and opens one (R38). -/
theorem beginUnit_only (n : NestId) (st : Step) (s : Part) :
    UnitOnly n ⟨st.w 2, .opened, 0, 0, 0, 0, none, s.timebase, 0⟩ s (s.beginUnit n st).1 := by
  unfold beginUnit
  dsimp only
  split
  · have h := (closeUnit_only n .error s).trans (openUnit_only n (st.w 2) (s.closeUnit n .error))
    have ht : (s.closeUnit n .error).timebase = s.timebase := by rw [(closeUnit_only n .error s).same]; rfl
    rwa [ht] at h
  · exact openUnit_only n (st.w 2) s

/-- The end of the head step, and its frame. -/
theorem headKept_ended {q : List Watched} (h : HeadKept n q s t) (v : Verdict) (d : Detail) (r : Results) :
    s.HeadRetires n q v d r (t.ended n v d r) ∧
      t.ButForTheStep n (field (s.word (nestAt n 0)) 0 16) (t.ended n v d r) ∧ (t.ended n v d r).opc = t.opc :=
  have hend : t.ButForTheStep n (s.headStep n).slot (t.ended n v d r) ∧ (t.ended n v d r).opc = t.opc :=
    ended_butForTheStep h.step
  ⟨ended_retires h, hend⟩

/-- The end of a unit step that has changed no more than the unit. -/
theorem UnitOnly.ended {q : List Watched} {x : UnitRecord} (h : UnitOnly n x (s.headStarted n q) t)
    (hk : (s.headStep n).kind = some .unitBegin ∨ (s.headStep n).kind = some .unitEnd) :
    s.HeadRetires n q v d r (t.ended n v d r) ∧ ((t.ended n v d r).nsq.get n).unit = x ∧
      (∀ k ∈ [9, 10, 11, 12, 13, 14, 15], (t.ended n v d r).word (nestAt n k) = t.word (nestAt n k)) ∧
      (t.ended n v d r).opc = t.opc ∧
      (s.headStarted n q).ButForTheStep n (s.headStep n).slot (t.ended n v d r) := by
  have hkept := h.headKept (headKept_started n q s)
  obtain ⟨hunit, hwords⟩ := ended_unitStep (v := v) (d := d) (r := r) hkept.step hk
  obtain ⟨hframe, hopc⟩ := ended_butForTheStep (v := v) (d := d) (r := r) hkept.step
  refine ⟨ended_retires hkept, ?_, hwords, hopc, h.butForTheStep hframe⟩
  simp [hunit, h.unit]

/-- UNIT_END raises the notification of its nest (R14, R40). -/
theorem ended_notifies (h : (t.nsq.get n).step = some st) (hk : st.kind = some .unitEnd) :
    (t.ended n v d r).factor = t.factor ||| 1#19 <<< factorNotify n := by
  rw [(atNest_ended n v d r t).same, retire_same h]
  simp [Step.isKind, hk]

/-- The lamp of a unit that UNIT_END closes (R40). -/
theorem lampOf_verdict (u : UnitRecord) : lampOf u.verdict = if u.verdict = .pass then .green else .red := by
  unfold UnitRecord.verdict
  split
  · rfl
  · split <;> rfl

theorem beginUnit_words (n : NestId) (st : Step) (s : Part) :
    (s.beginUnit n st).1.word (nestAt n 9) = st.w 2 ∧ (s.beginUnit n st).1.word (nestAt n 10) = unitCode .opened ∧
      (s.beginUnit n st).1.word (nestAt n 11) = 0 ∧ (s.beginUnit n st).1.word (nestAt n 12) = 0 ∧
      (s.beginUnit n st).1.word (nestAt n 13) = 0xFFFFFFFF#32 ∧ (s.beginUnit n st).1.word (nestAt n 14) = s.timebase ∧
      (s.beginUnit n st).1.word (nestAt n 15) = 0 ∧ (s.beginUnit n st).1.opc.lamps.get n = .amber := by
  have hopened (t : Part) (ht : t.timebase = s.timebase) :
      (t.openUnit n (st.w 2)).word (nestAt n 9) = st.w 2 ∧
        (t.openUnit n (st.w 2)).word (nestAt n 10) = unitCode .opened ∧
        (t.openUnit n (st.w 2)).word (nestAt n 11) = 0 ∧ (t.openUnit n (st.w 2)).word (nestAt n 12) = 0 ∧
        (t.openUnit n (st.w 2)).word (nestAt n 13) = 0xFFFFFFFF#32 ∧
        (t.openUnit n (st.w 2)).word (nestAt n 14) = s.timebase ∧ (t.openUnit n (st.w 2)).word (nestAt n 15) = 0 ∧
        (t.openUnit n (st.w 2)).opc.lamps.get n = .amber := by
    obtain ⟨h9, h10, h11, h12, h13, h14, h15⟩ := openUnit_words n (st.w 2) t
    refine ⟨h9, h10, h11, h12, h13, h14.trans ht, h15, ?_⟩
    simp [openUnit, writeUnitState, lampOf]
  refine hopened _ ?_
  split
  · rw [(closeUnit_only n .error s).same]; rfl
  · rfl

theorem closeUnit_lamp (n : NestId) (v : UnitState) (s : Part) : (s.closeUnit n v).opc.lamps.get n = lampOf v := by
  simp [closeUnit, writeUnitState]

/-- UNIT_BEGIN as the head step (R38). -/
theorem unitBegin_ended {q : List Watched} (hk : (s.headStep n).kind = some .unitBegin) :
    let a := s.headStarted n q
    let p := (a.beginUnit n (s.headStep n)).1.ended n .pass .none (a.beginUnit n (s.headStep n)).2
    s.HeadRetires n q .pass .none ⟨flag (decide ((s.nsq.get n).unit.state = .opened)) 0, 0, 0, 0, 0⟩ p ∧
      ((p.nsq.get n).unit = ⟨(s.headStep n).w 2, .opened, 0, 0, 0, 0, none, s.timebase, 0⟩ ∧
        p.word (nestAt n 10) = unitCode .opened ∧ p.word (nestAt n 15) = 0) ∧
      p.word (nestAt n 9) = (s.headStep n).w 2 ∧ p.word (nestAt n 11) = 0 ∧ p.word (nestAt n 12) = 0 ∧
      p.word (nestAt n 13) = 0xFFFFFFFF#32 ∧ p.word (nestAt n 14) = s.timebase ∧ p.opc.lamps.get n = .amber ∧
      a.ButForTheStep n (field (s.word (nestAt n 0)) 0 16) p := by
  intro a p
  have hresults : (a.beginUnit n (s.headStep n)).2 =
      ⟨flag (decide ((s.nsq.get n).unit.state = .opened)) 0, 0, 0, 0, 0⟩ := by
    simp [a, beginUnit, headStarted_nsq, Results.zero]
  obtain ⟨hret, hunit, hwords, hopc, hframe⟩ :=
    (beginUnit_only n (s.headStep n) a).ended (v := .pass) (d := .none) (r := (a.beginUnit n (s.headStep n)).2) (.inl hk)
  obtain ⟨h9, h10, h11, h12, h13, h14, h15, hlamp⟩ := beginUnit_words n (s.headStep n) a
  exact ⟨hresults ▸ hret, ⟨hunit, (hwords 10 (by simp)).trans h10, (hwords 15 (by simp)).trans h15⟩,
    (hwords 9 (by simp)).trans h9, (hwords 11 (by simp)).trans h11, (hwords 12 (by simp)).trans h12,
    (hwords 13 (by simp)).trans h13, (hwords 14 (by simp)).trans h14,
    (congrArg (fun o => o.lamps.get n) hopc).trans hlamp, hframe⟩

/-- The acceptance of the head step leaves the unit record. -/
theorem headStarted_unit (n : NestId) (q : List Watched) (s : Part) :
    ((s.headStarted n q).nsq.get n).unit = (s.nsq.get n).unit := by rw [headStarted_nsq]

/-- UNIT_END with an OPEN unit as the head step, and its results (R40). -/
theorem perform_unitEnd_opened {q : List Watched} (hk : st.kind = some .unitEnd)
    (hopen : (s.nsq.get n).unit.state = .opened) :
    (s.headStarted n q).perform n st =
      ((s.headStarted n q).closeUnit n (s.nsq.get n).unit.verdict, some (.pass, .none,
        ⟨unitCode (s.nsq.get n).unit.verdict, (s.nsq.get n).unit.countsA, (s.nsq.get n).unit.countsB,
          seqWord (s.nsq.get n).unit.firstFail, 0⟩)) := by
  rw [perform_unitEnd hk, endUnit_opened (by rwa [headStarted_unit]), headStarted_unit]

theorem perform_unitEnd_closed {q : List Watched} (hk : st.kind = some .unitEnd)
    (hclosed : (s.nsq.get n).unit.state ≠ .opened) :
    (s.headStarted n q).perform n st =
      (s.headStarted n q, some (.refused, .noUnit, ⟨0, 0, 0, seqWord none, 0⟩)) := by
  rw [perform_unitEnd hk, endUnit_closed (by rwa [headStarted_unit])]

/-- UNIT_END with an OPEN unit as the head step (R40). -/
theorem unitEnd_ended {q : List Watched} (hk : (s.headStep n).kind = some .unitEnd) :
    let u := (s.nsq.get n).unit
    let r : Results := ⟨unitCode u.verdict, u.countsA, u.countsB, seqWord u.firstFail, 0⟩
    let p := ((s.headStarted n q).closeUnit n u.verdict).ended n .pass .none r
    s.HeadRetires n q .pass .none r p ∧
      ((p.nsq.get n).unit = { u with state := u.verdict, closedAt := s.timebase } ∧
        p.word (nestAt n 10) = unitCode u.verdict ∧ p.word (nestAt n 15) = s.timebase) ∧
      p.opc.lamps.get n = (if u.verdict = .pass then .green else .red) ∧
      p.factor = s.factor ||| 1#19 <<< factorNotify n ∧
      (s.headStarted n q).ButForTheStep n (field (s.word (nestAt n 0)) 0 16) p := by
  intro u r p
  have honly := closeUnit_only n u.verdict (s.headStarted n q)
  rw [headStarted_unit] at honly
  obtain ⟨hret, hunit, hwords, hopc, hframe⟩ := honly.ended (v := .pass) (d := .none) (r := r) (.inr hk)
  obtain ⟨h10, h15⟩ := closeUnit_words n u.verdict (s.headStarted n q)
  have hfactor : p.factor = ((s.headStarted n q).closeUnit n u.verdict).factor ||| 1#19 <<< factorNotify n :=
    ended_notifies (honly.headKept (headKept_started n q s)).step hk
  have hsame : ((s.headStarted n q).closeUnit n u.verdict).factor = s.factor := by rw [honly.same]; rfl
  refine ⟨hret, ⟨hunit, (hwords 10 (by simp)).trans h10, (hwords 15 (by simp)).trans h15⟩, ?_, by rw [hfactor, hsame],
    hframe⟩
  exact (congrArg (fun o => o.lamps.get n) hopc).trans ((closeUnit_lamp n _ _).trans (lampOf_verdict u))

/-- UNIT_END without an OPEN unit as the head step (R40). -/
theorem unitEnd_refused {q : List Watched} (hk : (s.headStep n).kind = some .unitEnd) :
    let p := (s.headStarted n q).ended n .refused .noUnit ⟨0, 0, 0, seqWord none, 0⟩
    s.HeadRetires n q .refused .noUnit ⟨0, 0, 0, 0xFFFFFFFF#32, 0⟩ p ∧ (p.nsq.get n).unit = (s.nsq.get n).unit ∧
      p.factor = s.factor ||| 1#19 <<< factorNotify n ∧
      (s.headStarted n q).ButForTheStep n (field (s.word (nestAt n 0)) 0 16) p ∧ p.opc = s.opc := by
  intro p
  obtain ⟨hret, hunit, -, hopc, hframe⟩ := (UnitOnly.refl n (s.headStarted n q)).ended (v := .refused) (d := .noUnit)
    (r := ⟨0, 0, 0, seqWord none, 0⟩) (.inr hk)
  exact ⟨hret, hunit.trans (headStarted_unit n q s), ended_notifies (headKept_started n q s).step hk, hframe, hopc⟩

end Sys2Proof.Machine.Part

namespace Sys2Proof.Machine

/-- Settles O11, by the course of the accepted head step. -/
theorem chainStartAcceptsTheHeadRecord : Obligations.ChainStartAcceptsTheHeadRecord := by
  intro n q s hq hst hrun x head post base st skipped a retires unit hh h1 h2
  have hp : s.part.HeadPosted n := ⟨hh, h1, h2⟩
  have hskips : skipped ↔ a.skips n st = true := by
    rw [show a.skips n st = s.part.skips n st from Part.headStarted_skips n q s.part st, Part.skips_iff]
  have hperformed (h : ¬ skipped) : a.skips n st = false := by rwa [← Bool.not_eq_true, ← hskips]
  have hstays {t : Part} (h : a.perform n st = (t, none)) : (s.part.dequeued q).takePost n = t :=
    Part.takePost_stays hst hrun hp h
  have hends {t : Part} {v : Verdict} {d : Detail} {r : Results} (hlast : post = base)
      (h : a.perform n st = (t, some (v, d, r))) : (s.part.dequeued q).takePost n = t.ended n v d r :=
    Part.takePost_ends hst hrun hp hlast h
  have ha : Part.HeadKept n q s.part a := Part.headKept_started n q s.part
  have hkept (t : Part) (v : Verdict) (d : Detail) (r : Results) (h : Part.HeadKept n q s.part t) :
      retires v d r (t.ended n v d r) ∧ t.ButForTheStep n (field head 0 16) (t.ended n v d r) ∧
        (t.ended n v d r).opc = t.opc :=
    Part.headKept_ended h v d r
  have hunder : a.underStop n = true ↔ .stationStop n ∈ s.part.sent := by
    rw [Part.underStop_iff]
    exact or_iff_right (by rw [show a.station = .run from hrun]; decide)
  refine ⟨fun hskip hk hw => answers_post hq ?_, fun k hskip hk hno => ⟨fun hb hnotice => answers_post hq ?_, ?_⟩,
    fun hlast => ⟨fun hskip => answers_post hq ?_,
    fun hskip hk => answers_post hq ?_, fun hskip hk hw => answers_post hq ?_, fun hk => answers_post hq ?_,
    fun hk hopen => answers_post hq ?_, fun hk hopen => answers_post hq ?_⟩⟩
  · rw [hstays (Part.perform_wait (hperformed hskip) hk hw)]
    rfl
  · rw [hstays (Part.perform_keptBack (hperformed hskip) hk hb (hunder.2 hnotice))]
    rfl
  · intro hfree
    have howned : a.perform n st = Part.answered n (a.handOff n k st) := by
      rw [Part.perform_owned (hperformed hskip) hk hno, if_neg]
      rw [Bool.and_eq_true, hunder]
      rintro ⟨hb, hm⟩
      rcases hfree with h | h
      exacts [by simp [h] at hb, h hm]
    refine ⟨fun hans => answers_post hq ?_, fun why hans => answers_post hq ?_,
      fun v d r hlast hans => answers_post hq ?_⟩
    · exact hstays (howned.trans (Part.answered_started hans))
    · have hchain := Part.KeepsChain.handOff (n := n) (k := k) (st := st) a (by rw [hans]; simp)
      have hrunning : (a.nsq.get n).state = .running := by
        rw [show a.nsq.get n = _ from Part.headStarted_nsq n q s.part]
      have hnot : (((a.handOff n k st).1).nsq.get n).state ≠ .held := by
        rw [hchain.state (by simp [hrunning]), hrunning]
        decide
      have hframe := Part.atNest_holdFor n why (a.handOff n k st).1
      rw [hstays (howned.trans (Part.answered_held hans))]
      exact ⟨by rw [Part.holdFor_nsq]; rfl, Part.holdFor_shows hnot, hframe.stores, hframe.same⟩
    · have hne : (a.handOff n k st).2 ≠ .started := by rw [hans]; simp
      rw [hends hlast (howned.trans (Part.answered_done hans))]
      exact hkept _ v d r (Part.headKept_handOff n q s.part st hne)
  · rw [hends hlast (Part.perform_skipped (hskips.1 hskip))]
    exact hkept a .skipped .none .zero ha
  · rw [hends hlast (Part.perform_unknown (hperformed hskip) hk)]
    exact hkept a .refused .badKind .zero ha
  · rw [hends hlast (Part.perform_waitZero (hperformed hskip) hk hw)]
    exact hkept a .pass .none .zero ha
  · rw [hends hlast (Part.perform_unitBegin hk)]
    exact Part.unitBegin_ended (n := n) (s := s.part) (q := q) hk
  · rw [hends hlast (Part.perform_unitEnd_opened hk hopen)]
    exact Part.unitEnd_ended (n := n) (q := q) (s := s.part) hk
  · rw [hends hlast (Part.perform_unitEnd_closed hk hopen)]
    exact Part.unitEnd_refused (n := n) (q := q) (s := s.part) hk

end Sys2Proof.Machine
end

section
/-! Refused hand-offs: what an owner refuses it leaves as it was. -/

namespace Sys2Proof.Machine

variable {n : NestId} {st : Step} {s t : Part}

/-- Where the answer refuses the step, the part is `s` as it was, and the results are 0 (R30). -/
def Part.RefusesClean (s : Part) (p : Part × Answer) : Prop :=
  ∀ d r, p.2 = .done .refused d r → p.1 = s ∧ r = .zero

namespace Part.RefusesClean

theorem refuse (d : Detail) : s.RefusesClean (s, .refuse d) := fun _ _ h => by cases h; exact ⟨rfl, rfl⟩
theorem pass {r : Results} : s.RefusesClean (t, .pass r) := fun _ _ h => by cases h
theorem fail {d : Detail} {r : Results} : s.RefusesClean (t, .done .fail d r) := fun _ _ h => by cases h
theorem started : s.RefusesClean (t, .started) := fun _ _ h => by cases h
theorem held {why : HoldReason} : s.RefusesClean (t, .held why) := fun _ _ h => by cases h

theorem ite {c : Prop} [Decidable c] {a b : Part × Answer} (ha : s.RefusesClean a) (hb : s.RefusesClean b) :
    s.RefusesClean (if c then a else b) := by split <;> assumption

theorem handFixture (n : NestId) (k : Kind) (st : Step) (s : Part) : s.RefusesClean (s.handFixture n k st) := by
  cases k with
  | clamp =>
    change s.RefusesClean (s.handClamp n)
    dsimp only [Part.handClamp]
    split
    exacts [ite (refuse _) (ite pass started), held, refuse _]
  | unclamp =>
    change s.RefusesClean (s.handUnclamp n)
    dsimp only [Part.handUnclamp]
    split
    exacts [ite pass started, ite pass started, held, refuse _]
  | contact =>
    change s.RefusesClean (s.handContact n st)
    dsimp only [Part.handContact]
    split
    exacts [ite pass fail, ite pass fail, held, refuse _]
  | powerOn => exact ite (refuse _) (ite held (ite (refuse _) (ite started held)))
  | powerOff =>
    change s.RefusesClean (s.handPowerOff n)
    unfold Part.handPowerOff
    split
    exacts [started, pass, held, refuse _]
  | _ => exact refuse _

theorem handSetPulse (n : NestId) (st : Step) (s : Part) : s.RefusesClean (s.handSetPulse n st) := by
  dsimp only [Part.handSetPulse]
  split
  · exact ite (refuse _) (ite (refuse _) (ite pass (ite started pass)))
  · exact refuse _

theorem handSetSender (n : NestId) (st : Step) (s : Part) : s.RefusesClean (s.handSetSender n st) := by
  unfold Part.handSetSender
  split
  exacts [refuse _, ite (refuse _) started]

theorem handSetLines (n : NestId) (st : Step) (s : Part) : s.RefusesClean (s.handSetLines n st) := by
  dsimp only [Part.handSetLines]
  refine ite (refuse _) (ite ?_ pass)
  split <;> exact pass

theorem handFrameLoad (n : NestId) (st : Step) (s : Part) : s.RefusesClean (s.handFrameLoad n st) := by
  unfold Part.handFrameLoad
  split
  exacts [refuse _, ite (refuse _) (ite (ite started pass) pass)]

theorem handCheckFrame (n : NestId) (st : Step) (s : Part) : s.RefusesClean (s.handCheckFrame n st) := by
  unfold Part.handCheckFrame
  split
  · exact refuse _
  · refine ite (refuse _) (ite started (ite ?_ started))
    split
    exacts [pass, started]

theorem handCheckGauge (n : NestId) (st : Step) (s : Part) : s.RefusesClean (s.handCheckGauge n st) := by
  unfold Part.handCheckGauge
  split
  exacts [ite (refuse _) (ite (refuse _) started), refuse _]

theorem handCheckLamps (n : NestId) (st : Step) (s : Part) : s.RefusesClean (s.handCheckLamps n st) := by
  unfold Part.handCheckLamps
  split
  exacts [refuse _, ite (refuse _) (ite pass started)]

theorem handCheckFreq (n : NestId) (st : Step) (s : Part) : s.RefusesClean (s.handCheckFreq n st) := by
  unfold Part.handCheckFreq
  split
  exacts [refuse _, ite (refuse _) started]

theorem handMeasure (n : NestId) (st : Step) (s : Part) : s.RefusesClean (s.handMeasure n st) := by
  dsimp only [Part.handMeasure]
  split
  exacts [refuse _, ite (refuse _) (ite (refuse _) (ite started held))]

theorem handPrompt (n : NestId) (st : Step) (s : Part) : s.RefusesClean (s.handPrompt n st) := by
  unfold Part.handPrompt
  extract_lets queued served
  split
  exacts [ite held started, started]

theorem handOff (n : NestId) (k : Kind) (st : Step) (s : Part) : s.RefusesClean (s.handOff n k st) := by
  cases k with
  | unitBegin | unitEnd | wait => exact refuse _
  | clamp | contact | powerOn | powerOff | unclamp => exact handFixture n _ st s
  | setPulse => exact handSetPulse n st s
  | setSender => exact handSetSender n st s
  | setLines => exact handSetLines n st s
  | frameRun => exact ite (refuse _) pass
  | frameLoad => exact handFrameLoad n st s
  | captureArm => exact ite (refuse _) pass
  | checkFrame => exact handCheckFrame n st s
  | gaugeZero => exact ite (refuse _) pass
  | checkGauge => exact handCheckGauge n st s
  | checkLamps => exact handCheckLamps n st s
  | checkFreq => exact handCheckFreq n st s
  | measure => exact handMeasure n st s
  | prompt => exact handPrompt n st s

end Part.RefusesClean

/-- The answer refuses the step for the state of the nest, an operand or a table, and leaves the part as it was (R30). -/
def Part.Refuses (s : Part) (p : Part × Answer) : Prop :=
  ∃ d, d ∈ [.badState, .badOperand, .badTable] ∧ p = (s, .done .refused d .zero)

namespace Part.Refuses

theorem badState : s.Refuses (s, .refuse .badState) := ⟨.badState, by simp, rfl⟩
theorem badOperand : s.Refuses (s, .refuse .badOperand) := ⟨.badOperand, by simp, rfl⟩
theorem badTable : s.Refuses (s, .refuse .badTable) := ⟨.badTable, by simp, rfl⟩

theorem ite {c : Prop} [Decidable c] {a b : Part × Answer} (ha : s.Refuses a) (hb : s.Refuses b) :
    s.Refuses (if c then a else b) := by split <;> assumption

/-- Whatever a hand-off does on a nest that is POWERED, on another nest it is refused BAD_STATE. -/
theorem unpowered (h : s.powered n = false) (p : Part × Answer) :
    s.Refuses (if !s.powered n then (s, .refuse .badState) else p) := by
  rw [if_pos (by simp [h])]
  exact badState

/-- A hand-off of a supplied kind to a nest that is not POWERED (R87). -/
theorem handOff {k : Kind} (h : s.powered n = false)
    (hk : k ∈ [.setPulse, .setSender, .setLines, .frameRun, .frameLoad, .captureArm, .checkFrame, .gaugeZero, .checkGauge,
      .checkLamps, .checkFreq, .measure]) : s.Refuses (s.handOff n k st) := by
  cases k with
  | setPulse =>
    change s.Refuses (s.handSetPulse n st)
    dsimp only [Part.handSetPulse]
    split
    exacts [ite badOperand (unpowered h _), badOperand]
  | setSender =>
    change s.Refuses (s.handSetSender n st)
    unfold Part.handSetSender
    split
    exacts [badOperand, unpowered h _]
  | setLines => exact unpowered h _
  | frameRun => exact unpowered h _
  | frameLoad =>
    change s.Refuses (s.handFrameLoad n st)
    unfold Part.handFrameLoad
    split
    exacts [badOperand, unpowered h _]
  | captureArm => exact unpowered h _
  | checkFrame =>
    change s.Refuses (s.handCheckFrame n st)
    unfold Part.handCheckFrame
    split
    exacts [badOperand, unpowered h _]
  | gaugeZero => exact unpowered h _
  | checkGauge =>
    change s.Refuses (s.handCheckGauge n st)
    unfold Part.handCheckGauge
    split
    exacts [ite badTable (unpowered h _), badOperand]
  | checkLamps =>
    change s.Refuses (s.handCheckLamps n st)
    unfold Part.handCheckLamps
    split
    exacts [badOperand, unpowered h _]
  | checkFreq =>
    change s.Refuses (s.handCheckFreq n st)
    unfold Part.handCheckFreq
    split
    exacts [badOperand, unpowered h _]
  | measure =>
    change s.Refuses (s.handMeasure n st)
    dsimp only [Part.handMeasure]
    split
    exacts [badOperand, ite badOperand (unpowered h _)]
  | unitBegin | unitEnd | wait | clamp | contact | powerOn | powerOff | unclamp | prompt => simp at hk

end Part.Refuses

/-- Settles O54, by the branches of each hand-off. -/
theorem refusedHandOffChangesNothing : Obligations.RefusedHandOffChangesNothing := by
  refine ⟨fun n k st s t d r h => ?_, fun n k st s hp hk => Part.Refuses.handOff hp hk⟩
  have hclean := Part.RefusesClean.handOff n k st s d r (by rw [h])
  rwa [h] at hclean

end Sys2Proof.Machine
end

section
/-! The panel link: its lamp bytes, its polls, the ends of its bytes and transfers, and the hand-off of a PROMPT. -/

namespace Sys2Proof.Machine

/-! ### Lamp bytes -/

/-- Four fields of two bits each in a byte, each of which reads back. -/
theorem extract_packed (a b c d : BitVec 2) (x : Byte)
    (hx : x = 0#8 ||| a.setWidth 8 <<< 0 ||| b.setWidth 8 <<< 2 ||| c.setWidth 8 <<< 4 ||| d.setWidth 8 <<< 6) :
    x.extractLsb' 0 2 = a ∧ x.extractLsb' 2 2 = b ∧ x.extractLsb' 4 2 = c ∧ x.extractLsb' 6 2 = d := by
  subst hx
  refine ⟨?_, ?_, ?_, ?_⟩
  all_goals
    ext i hi
    obtain rfl | rfl : i = 0 ∨ i = 1 := by omega
  all_goals simp

/-- Each lamp has its two bits of a lamp byte, since a lamp code has two bits (R178). -/
theorem lampByte_bits (lamps : Bank 8 Lamp) (first : Fin 5) (k : Fin 4) :
    (lampByte lamps first).extractLsb' (2 * k.val) 2 =
      (lampCode (lamps.get ⟨first.val + k.val, by omega⟩)).setWidth 2 := by
  have htwo (l : Lamp) : ((lampCode l).setWidth 2).setWidth 8 = lampCode l := by cases l <;> rfl
  let code (j : Fin 4) : BitVec 2 := (lampCode (lamps.get ⟨first.val + j.val, by omega⟩)).setWidth 2
  obtain ⟨h0, h1, h2, h3⟩ := extract_packed (code 0) (code 1) (code 2) (code 3) (lampByte lamps first)
    (by simp only [code, htwo]; rfl)
  match k with
  | 0 => exact h0
  | 1 => exact h1
  | 2 => exact h2
  | 3 => exact h3

/-- The link IDLE, with nothing of a transfer left (R173). -/
def Panel.quiet (o : Panel) : Panel :=
  { o with link := .idle, shift := none, buffered := none, rest := [], cursor := none, index := 0, cut := false
           byteTimer := none }

namespace Part

variable {s : Part} {n : NestId}

/-! ### What the link has to start -/

/-- An IDLE link has nothing to start with no poll, no clear and no QUEUED head (R175). -/
theorem linkWaits_idle (h : s.opc.link = .idle) : s.linkWaits = false ↔
    s.opc.pollPending = false ∧ s.opc.clearPending = false ∧ ∀ e, s.opc.prompts.head? = some e → e.state ≠ .queued := by
  cases hp : s.opc.prompts <;> simp [linkWaits, h, headEntry, hp, and_assoc]

theorem linkStart_busy (h : s.opc.link ≠ .idle) : s.linkStart = s := by simp [linkStart, h]

/-- A link that has nothing to start stays as it is (R175). -/
theorem linkStart_rests (h : s.opc.link = .idle → s.linkWaits = false) : s.linkStart = s := by
  by_cases hl : s.opc.link = .idle
  · obtain ⟨hpoll, hclear, hhead⟩ := (linkWaits_idle hl).1 (h hl)
    cases hp : s.opc.prompts with
    | nil => simp [linkStart, hl, hpoll, hclear, headEntry, hp]
    | cons e q => simp [linkStart, hl, hpoll, hclear, headEntry, hp, hhead e (by simp [hp])]
  · exact linkStart_busy hl

/-- A pending poll starts on an IDLE link, with the lamps as they stand (R175, R178). -/
theorem linkStart_poll (h : s.opc.link = .idle) (hp : s.opc.pollPending = true) :
    s.linkStart =
      { s with
        opc :=
          { s.opc with
            link := .poll, shift := some 0x71, buffered := some (lampByte s.opc.lamps 0)
            rest := [lampByte s.opc.lamps 4, 0], cursor := none, index := 0, cut := false
            byteTimer := some (s.now + 32), pollPending := false } } := by
  simp [linkStart, h, hp, Panel.pollBytes, startTransfer, modOpc, dueIn, Config.byteUs]

/-! ### Polls -/

theorem takePollDue_early (h : s.now < s.opc.pollTimer) : s.takePollDue = s := by
  simp [takePollDue, reached, h]

/-- A poll that falls due is pending, and the link starts it if it is IDLE (R175). -/
theorem takePollDue_due (h : s.opc.pollTimer ≤ s.now) (hw : s.opc.link = .idle → s.linkWaits = false) :
    s.takePollDue = Part.linkStart { s with
      opc := { s.opc with pollTimer := s.opc.pollTimer + 10000, pollPending := true } } := by
  simp [takePollDue, reached, Nat.not_lt.2 h, linkStart_rests hw, modOpc, Config.pollUs]

/-! ### The ends of a byte and of a transfer -/

theorem endByte_idle (r : Byte) (h : s.opc.link = .idle) : s.endByte r = s := by simp [endByte, h]

/-- The buffered byte moves into shift, and the next byte of a poll is loaded (R173). -/
theorem endByte_shifts (r : Byte) {b : Byte} (h : s.opc.link ≠ .idle) (hb : s.opc.buffered = some b)
    (hc : s.opc.cursor = none) : s.endByte r =
      { s with
        opc :=
          { s.opc with
            shift := some b, buffered := s.opc.rest.head?, rest := s.opc.rest.tail, index := s.opc.index + 1
            byteTimer := some (s.now + 32) } } := by
  simp [endByte, h, hb, hc, loadNext, modOpc, dueIn, Config.byteUs]

/-- The buffered byte moves into shift, and the next byte of the text is loaded from exchange memory (R173, R174). -/
theorem endByte_shiftsText (r : Byte) {b : Byte} {c : TextCursor} (h : s.opc.link ≠ .idle)
    (hb : s.opc.buffered = some b) (hc : s.opc.cursor = some c) : s.endByte r =
      { s with
        opc :=
          { s.opc with
            shift := some b, index := s.opc.index + 1, byteTimer := some (s.now + 32)
            buffered := if c.loaded < 64 then some (s.mem.byte (0x25000 + c.text.toNat * 64 + c.loaded)) else none
            cursor := some { c with loaded := if c.loaded < 64 then c.loaded + 1 else c.loaded } } } := by
  simp only [endByte, if_neg h, hb, loadNext, modOpc, hc, loadText]
  split <;> simp [dueIn, Config.byteUs, textByteAt]

/-- The last byte of a transfer ends it (R173). -/
theorem endByte_last (r : Byte) (h : s.opc.link ≠ .idle) (hb : s.opc.buffered = none) :
    s.endByte r = s.endTransfer r := by
  simp [endByte, h, hb]

/-- The end of a cut transfer or of a clear is followed by the link's next transfer alone (R174, R175, R179). -/
theorem endTransfer_quiet (r : Byte) (h : s.opc.cut = true ∨ s.opc.link = .clear) :
    s.endTransfer r = Part.linkStart { s with opc := s.opc.quiet } := by
  rcases h with h | h
  · simp [endTransfer, h, modOpc, Panel.quiet]
  · simp [endTransfer, h, modOpc, Panel.quiet]

/-- The end of a text shows its SENDING entry (R183). -/
theorem endTransfer_text (r : Byte) {e : PromptEntry} {q : List PromptEntry} (h : s.opc.link = .text)
    (hcut : s.opc.cut = false) (hp : s.opc.prompts = e :: q) (he : e.state = .sending) :
    s.endTransfer r = Part.linkStart { s with opc := { s.opc.quiet with prompts := e.show s.now :: q } } := by
  simp [endTransfer, h, hcut, modOpc, Panel.quiet, endText, headEntry, hp, he, modHead]
  rfl

/-- A press has no effect where no prompt is SHOWN (R177). -/
theorem takePress_unshown (p : Press) (h : ∀ e, s.opc.prompts.head? = some e → e.state ≠ .shown) :
    s.takePress p = s := by
  unfold takePress headEntry
  split
  · rfl
  · next e he => rw [if_neg (h e he)]

/-- A sample of a button accepts its press where it is pending and still pressed (R176). -/
theorem sample_accepts (b : Button) (pressed : Bool) : (b.sample pressed).2 = true ↔ b = .pending ∧ pressed = true := by
  cases b <;> cases pressed <;> simp [Button.sample]

/-- A sample that accepts no press, or that finds no prompt SHOWN, changes the buttons alone (R176, R177). -/
theorem sampleButtons_spent {r : Byte} (h : (∀ e, s.opc.prompts.head? = some e → e.state ≠ .shown) ∨
      ((s.opc.buttonPass = .pending → r.getLsbD 0 = false) ∧ (s.opc.buttonFail = .pending → r.getLsbD 1 = false) ∧
        (s.opc.buttonRepeat = .pending → r.getLsbD 2 = false))) :
    s.sampleButtons r =
      { s with
        opc :=
          { s.opc with
            buttonPass := (s.opc.buttonPass.sample (r.getLsbD 0)).1
            buttonFail := (s.opc.buttonFail.sample (r.getLsbD 1)).1
            buttonRepeat := (s.opc.buttonRepeat.sample (r.getLsbD 2)).1 } } := by
  have hnone {b : Button} {pressed : Bool} (hb : b = .pending → pressed = false) : (b.sample pressed).2 = false := by
    rw [← Bool.not_eq_true, sample_accepts]
    rintro ⟨rfl, hp⟩
    simp [hb rfl] at hp
  unfold sampleButtons
  dsimp only [modOpc]
  rcases h with h | ⟨hpass, hfail, hagain⟩
  · split
    · exact takePress_unshown _ h
    · rfl
  · rw [hnone hpass, hnone hfail, hnone hagain]
    rfl

/-- The end of a poll whose sample answers no prompt (R176). -/
theorem endTransfer_poll {r : Byte} (h : s.opc.link = .poll) (hi : s.opc.index = 3) (hcut : s.opc.cut = false)
    (hs : (∀ e, s.opc.prompts.head? = some e → e.state ≠ .shown) ∨
      ((s.opc.buttonPass = .pending → r.getLsbD 0 = false) ∧ (s.opc.buttonFail = .pending → r.getLsbD 1 = false) ∧
        (s.opc.buttonRepeat = .pending → r.getLsbD 2 = false))) :
    s.endTransfer r = Part.linkStart { s with
      opc :=
        { s.opc.quiet with
          buttonPass := (s.opc.buttonPass.sample (r.getLsbD 0)).1
          buttonFail := (s.opc.buttonFail.sample (r.getLsbD 1)).1
          buttonRepeat := (s.opc.buttonRepeat.sample (r.getLsbD 2)).1 } } := by
  have hsample := sampleButtons_spent (s := { s with opc := s.opc.quiet }) hs
  simp only [endTransfer, h, hi, hcut, if_true, Bool.false_eq_true, if_false, modOpc]
  exact congrArg linkStart hsample

/-! ### The hand-off of a PROMPT -/

/-- The entry that a PROMPT makes, with its operands clamped and marked (R31, R182). -/
theorem promptEntryOf_eq (n : NestId) (st : Step) :
    let timeout := (field (st.w 3) 0 16 : W16).toNat
    let gap := (field (st.w 3) 16 16 : W16).toNat
    let limit := (field (st.w 2) 8 8 : Byte).toNat
    promptEntryOf n st =
      { nest := n, sequence := st.sequence, state := .queued, text := field (st.w 2) 0 8
        timeoutS := max 1 (min timeout 65), repeatLimit := min limit 3, replayMask := field (st.w 2) 16 6
        gapMs := max 100 (min gap 5000), code := field (st.w 4) 0 16, repeats := 0, firstShown := none
        answerTimer := none
        marks := flag (decide (timeout < 1 ∨ 65 < timeout)) 0 ||| flag (decide (gap < 100 ∨ 5000 < gap)) 1 |||
          flag (decide (3 < limit)) 2 } := by
  intro timeout gap limit
  have hclamp (lo hi x : Nat) (h : lo ≤ hi) : clampTo lo hi x = (max lo (min x hi), decide (x < lo ∨ hi < x)) := by
    unfold clampTo
    split
    · next hx => simp [hx]; omega
    · next hx =>
      split
      · next hy => simp [hy]; omega
      · next hy => simp [hx, hy]; omega
  simp only [promptEntryOf, Step.answerTimeout, Step.replayGap, Step.repeatLimit, hclamp 1 65 _ (by decide),
    hclamp 100 5000 _ (by decide), hclamp 0 3 _ (by decide)]
  simp [timeout, gap, limit]

/-- A PROMPT whose text cannot start at once is held, its entry at the queue's tail (R182). -/
theorem handPrompt_held (n : NestId) (st : Step) (h : s.opc.link ≠ .idle ∨ s.opc.prompts ≠ [])
    (hw : s.opc.link = .idle → s.linkWaits = false) (hn : ∀ x ∈ s.opc.prompts, x.nest ≠ n) :
    s.handPrompt n st =
      ({ s with opc := { s.opc with prompts := s.opc.prompts ++ [promptEntryOf n st] } }, .held .panel) := by
  let t : Part := { s with opc := { s.opc with prompts := s.opc.prompts ++ [promptEntryOf n st] } }
  have ht : t.linkStart = t := by
    refine linkStart_rests fun hl => (linkWaits_idle hl).2 ?_
    obtain ⟨hpoll, hclear, hhead⟩ := (linkWaits_idle (s := s) hl).1 (hw hl)
    refine ⟨hpoll, hclear, fun e he => hhead e ?_⟩
    obtain ⟨x, q, hq⟩ := List.exists_cons_of_ne_nil (h.resolve_left (not_not.2 hl))
    simpa [t, hq] using he
  have hfind : t.promptEntry n = some (promptEntryOf n st) := by
    have hnone : s.opc.prompts.find? (fun e => e.nest = n) = none := by simpa using hn
    simp [t, promptEntry, List.find?_append, hnone, promptEntryOf]
  have hqueue : s.linkStart.modOpc (fun o => { o with prompts := o.prompts ++ [promptEntryOf n st] }) = t := by
    rw [linkStart_rests hw]
    rfl
  simp only [handPrompt, hqueue, ht, hfind]
  rfl

/-- The text of an only entry on an IDLE link starts at once (R174, R175, R183). -/
theorem handPrompt_started (n : NestId) (st : Step) (h : s.opc.link = .idle) (hw : s.linkWaits = false)
    (hp : s.opc.prompts = []) (hn : (s.nsq.get n).state ≠ .held) :
    s.handPrompt n st =
      ({ s with
         opc :=
           { s.opc with
             link := .text, shift := some (0x80 + BitVec.ofNat 8 n.val)
             buffered := some (s.mem.byte (0x25000 + (promptEntryOf n st).text.toNat * 64)), rest := []
             cursor := some ⟨n, (promptEntryOf n st).text, 1⟩, index := 0, cut := false
             byteTimer := some (s.now + 32), clearPending := false
             prompts := [{ promptEntryOf n st with state := .sending }] } }, .started) := by
  obtain ⟨hpoll, hclear, -⟩ := (linkWaits_idle h).1 hw
  unfold handPrompt
  rw [linkStart_rests fun _ => hw]
  simp [modOpc, hp, linkStart, h, hpoll, headEntry, startText, startTransfer, loadText, modHead, showByte, textByteAt,
    dueIn, Config.byteUs, promptEntry, promptEntryOf, holdEnd_other, hn]
  rfl

end Part

/-- A command after which the link takes its next transfer (R175). -/
theorem answers_served {c : Instr} {s : State} {x : Panel} {f : Part → Part} (h : exec c s = s.act f)
    (hf : f s.part = Part.linkStart { s.part with opc := x }) : Answers c s { s.part with opc := x }.ServesLink :=
  answers_of_act h (by rw [hf]; exact linkStart_serves _)

/-- Settles O49, by the cases of a poll, of a byte's end, and of a PROMPT's hand-off. -/
theorem panelLinkShiftsBytes : Obligations.PanelLinkShiftsBytes := by
  refine ⟨fun lamps k => ⟨?_, ?_⟩, fun s => ?_⟩
  · simpa using lampByte_bits lamps 0 k
  · exact lampByte_bits lamps 4 k
  intro o becomes goesOn quiet
  have hserved (r : Byte) {x : Panel} (h : s.part.endByte r = Part.linkStart { s.part with opc := x }) :
      goesOn (.byteEnd r) x := answers_served (f := (·.endByte r)) rfl h
  have hbecomes (r : Byte) {x : Panel} (h : s.part.endByte r = { s.part with opc := x }) : becomes (.byteEnd r) x :=
    answers_of_act (f := (·.endByte r)) rfl h
  have hlast (r : Byte) (h : o.link ≠ .idle) (hb : o.buffered = none) : s.part.endByte r = s.part.endTransfer r :=
    Part.endByte_last r h hb
  refine ⟨fun h => ?_, fun h hl => ?_, fun h hl hw => ?_, fun r => ⟨fun hl => ?_, fun b hl hb hc => ?_,
    fun b c hl hb hc => ?_, fun e q hl hb hcut hp he => ?_, fun hl hb h => ?_, fun hl hi hb hcut h => ?_⟩,
    fun n st => ?_⟩
  · change s.act (·.takePollDue) = _
    simp [State.act, Part.takePollDue_early h]
  · refine answers_of_act (f := (·.takePollDue)) rfl ?_
    rw [Part.takePollDue_due h fun h => absurd h hl]
    exact Part.linkStart_busy hl
  · refine answers_of_act (f := (·.takePollDue)) rfl ?_
    rw [Part.takePollDue_due h fun _ => hw]
    exact Part.linkStart_poll hl rfl
  · change s.act (·.endByte r) = _
    simp [State.act, Part.endByte_idle r hl]
  · exact hbecomes r (Part.endByte_shifts r hl hb hc)
  · exact hbecomes r (Part.endByte_shiftsText r hl hb hc)
  · exact hserved r ((hlast r (by simp [hl]) hb).trans (Part.endTransfer_text r hl hcut hp he))
  · exact hserved r ((hlast r hl hb).trans (Part.endTransfer_quiet r h))
  · exact hserved r ((hlast r (by simp [hl]) hb).trans (Part.endTransfer_poll hl hi hcut h))
  · intro timeout gap limit e
    rw [show e = promptEntryOf n st from (Part.promptEntryOf_eq n st).symm]
    exact ⟨fun h hw hn => Part.handPrompt_held n st h hw hn, fun h hw hp hn => Part.handPrompt_started n st h hw hp hn⟩

end Sys2Proof.Machine
end

section
/-! The last posted step retires, and the nest waits. -/

namespace Sys2Proof.Machine

namespace Part

variable {n : NestId} {s t u : Part} {st : Step} {v : Verdict} {d : Detail} {r : Results}

/-! ### The retirement of the last posted step -/

/-- With no step posted beyond it, the end of a step leaves the nest WAITING (R10). -/
theorem finish_last (h : s.LastStep n st) (v : Verdict) (d : Detail) (r : Results) :
    s.finish n v d r = s.ended n v d r := by
  obtain ⟨hst, -, hlim⟩ := h
  have hzero : seqDistance st.sequence st.sequence = 0 := by simp [seqDistance]
  rw [finish, retire_goOn hst hlim, hzero]
  rfl

/-- What has retired stands once the nest waits (R10, R14). -/
theorem retires_ended (h : (s.nsq.get n).step = some st) (v : Verdict) (d : Detail) (r : Results) :
    s.Retires n st v d r (s.ended n v d r) := by
  have hn := ended_nsq (v := v) (d := d) (r := r) h
  refine (retire_retires h v d r).after (atNest_ended n v d r s).stores (slotWords_apart fun k _ => by simp) (by simp)
    ?_ ?_ ?_ ?_ ?_
  all_goals simp [hn, retire_nsq h]

/-- A step has retired as well from any part at the same time. -/
theorem Retires.of_start (h : t.Retires n st v d r u) (ht : t.timebase = s.timebase) : s.Retires n st v d r u := by
  unfold Part.Retires at h ⊢
  rwa [← ht]

/-- What the end of a step leaves of the part but the sequencer and memory (R28, R45, R61). -/
theorem ended_same (h : (s.nsq.get n).step = some st) (v : Verdict) (d : Detail) (r : Results) :
    s.ended n v d r =
      { s with
        nsq := (s.ended n v d r).nsq, mem := (s.ended n v d r).mem, sent := outcomesLate n s.sent
        factor := if st.notify || st.isKind .unitEnd then s.factor ||| 1#19 <<< factorNotify n else s.factor
        fxc := s.fxc.put n { s.fxc.get n with powerOn := none }
        pcv := { s.pcv with records := s.pcv.records.put n none } } := by
  rw [(atNest_ended n v d r s).same, retire_same h v d r]

theorem ended_stores (h : (s.nsq.get n).step = some st) (more : List Nat) :
    s.StoresOnly (slotWords st.slot ++ nestWords n ++ more) (s.ended n v d r) :=
  (retire_stores_owned h more).trans ((atNest_ended n v d r s).stores.mono (by simp [mem_nestWords]))

theorem ended_nestOnly (h : (s.nsq.get n).step = some st) : s.NestOnly n (s.ended n v d r) :=
  (retire_nestOnly h).trans (atNest_ended n v d r s).nestOnly

/-! ### SKIPPING and the unit counts -/

/-- SKIPPING mode after a step (R41, R43). -/
theorem skippingAfter_iff (st : Step) (v : Verdict) (on : Bool) : skippingAfter st v on = true ↔
    (on = true ∧ ¬ (st.kind = some .unitBegin ∨ st.kind = some .unitEnd)) ∨
      (st.critical = true ∧ ((v = .fail ∨ v = .timeout) ∨ v = .refused)) := by
  cases v <;> simp [skippingAfter, Step.isKind]

/-- Each verdict is counted once, and the first failing sequence is kept (R39). -/
theorem count_eq (x : UnitRecord) (seq : W16) (v : Verdict) :
    let failed := v = .fail ∨ v = .timeout
    (x.count seq v).pass = (if v = .pass then bumpSaturating x.pass else x.pass) ∧
      (x.count seq v).fail = (if failed then bumpSaturating x.fail else x.fail) ∧
      (x.count seq v).error = (if v = .refused ∨ v = .aborted then bumpSaturating x.error else x.error) ∧
      (x.count seq v).skip = (if v = .skipped then bumpSaturating x.skip else x.skip) ∧
      (x.count seq v).firstFail = (if failed ∧ x.firstFail = none then some seq else x.firstFail) := by
  cases v <;> simp [UnitRecord.count]

/-- The count words of a step counted in an OPEN unit; the first-fail word is written at the first failure alone (R39). -/
theorem countStep_words (t : Part) (st : Step) (v : Verdict) (hu : (t.nsq.get n).unit.state = .opened)
    (hk : ¬ (st.kind = some .unitBegin ∨ st.kind = some .unitEnd)) :
    let x := (t.nsq.get n).unit
    t.countedUnit n st v = x.count st.sequence v ∧
      (t.countStep n st v).word (nestAt n 11) = (x.count st.sequence v).countsA ∧
      (t.countStep n st v).word (nestAt n 12) = (x.count st.sequence v).countsB ∧
      (t.countStep n st v).word (nestAt n 13) =
        (if (v = .fail ∨ v = .timeout) ∧ x.firstFail = none then seqWord (some st.sequence)
        else t.word (nestAt n 13)) := by
  intro x
  have hcounted : (t.nsq.get n).unit.state = .opened ∧ st.kind ≠ some .unitBegin ∧ st.kind ≠ some .unitEnd :=
    ⟨hu, not_or.1 hk⟩
  obtain ⟨-, -, -, -, hfirst⟩ := count_eq x st.sequence v
  have hne : (x.count st.sequence v).firstFail = x.firstFail ↔ ¬ ((v = .fail ∨ v = .timeout) ∧ x.firstFail = none) := by
    rw [hfirst]
    split
    · next h => simp [h]
    · next h => simp [h]
  simp only [countStep, countedUnit, if_pos hcounted]
  by_cases hf : (v = .fail ∨ v = .timeout) ∧ x.firstFail = none
  · rw [if_neg (by simp only [x] at hne hf; rw [hne]; exact not_not.2 hf), if_pos hf]
    simp [putNest_word, hfirst, hf, x]
  · rw [if_pos (by simp only [x] at hne hf; rw [hne]; exact hf), if_neg hf]
    simp [putNest_word, x]

/-- The count words stand once the step has ended (R14, R39). -/
theorem ended_countWord (h : (s.nsq.get n).step = some st) {k : Nat} (hk : k ∈ [11, 12, 13]) :
    (s.ended n v d r).word (nestAt n k) = ((s.writeFinal st v d r).countStep n st v).word (nestAt n k) := by
  have hapart : ∀ k ∈ [11, 12, 13], k < 64 ∧ k ≠ 4 ∧ k ≠ 5 ∧ k ≠ 7 := by decide
  obtain ⟨hlt, h4, h5, h7⟩ := hapart k hk
  have hrec : (s.recorded n st v d r).word (nestAt n k) =
      ((s.writeFinal st v d r).countStep n st v).word (nestAt n k) :=
    (atNest_setSkipping n _ _).stores.word (by simp [h7])
  have hdrop := ((dropped_stores n st.sequence (s.recorded n st v d r)).word (i := nestAt n k) (by simp [h4, h5])).trans hrec
  rw [(atNest_ended n v d r s).stores.word (by simp [h7]), retire_eq h]
  split <;> simpa using hdrop

/-- The unit record and its words once a step has ended that is counted in an OPEN unit (R39). -/
theorem ended_counted (h : (s.nsq.get n).step = some st) (hu : (s.nsq.get n).unit.state = .opened)
    (hk : ¬ (st.kind = some .unitBegin ∨ st.kind = some .unitEnd)) :
    let x := ((s.nsq.get n).unit).count st.sequence v
    ((s.ended n v d r).nsq.get n).unit = x ∧ (s.ended n v d r).word (nestAt n 11) = x.countsA ∧
      (s.ended n v d r).word (nestAt n 12) = x.countsB ∧
      (s.ended n v d r).word (nestAt n 13) =
        (if (v = .fail ∨ v = .timeout) ∧ (s.nsq.get n).unit.firstFail = none then seqWord (some st.sequence)
        else s.word (nestAt n 13)) := by
  intro x
  obtain ⟨hunit, -⟩ := countStep_words s st v hu hk
  obtain ⟨-, h11, h12, h13⟩ := countStep_words (s.writeFinal st v d r) st v hu hk
  have hsame : (s.writeFinal st v d r).word (nestAt n 13) = s.word (nestAt n 13) :=
    (atNest_writeFinal (n := n)).stores.word (nestAt_not_slotWords n (by decide) _)
  refine ⟨by simp [ended_nsq h, hunit, x], (ended_countWord h (by decide)).trans h11,
    (ended_countWord h (by decide)).trans h12, ?_⟩
  rw [ended_countWord h (by decide), h13, hsame]
  rfl

/-- A step is not counted where no unit is OPEN, and no unit step is (R39). -/
theorem ended_uncounted (h : (s.nsq.get n).step = some st)
    (hu : ¬ ((s.nsq.get n).unit.state = .opened ∧ ¬ (st.kind = some .unitBegin ∨ st.kind = some .unitEnd))) :
    ((s.ended n v d r).nsq.get n).unit = (s.nsq.get n).unit := by
  simp only [ended_nsq h, Bank.get_modify_same, countedUnit]
  exact if_neg fun ⟨ho, hk⟩ => hu ⟨ho, not_or.2 hk⟩

/-! ### Outcomes -/

/-- An outcome that names a step not in execution is discarded (R28). -/
theorem takeOutcome_other {o : OwnerOutcome} (h : ∀ st, (s.nsq.get o.nest).step = some st → st.sequence ≠ o.sequence) :
    s.takeOutcome o = s := by
  refine if_neg ?_
  cases hst : (s.nsq.get o.nest).step with
  | none => simp [Nsq.sequence, hst]
  | some st => simpa [Nsq.sequence, hst] using h st hst

/-- The outcome of the last posted step (R10, R28). -/
theorem takeOutcome_last {o : OwnerOutcome} (h : s.LastStep o.nest st) (hq : o.sequence = st.sequence) :
    s.takeOutcome o = s.ended o.nest o.verdict o.detail o.results := by
  rw [takeOutcome, if_pos (by simp [Nsq.sequence, h.1, hq]), finish_last h]

end Part

/-- Settles O14, by the three ways in which an outcome arrives. -/
theorem outcomeRetiresTheStep : Obligations.OutcomeRetiresTheStep := by
  refine ⟨fun o s hlate => ?_, fun o s hlate hother => ?_, fun o st s hlate hlast hq => ?_⟩
  · refine answers_of_act (f := (·.receive (.ownerOutcome o) (·.takeOutcome o))) rfl ?_
    exact Part.receive_late _ _ ((late_iff _ _).1 hlate)
  · refine answers_of_act (f := (·.receive (.ownerOutcome o) (·.takeOutcome o))) rfl ?_
    rw [late_iff, Bool.not_eq_true] at hlate
    rw [Part.receive_taken _ _ hlate]
    exact Part.takeOutcome_other (s := s.part.took (.ownerOutcome o)) hother
  · intro u unitStep failed counted bumped
    refine answers_of_act (f := (·.receive (.ownerOutcome o) (·.takeOutcome o))) rfl ?_
    rw [late_iff, Bool.not_eq_true] at hlate
    let t := s.part.took (.ownerOutcome o)
    have ht : t.LastStep o.nest st := hlast
    rw [Part.receive_taken _ _ hlate, Part.takeOutcome_last ht hq]
    have hst := ht.1
    have hretires := (Part.retires_ended hst o.verdict o.detail o.results).of_start (s := s.part) rfl
    have hsame := Part.ended_same hst o.verdict o.detail o.results
    have hstores := Part.ended_stores (v := o.verdict) (d := o.detail) (r := o.results) hst []
    have hnest := Part.ended_nestOnly (v := o.verdict) (d := o.detail) (r := o.results) hst
    have hnsq := Part.ended_nsq (v := o.verdict) (d := o.detail) (r := o.results) hst
    have hcounted := Part.ended_counted (v := o.verdict) (d := o.detail) (r := o.results) hst
    have huncounted := Part.ended_uncounted (v := o.verdict) (d := o.detail) (r := o.results) hst
    generalize t.ended o.nest o.verdict o.detail o.results = p at hretires hsame hstores hnest hnsq hcounted huncounted
    refine ⟨hretires, by simp [hnsq], by simp [hnsq], ?_, ?_, huncounted, ?_, ?_, ?_, hnest⟩
    · rw [hnsq, Bank.get_modify_same]
      exact Part.skippingAfter_iff st o.verdict _
    · intro hc
      obtain ⟨hu, h11, h12, h13⟩ := hcounted hc.1 hc.2
      obtain ⟨hpass, hfail, herror, hskip, hfirst⟩ := Part.count_eq u st.sequence o.verdict
      rw [hu]
      exact ⟨hpass, hfail, herror, hskip, hfirst, h11, h12, h13⟩
    · rw [hsame]
      simp [Step.isKind, t]
    · rw [hsame]
      rfl
    · rw [List.append_nil] at hstores
      exact hstores

end Sys2Proof.Machine
end

section
/-! Two runs of the blocks side by side: a part, and the same part with a nest fault recorded, or a step retired, on one
nest. The blocks do in both runs the same, for they read neither. -/

namespace Sys2Proof.Machine

namespace Part

/-- A power-up of nest `n` in progress has no entry left in the power queue. -/
def PowerApart (n : NestId) (s : Part) : Prop :=
  (s.fxc.get n).state = .powering → ∀ e ∈ s.powerQueue, e.nest ≠ n

/-- A word of the part that no owner writes when it ends a step or powers a nest off: neither a NEST_STATE nor a word of
a frame slot. -/
def Spare (i : Nat) : Prop := i < 0x8C00 ∧ ∀ m, i ≠ nestAt m 7

/-- Part `s` without what owners keep for nest `n`'s step alone, as its retirement leaves it, if the step is `gone`. -/
def without (n : NestId) (gone : Bool) (s : Part) : Part :=
  { s with
    sent := if gone then outcomesLate n s.sent else s.sent
    fxc := if gone then s.fxc.put n { s.fxc.get n with powerOn := none } else s.fxc
    pcv := if gone then { s.pcv with records := s.pcv.records.put n none } else s.pcv }

/-- Part `t`, which comes from `t₀`, stands beside part `s`: it differs from it at nest `n`'s sequencer, its faults and
factors, in the words `words`, and, if the step is `gone`, in what owners keep for it. On the way from `t₀` only a hold
of the nest can have ended, besides the results kept; no spare word was written. -/
structure Beside (n : NestId) (gone : Bool) (words : List Nat) (t₀ s t : Part) : Prop where
  same : t = { s.without n gone with nsq := t.nsq, mem := t.mem, factor := t₀.factor, firstFault := t₀.firstFault }
  others : Bank.AgreeBut n s.nsq t.nsq
  sequencer : t.nsq.get n =
    { t₀.nsq.get n with
      state := (s.nsq.get n).state, hold := (s.nsq.get n).hold, report := (t.nsq.get n).report }
  report : gone = false → (t.nsq.get n).report = (s.nsq.get n).report
  held : ((s.nsq.get n).state = (t₀.nsq.get n).state ∧ (s.nsq.get n).hold = (t₀.nsq.get n).hold) ∨
    ((t₀.nsq.get n).state = .held ∧ (s.nsq.get n).state = .running ∧ (s.nsq.get n).hold = .none)
  stores : s.StoresOnly words t
  spare : ∀ i, Spare i → t.word i = t₀.word i
  ticks : t.ticks = t₀.ticks
  apart : gone = true ∨ t₀.PowerApart n → s.PowerApart n
  shown : nestAt n 7 ∈ words
  low : ∀ i ∈ words, i < 0x9210

/-! ### Where words lie -/

theorem spare_nestAt (n : NestId) {k : Nat} (hk : k < 64) (h7 : k ≠ 7) : Spare (nestAt n k) := by
  refine ⟨by unfold nestAt; omega, fun m h => h7 ?_⟩
  exact ((nestAt_eq_iff hk (by decide)).1 h).2

theorem spare_slotAt {p k : Nat} (hp : p < Config.slotCount) (hk : k < 16) : Spare (slotAt p k) :=
  ⟨by unfold slotAt; unfold Config.slotCount at hp; omega, fun m => by simp⟩

theorem spare_firstFault {i : Nat} (h : i ∈ [ffStateAt, ffStepAt, ffTimeAt]) : Spare i := by
  refine ⟨?_, fun m => ?_⟩
  · revert h; revert i; decide
  · rintro rfl
    simp at h

theorem not_spare_nestState (m : NestId) : ¬ Spare (nestAt m 7) := fun h => h.2 m rfl

theorem not_spare_frameAt (m : NestId) (f : Fin 16) (k : Nat) : ¬ Spare (frameAt m f k) := fun h => by
  have := h.1
  unfold frameAt at this
  omega

/-! ### Writes on both sides, and on one -/

variable {n m : NestId} {gone : Bool} {words : List Nat} {t₀ s t : Part}

/-- The same word written on both sides. -/
theorem StoresOnly.put_both {i : Nat} {v : W32} (h : s.StoresOnly words t) :
    (s.put i v).StoresOnly words (t.put i v) := fun a ha => by
  simp only [put_mem, Memory.setWord, Memory.byte_setWordByte, h a ha]

theorem keepReport_get (m n : NestId) (r : Results) (s : Part) : (s.keepReport m r).nsq.get n =
    { s.nsq.get n with report := if m = n then some r else (s.nsq.get n).report } := by
  rw [keepReport_nsq, Bank.get_modify]
  split <;> rfl

/-- The sequencer of a nest whose hold has ended. -/
def resumed (m : NestId) (s : Part) : Part := s.modNsq m fun q => { q with state := .running, hold := .none }

theorem holdEnd_eq (m : NestId) (s : Part) :
    s.holdEnd m = if (s.nsq.get m).state = .held then s.track m (·.resumed m) else s := rfl

namespace Beside

/-- A part stands beside itself. -/
theorem refl (s : Part) (hshown : nestAt n 7 ∈ words) (hlow : ∀ i ∈ words, i < 0x9210) : Beside n false words s s s :=
  ⟨rfl, .refl n _, rfl, fun _ => rfl, .inl ⟨rfl, rfl⟩, .refl, fun _ _ => rfl, rfl,
    fun h => h.resolve_left (by decide), hshown, hlow⟩

variable (h : Beside n gone words t₀ s t)
include h

/-! ### What both sides read alike -/

theorem stu : t.stu = s.stu := congrArg (·.stu) h.same
theorem buc : t.buc = s.buc := congrArg (·.buc) h.same
theorem gmn : t.gmn = s.gmn := congrArg (·.gmn) h.same
theorem lpc : t.lpc = s.lpc := congrArg (·.lpc) h.same
theorem opc : t.opc = s.opc := congrArg (·.opc) h.same
theorem powerQueue : t.powerQueue = s.powerQueue := congrArg (·.powerQueue) h.same
theorem sameTicks : t.ticks = s.ticks := congrArg (·.ticks) h.same
theorem now : t.now = s.now := by rw [Part.now, h.sameTicks, Part.now]
theorem timebase : t.timebase = s.timebase := by rw [Part.timebase, h.now, Part.timebase]
theorem dueIn (us : Nat) : t.dueIn us = s.dueIn us := by rw [Part.dueIn, h.now, Part.dueIn]
theorem dueInMs (ms : Nat) : t.dueInMs ms = s.dueInMs ms := by rw [Part.dueInMs, h.now, Part.dueInMs]
theorem grant : t.pcv.grant = s.pcv.grant := by rw [h.same]; simp only [without]; split <;> rfl
theorem queue : t.pcv.queue = s.pcv.queue := by rw [h.same]; simp only [without]; split <;> rfl

/-- But for what is kept for a step that is gone, the fixtures are the same. -/
theorem fxc (hm : gone = true → m ≠ n) : t.fxc.get m = s.fxc.get m := by
  rw [h.same]
  simp only [without]
  split
  · next hg => exact Bank.get_put_other _ _ (hm hg).symm
  · rfl

theorem fixtureState : (t.fxc.get m).state = (s.fxc.get m).state := by
  rw [h.same]
  simp only [without]
  split
  · rw [Bank.get_put]
    split
    · next e => rw [e]
    · rfl
  · rfl

theorem powered : t.powered m = s.powered m := by rw [Part.powered, h.fixtureState, Part.powered]

theorem measurement (hm : gone = true → m ≠ n) : t.measurement m = s.measurement m := by
  unfold Part.measurement
  rw [h.same]
  simp only [without]
  split
  · next hg => exact Bank.get_put_other _ _ (hm hg).symm
  · rfl

/-- The state and the hold of every sequencer are the same. -/
theorem seqState : (t.nsq.get m).state = (s.nsq.get m).state := by
  by_cases e : m = n
  · rw [e, h.sequencer]
  · rw [h.others m e]

theorem nestStateWord (hm : m ≠ n) : t.nestStateWord m = s.nestStateWord m := by
  unfold Part.nestStateWord
  rw [h.others m hm, h.fixtureState, h.buc]

theorem word {i : Nat} (hi : 0x9210 ≤ i) : t.word i = s.word i :=
  h.stores.word fun hw => absurd (h.low i hw) (by omega)

/-! ### Writes -/

/-- The same word written on both sides. -/
theorem put {i : Nat} {v : W32} (hi : ¬ Spare i) : Beside n gone words t₀ (s.put i v) (t.put i v) :=
  { h with
    same := congrArg (Part.put i v) h.same
    stores := h.stores.put_both
    spare := fun j hj => (Memory.word_setWord_other _ _ fun e : i = j => hi (e ▸ hj)).trans (h.spare j hj) }

/-- NEST_STATE of the nest written on the left. -/
theorem put_left {v : W32} : Beside n gone words t₀ (s.put (nestAt n 7) v) t :=
  { h with
    stores := fun a ha => (h.stores a ha).trans
      (Memory.byte_setWord_other s.mem v fun e => ha (e ▸ h.shown)).symm }

/-- NEST_STATE of the nest written on the right. -/
theorem put_right {v : W32} : Beside n gone words t₀ s (t.put (nestAt n 7) v) :=
  { h with
    same := congrArg (Part.put (nestAt n 7) v) h.same
    stores := h.stores.put h.shown
    spare := fun j hj => (Memory.word_setWord_other _ _ fun e : nestAt n 7 = j => not_spare_nestState n (e ▸ hj)).trans (h.spare j hj) }

theorem modStu {f : Stimulus → Stimulus} : Beside n gone words t₀ (s.modStu m f) (t.modStu m f) :=
  { h with same := congrArg (Part.modStu m f) h.same }
theorem modBuc {f : Bus → Bus} : Beside n gone words t₀ (s.modBuc m f) (t.modBuc m f) :=
  { h with same := congrArg (Part.modBuc m f) h.same }
theorem modGmn {f : Gauges → Gauges} : Beside n gone words t₀ (s.modGmn m f) (t.modGmn m f) :=
  { h with same := congrArg (Part.modGmn m f) h.same }
theorem modLpc {f : Watcher → Watcher} : Beside n gone words t₀ (s.modLpc m f) (t.modLpc m f) :=
  { h with same := congrArg (Part.modLpc m f) h.same }
theorem modOpc {f : Panel → Panel} : Beside n gone words t₀ (s.modOpc f) (t.modOpc f) :=
  { h with same := congrArg (Part.modOpc f) h.same }

/-- A change of the fixtures that neither reads nor sets what is kept for a step that is gone. -/
theorem modFxc {f : Fixture → Fixture}
    (hf : gone = true → m = n → ∀ x, { f x with powerOn := none } = f { x with powerOn := none })
    (ha : gone = true ∨ t₀.PowerApart n → (s.modFxc m f).PowerApart n) :
    Beside n gone words t₀ (s.modFxc m f) (t.modFxc m f) := by
  have hw : (s.modFxc m f).without n gone = (s.without n gone).modFxc m f := by
    cases gone with
    | false => rfl
    | true =>
      refine congrArg (fun x => { s.without n true with fxc := x }) (Bank.ext_get fun j => ?_)
      simp only [modFxc_fxc, without, if_true, Bank.get_put, Bank.get_modify]
      by_cases hj : n = j
      · subst hj
        by_cases hm : m = n
        · simp [hm, hf rfl hm]
        · simp [hm]
      · simp [hj]
  exact
    { h with
      same := by rw [hw]; exact congrArg (Part.modFxc m f) h.same
      apart := ha }

/-- A change of the converter that does not touch the records. -/
theorem modPcv {f : Converter → Converter}
    (hf : ∀ c, f { c with records := c.records.put n none } = { f c with records := (f c).records.put n none }) :
    Beside n gone words t₀ (s.modPcv f) (t.modPcv f) := by
  have hw : (s.modPcv f).without n gone = (s.without n gone).modPcv f := by
    cases gone with
    | false => rfl
    | true => exact congrArg (fun x => { s.without n true with pcv := x }) (hf s.pcv).symm
  exact { h with same := by rw [hw]; exact congrArg (Part.modPcv f) h.same }

/-- A message that is no outcome. -/
theorem send {x : Notice} (hx : ∀ o, x ≠ .ownerOutcome o) : Beside n gone words t₀ (s.send x) (t.send x) := by
  have hlate : outcomesLate n [x] = [x] := by
    cases x with
    | ownerOutcome o => exact absurd rfl (hx o)
    | _ => rfl
  have hw : (s.send x).without n gone = (s.without n gone).send x := by
    cases gone with
    | false => rfl
    | true =>
      refine congrArg (fun l => { s.without n true with sent := l }) ?_
      simp only [send_sent, outcomesLate, List.map_append] at hlate ⊢
      rw [hlate]
      rfl
  exact { h with same := by rw [hw]; exact congrArg (Part.send x) h.same }

theorem withPowerQueue {q : List PowerEntry} (hq : ∀ e ∈ q, e ∈ s.powerQueue) :
    Beside n gone words t₀ { s with powerQueue := q } { t with powerQueue := q } :=
  { h with
    same := congrArg (fun p : Part => { p with powerQueue := q }) h.same
    apart := fun hg hp e he => h.apart hg hp e (hq e he) }

/-- Results kept on both sides. -/
theorem keepReport {r : Results} : Beside n gone words t₀ (s.keepReport m r) (t.keepReport m r) where
  __ := h
  same := congrArg (Part.keepReport m r) h.same
  others j hj := by rw [keepReport_get, keepReport_get, h.others j hj]
  sequencer := by rw [keepReport_get, keepReport_get, h.sequencer]
  report hg := by rw [keepReport_get, keepReport_get, h.report hg]
  held := by rw [keepReport_get]; exact h.held

/-- Results kept for a step that is gone on the other side. -/
theorem keepReport_left (hg : gone = true) {r : Results} : Beside n gone words t₀ (s.keepReport n r) t where
  __ := h
  others j hj := by rw [keepReport_get, if_neg (Ne.symm hj)]; exact h.others j hj
  sequencer := by rw [keepReport_get]; exact h.sequencer
  report hg' := by rw [hg] at hg'; cases hg'
  held := by rw [keepReport_get]; exact h.held

theorem resumed (hh : (s.nsq.get m).state = .held) : Beside n gone words t₀ (s.resumed m) (t.resumed m) := by
  have hget (p : Part) : (p.resumed m).nsq.get n =
      if m = n then { p.nsq.get n with state := .running, hold := .none } else p.nsq.get n := by
    rw [Part.resumed, modNsq_nsq, Bank.get_modify]
  exact
    { h with
      same := congrArg (Part.resumed m) h.same
      others := fun j hj => by simp only [Part.resumed, modNsq_nsq, Bank.get_modify, h.others j hj]
      sequencer := by
        rw [hget, hget, h.sequencer]
        split <;> rfl
      report := fun hg => by
        rw [hget, hget]
        split
        · exact h.report hg
        · exact h.report hg
      held := by
        rw [hget]
        split
        · next e =>
          subst e
          refine .inr ⟨?_, rfl, rfl⟩
          rcases h.held with ⟨hs, -⟩ | ⟨hs, -, -⟩
          · rw [← hs, hh]
          · exact hs
        · exact h.held }

/-- Both sides change alike and write a NEST_STATE that has changed. -/
theorem track {f : Part → Part} (hf : Beside n gone words t₀ (f s) (f t)) :
    Beside n gone words t₀ (s.track m f) (t.track m f) := by
  by_cases e : m = n
  · subst e
    rcases s.track_eq m f with ⟨hs, -⟩ | ⟨hs, -⟩ <;> rcases t.track_eq m f with ⟨ht, -⟩ | ⟨ht, -⟩ <;> rw [hs, ht]
    exacts [hf, hf.put_right, hf.put_left, hf.put_left.put_right]
  · unfold Part.track
    simp only [h.nestStateWord e, hf.nestStateWord e]
    split
    exacts [hf, hf.put (not_spare_nestState m)]

omit h in
theorem ite {c : Prop} [Decidable c] {a b a' b' : Part} (ha : Beside n gone words t₀ a a')
    (hb : Beside n gone words t₀ b b') :
    Beside n gone words t₀ (if c then a else b) (if c then a' else b') := by split <;> assumption

theorem foldl {α : Type} {f : Part → α → Part} {l : List α}
    (hf : ∀ {s t : Part} (x : α), Beside n gone words t₀ s t → Beside n gone words t₀ (f s x) (f t x)) :
    Beside n gone words t₀ (l.foldl f s) (l.foldl f t) := by
  induction l generalizing s t with
  | nil => exact h
  | cons x l ih => exact ih (hf x h)

/-! ### Holds and fixture states -/

theorem holdEnd : Beside n gone words t₀ (s.holdEnd m) (t.holdEnd m) := by
  rw [holdEnd_eq, holdEnd_eq, h.seqState]
  split
  · next hh => exact h.track (h.resumed hh)
  · exact h

theorem publish {new : FixtureState}
    (hn : gone = true ∨ t₀.PowerApart n → m = n → new = .powering → ∀ e ∈ s.powerQueue, e.nest ≠ n) :
    Beside n gone words t₀ (s.publish m new) (t.publish m new) := by
  refine h.track (h.modFxc (fun _ _ _ => rfl) fun hg hs => ?_)
  rw [modFxc_fxc, Bank.get_modify] at hs
  split at hs
  · next e => exact hn hg e hs
  · exact h.apart hg hs

/-! ### The stimulus unit -/

theorem channel {i : Fin 4} : t.channel m i = s.channel m i := by rw [Part.channel, h.stu, Part.channel]
theorem sender {e : Fin 2} : t.sender m e = s.sender m e := by rw [Part.sender, h.stu, Part.sender]

theorem stopBurst {i : Fin 4} : Beside n gone words t₀ (s.stopBurst m i) (t.stopBurst m i) := by
  unfold Part.stopBurst
  rw [h.channel]
  split
  exacts [h, h.modStu.keepReport]

theorem stopSenderSettle {e : Fin 2} : Beside n gone words t₀ (s.stopSenderSettle m e) (t.stopSenderSettle m e) := by
  unfold Part.stopSenderSettle
  rw [h.sender]
  split
  exacts [h, h.modStu.keepReport]

theorem endReplay : Beside n gone words t₀ (s.endReplay m) (t.endReplay m) := by
  unfold Part.endReplay
  simp only [h.powered, h.stu, h.sameTicks]
  refine ite h ?_
  split
  exacts [h.modStu, h.modStu, h]

theorem enforceIdle : Beside n gone words t₀ (s.enforceIdle m) (t.enforceIdle m) := by
  have hkept (r : Option Results) : Beside n gone words t₀
      (match r with | some r => s.keepReport m r | none => s)
      (match r with | some r => t.keepReport m r | none => t) := by
    cases r
    exacts [h, h.keepReport]
  unfold Part.enforceIdle
  simp only [h.stu]
  exact ite (hkept _).modStu ((hkept _).modStu.send (by simp))

/-! ### The bus controllers -/

theorem slot {k : Fin 16} : t.slot m k = s.slot m k := by rw [Part.slot, h.buc, Part.slot]

theorem writeSlotStatus {k : Fin 16} : Beside n gone words t₀ (s.writeSlotStatus m k) (t.writeSlotStatus m k) := by
  rw [Part.writeSlotStatus, Part.writeSlotStatus, h.slot]
  exact h.put (not_spare_frameAt m k 6)

theorem writeSlotNacks {k : Fin 16} : Beside n gone words t₀ (s.writeSlotNacks m k) (t.writeSlotNacks m k) := by
  rw [Part.writeSlotNacks, Part.writeSlotNacks, h.slot]
  exact h.put (not_spare_frameAt m k 7)

theorem changeSlot {k : Fin 16} {f : FrameSlot → FrameSlot} :
    Beside n gone words t₀ (s.changeSlot m k f) (t.changeSlot m k f) := by
  unfold Part.changeSlot
  simp only [h.slot]
  have hset : Beside n gone words t₀ (s.modSlot m k fun _ => f (s.slot m k)) (t.modSlot m k fun _ => f (s.slot m k)) :=
    h.modBuc
  have hstatus := ite (c := (f (s.slot m k)).statusWord = (s.slot m k).statusWord) hset
    (hset.writeSlotStatus (m := m) (k := k))
  exact ite hstatus hstatus.writeSlotNacks

theorem endFrameLoad {cause : EndCause} :
    Beside n gone words t₀ (s.endFrameLoad m cause) (t.endFrameLoad m cause) := by
  unfold Part.endFrameLoad
  rw [h.buc]
  split
  · exact h
  · cases cause with
    | deadline => exact h.modBuc.keepReport
    | stop => exact h.modBuc.keepReport.changeSlot

theorem endCheckFrame : Beside n gone words t₀ (s.endCheckFrame m) (t.endCheckFrame m) := by
  unfold Part.endCheckFrame
  rw [h.buc]
  split
  exacts [h, h.modBuc.keepReport]

theorem stopBus : Beside n gone words t₀ (s.stopBus m) (t.stopBus m) := by
  have hkept (w : Option LoadWait) : Beside n gone words t₀
      (match w with | some w => s.keepReport m w.results | none => s)
      (match w with | some w => t.keepReport m w.results | none => t) := by
    cases w
    exacts [h, h.keepReport]
  unfold Part.stopBus
  rw [h.buc]
  have hchecked := (hkept (s.buc.get m).loadWait).endCheckFrame (m := m)
  exact (hchecked.track hchecked.modBuc).foldl fun _ h => h.writeSlotStatus.writeSlotNacks

/-! ### Gauges, lamps and pulse inputs -/

theorem endGaugeCheck : Beside n gone words t₀ (s.endGaugeCheck m) (t.endGaugeCheck m) := by
  unfold Part.endGaugeCheck
  simp only [Part.gauge, h.gmn]
  split
  exacts [h, h.modGmn.keepReport]

theorem freezeMonitor : Beside n gone words t₀ (s.freezeMonitor m) (t.freezeMonitor m) := h.modGmn.endGaugeCheck

theorem endLampWatch : Beside n gone words t₀ (s.endLampWatch m) (t.endLampWatch m) := by
  unfold Part.endLampWatch
  rw [h.lpc]
  split
  exacts [h, h.modLpc.keepReport]

theorem endCapture : Beside n gone words t₀ (s.endCapture m) (t.endCapture m) := by
  unfold Part.endCapture
  simp only [Part.input, h.lpc]
  split
  exacts [h, h.modLpc.keepReport]

theorem lpcDeparts : Beside n gone words t₀ (s.lpcDeparts m) (t.lpcDeparts m) := h.endLampWatch.endCapture

end Beside

end Part

end Sys2Proof.Machine
end

section
/-! The converter, the fixture controller and the panel, side by side with a part whose nest has a fault recorded or a
step retired; and what powering a nest off leaves of the supplies. -/

namespace Sys2Proof.Machine

namespace Part

variable {n m : NestId} {gone : Bool} {words : List Nat} {s₀ t₀ s t : Part}

namespace Beside

/-! ### The converter -/

section
variable (h : Beside n gone words t₀ s t)
include h

theorem setMeasurement {x : Option Measurement} (hm : m = n → x = none) :
    Beside n gone words t₀ (s.setMeasurement m x) (t.setMeasurement m x) := by
  refine h.modPcv fun c => congrArg (fun b => { c with records := b }) (Bank.ext_get fun j => ?_)
  simp only [Bank.get_put]
  split
  · next e =>
    subst e
    split
    · next e => exact (hm e.symm)
    · rfl
  · rfl

theorem grantConverter {q : W16} (hm : gone = true → m ≠ n) :
    Beside n gone words t₀ (s.grantConverter m q) (t.grantConverter m q) := by
  unfold Part.grantConverter
  rw [h.measurement hm]
  split
  · unfold Part.beginPoint
    rw [h.dueIn]
    exact (h.modPcv fun _ => rfl).modPcv fun _ => rfl
  · exact h

theorem keepMeasurement : Beside n gone words t₀ (s.keepMeasurement m) (t.keepMeasurement m) := by
  unfold Part.keepMeasurement
  by_cases hg : gone = true ∧ m = n
  · obtain ⟨rfl, rfl⟩ := hg
    have ht : t.measurement m = none := by
      unfold Part.measurement
      rw [h.same]
      simp [without]
    rw [ht]
    split
    exacts [h.keepReport_left rfl, h]
  · rw [h.measurement fun hg' e => hg ⟨hg', e⟩]
    split
    exacts [h.keepReport, h]

theorem grantHead {q : List (NestId × W16)} (hq : gone = true → ∀ e ∈ q, e.1 ≠ n) :
    Beside n gone words t₀ (s.grantHead q) (t.grantHead q) := by
  induction q generalizing s t with
  | nil => exact h.modPcv fun _ => rfl
  | cons e q ih =>
    have he (hg : gone = true) : e.1 ≠ n := hq hg e (.head _)
    simp only [Part.grantHead, h.powered]
    exact ite ((h.modPcv fun _ => rfl).grantConverter he).holdEnd
      (ih h.keepMeasurement fun hg x hx => hq hg x (.tail _ hx))

theorem releaseConverter (hq : ∀ e ∈ s.pcv.queue, e.1 ≠ n) :
    Beside n gone words t₀ s.releaseConverter t.releaseConverter := by
  have hopen : Beside n gone words t₀ (s.openRoute.modPcv fun c => { c with grant := none })
      (t.openRoute.modPcv fun c => { c with grant := none }) := (h.modPcv fun _ => rfl).modPcv fun _ => rfl
  unfold Part.releaseConverter
  simp only [hopen.queue]
  exact hopen.grantHead fun _ => hq

theorem endMeasurement (hq : ∀ e ∈ s.pcv.queue, e.1 ≠ n) :
    Beside n gone words t₀ (s.endMeasurement m) (t.endMeasurement m) := by
  unfold Part.endMeasurement Part.holdsConverter
  rw [h.grant]
  have hpcv : ((s.keepMeasurement m).setMeasurement m none).pcv.queue = s.pcv.queue := by
    unfold Part.keepMeasurement Part.setMeasurement
    split <;> simp
  exact ite ((h.keepMeasurement.setMeasurement fun _ => rfl).releaseConverter (by rwa [hpcv])) h

theorem withdrawMeasurement : Beside n gone words t₀ (s.withdrawMeasurement m) (t.withdrawMeasurement m) := by
  unfold Part.withdrawMeasurement
  rw [h.queue]
  exact ite (h.keepMeasurement.modPcv fun _ => rfl) h

theorem stopMeasurement : Beside n gone words t₀ (s.stopMeasurement n) (t.stopMeasurement n) := by
  refine h.withdrawMeasurement.endMeasurement fun e he => ?_
  unfold Part.withdrawMeasurement at he
  split at he
  · simpa using (List.mem_filter.1 he).2
  · next hany => exact fun hn => hany (List.any_eq_true.2 ⟨e, he, by simpa using hn⟩)

/-! ### The supply -/

theorem openSwitch : Beside n gone words t₀ (s.openSwitch m) (t.openSwitch m) := by
  unfold Part.openSwitch
  rw [h.dueInMs]
  refine (h.modFxc (fun _ _ _ => rfl) fun hg hs => h.apart hg ?_).publish fun _ _ hp => nomatch hp
  rw [modFxc_fxc, Bank.get_modify] at hs
  split at hs <;> exact hs

/-- The supply switch of another nest closes, or that of a nest without a further entry. -/
theorem closeSwitch {e : PowerEntry} (he : gone = true → e.nest ≠ n)
    (hq : gone = true ∨ t₀.PowerApart n → ∀ x ∈ s.powerQueue, x.nest ≠ n) :
    Beside n gone words t₀ (s.closeSwitch e) (t.closeSwitch e) := by
  unfold Part.closeSwitch
  rw [h.word (i := criteriaAt e.criteria.toNat) (by unfold criteriaAt; omega), h.timebase, h.dueInMs]
  exact (h.modFxc (fun hg hm => absurd hm (he hg)) fun hg _ => hq hg).publish fun hg _ _ => hq hg

theorem leavePowered : Beside n gone words t₀ (s.leavePowered n) (t.leavePowered n) :=
  h.enforceIdle.stopBus.freezeMonitor.lpcDeparts.stopMeasurement

/-- A head of the power queue that is not the nest's is granted alike. -/
theorem grantPower (hq : gone = true ∨ t₀.PowerApart n → ∀ e ∈ s.powerQueue, e.nest ≠ n) :
    Beside n gone words t₀ s.grantPower t.grantPower := by
  unfold Part.grantPower
  rw [h.powerQueue]
  split
  · exact h
  · next e q he =>
    have hrest : Beside n gone words t₀ { s with powerQueue := q } { t with powerQueue := q } :=
      h.withPowerQueue fun x hx => by simp [he, hx]
    have hnest (hg : gone = true ∨ t₀.PowerApart n) : ∀ x ∈ e :: q, x.nest ≠ n := he ▸ hq hg
    exact (hrest.closeSwitch (fun hg => hnest (.inl hg) e (.head _))
      fun hg x hx => hnest hg x (.tail _ hx)).holdEnd

end

end Beside

/-- From part `s` to part `t` neither the fixtures nor the power queue have changed. -/
structure SupplyKept (s t : Part) : Prop where
  fxc : t.fxc = s.fxc
  powerQueue : t.powerQueue = s.powerQueue

namespace SupplyKept

theorem refl (s : Part) : SupplyKept s s := ⟨rfl, rfl⟩

theorem ite {c : Prop} [Decidable c] {a b : Part} (ha : SupplyKept s a) (hb : SupplyKept s b) :
    SupplyKept s (if c then a else b) := by split <;> assumption

variable (h : SupplyKept s t)
include h

theorem of_same {u : Part} (hf : u.fxc = t.fxc) (hq : u.powerQueue = t.powerQueue) : SupplyKept s u :=
  ⟨hf.trans h.fxc, hq.trans h.powerQueue⟩

theorem keepReport {r : Results} : SupplyKept s (t.keepReport m r) := h.of_same (by simp) (by simp)
theorem holdEnd : SupplyKept s (t.holdEnd m) := h.of_same (by simp) (by simp)
theorem modStu {f : Stimulus → Stimulus} : SupplyKept s (t.modStu m f) := h.of_same rfl rfl
theorem modBuc {f : Bus → Bus} : SupplyKept s (t.modBuc m f) := h.of_same rfl rfl
theorem modGmn {f : Gauges → Gauges} : SupplyKept s (t.modGmn m f) := h.of_same rfl rfl
theorem modLpc {f : Watcher → Watcher} : SupplyKept s (t.modLpc m f) := h.of_same rfl rfl
theorem modPcv {f : Converter → Converter} : SupplyKept s (t.modPcv f) := h.of_same rfl rfl
theorem send {x : Notice} : SupplyKept s (t.send x) := h.of_same rfl rfl

omit h in
theorem track {f : Part → Part} (hf : SupplyKept s (f t)) : SupplyKept s (t.track m f) :=
  hf.of_same (by simp) (by simp)

theorem foldl {α : Type} {f : Part → α → Part} {l : List α}
    (hf : ∀ (u : Part) (x : α), (f u x).fxc = u.fxc ∧ (f u x).powerQueue = u.powerQueue) :
    SupplyKept s (l.foldl f t) := by
  induction l generalizing t with
  | nil => exact h
  | cons x l ih => exact ih (h.of_same (hf t x).1 (hf t x).2)

theorem enforceIdle : SupplyKept s (t.enforceIdle m) := by
  have hkept : SupplyKept s (match (t.stu.get m).heldResults with
      | some r => t.keepReport m r
      | none => t) := by
    split
    exacts [h.keepReport, h]
  exact ite hkept.modStu hkept.modStu.send

theorem endCheckFrame : SupplyKept s (t.endCheckFrame m) := by
  unfold Part.endCheckFrame
  split
  exacts [h, h.modBuc.keepReport]

theorem stopBus : SupplyKept s (t.stopBus m) := by
  have hkept : SupplyKept s (match (t.buc.get m).loadWait with
      | some w => t.keepReport m w.results
      | none => t) := by
    split
    exacts [h.keepReport, h]
  exact (track hkept.endCheckFrame.modBuc).foldl fun _ _ => ⟨rfl, rfl⟩

theorem freezeMonitor : SupplyKept s (t.freezeMonitor m) := by
  unfold Part.freezeMonitor Part.endGaugeCheck
  split
  exacts [h.modGmn, h.modGmn.modGmn.keepReport]

theorem lpcDeparts : SupplyKept s (t.lpcDeparts m) := by
  have hwatch : SupplyKept s (t.endLampWatch m) := by
    unfold Part.endLampWatch
    split
    exacts [h, h.modLpc.keepReport]
  unfold Part.lpcDeparts Part.endCapture
  split
  exacts [hwatch, hwatch.modLpc.keepReport]

theorem keepMeasurement : SupplyKept s (t.keepMeasurement m) := by
  unfold Part.keepMeasurement
  split
  exacts [h.keepReport, h]

theorem grantHead {q : List (NestId × W16)} : SupplyKept s (t.grantHead q) := by
  induction q generalizing t with
  | nil => exact h.modPcv
  | cons e q ih =>
    refine ite (holdEnd ?_) (ih h.keepMeasurement)
    unfold Part.grantConverter
    split
    exacts [h.of_same rfl rfl, h.modPcv]

theorem stopMeasurement : SupplyKept s (t.stopMeasurement m) := by
  have hwithdrawn : SupplyKept s (t.withdrawMeasurement m) := ite h.keepMeasurement.modPcv h
  exact ite (hwithdrawn.keepMeasurement.modPcv.modPcv.modPcv).grantHead hwithdrawn

theorem leavePowered : SupplyKept s (t.leavePowered m) :=
  h.enforceIdle.stopBus.freezeMonitor.lpcDeparts.stopMeasurement

end SupplyKept

theorem closeSwitch_fxc_other {e : PowerEntry} (he : e.nest ≠ n) (s : Part) :
    ((s.closeSwitch e).fxc.get n) = s.fxc.get n := by
  simp [Part.closeSwitch, he]

/-- A nest without an entry in the power queue is cut off for good by its discharge (R60). -/
theorem beginDischarge_unsupplied (hs : s.PowerApart n) : ((s.beginDischarge n).fxc.get n).state = .discharging := by
  have hopen : ((s.openSwitch n).fxc.get n).state = .discharging := by simp [Part.openSwitch]
  have hqueue : (s.openSwitch n).powerQueue = s.powerQueue := by simp [Part.openSwitch]
  have hleft := (SupplyKept.refl (s.openSwitch n)).leavePowered (m := n)
  unfold Part.beginDischarge
  simp only
  split
  · next hp =>
    unfold Part.grantPower
    rw [hleft.powerQueue, hqueue]
    split
    · rw [hleft.fxc, hopen]
    · next e q he =>
      have hne : e.nest ≠ n := hs hp e (by simp [he])
      rw [holdEnd_fxc, closeSwitch_fxc_other hne]
      simp only [hleft.fxc, hopen]
  · rw [hleft.fxc, hopen]

/-- A power-off request leaves the nest without supply (R68). -/
theorem requestPowerOff_unsupplied (hs : s.PowerApart n) : ((s.requestPowerOff n).fxc.get n).state.supplied = false := by
  unfold Part.requestPowerOff
  split
  · rw [beginDischarge_unsupplied hs]
    rfl
  · next h => simpa using h

namespace Beside

section
variable (h : Beside n gone words t₀ s t)
include h

theorem beginDischarge : Beside n gone words t₀ (s.beginDischarge n) (t.beginDischarge n) := by
  unfold Part.beginDischarge
  simp only [h.fixtureState]
  split
  · next hp =>
    refine h.openSwitch.leavePowered.grantPower fun hg e he => h.apart hg hp e ?_
    rw [((SupplyKept.refl _).leavePowered).powerQueue] at he
    simpa [Part.openSwitch] using he
  · exact h.openSwitch.leavePowered

theorem requestPowerOff : Beside n gone words t₀ (s.requestPowerOff n) (t.requestPowerOff n) := by
  unfold Part.requestPowerOff
  rw [h.fixtureState]
  exact ite h.beginDischarge h

end

/-! ### Ending a fixture step -/

section
variable (h : Beside n false words t₀ s t)
include h

theorem fixture : t.fxc.get m = s.fxc.get m := h.fxc nofun

theorem powerEntry : t.powerEntry m = s.powerEntry m := by rw [Part.powerEntry, h.powerQueue, Part.powerEntry]

theorem modFxc_of_state {f : Fixture → Fixture} (hf : ∀ x, (f x).state = x.state) :
    Beside n false words t₀ (s.modFxc m f) (t.modFxc m f) := by
  refine h.modFxc nofun fun hg hs => h.apart hg ?_
  rw [modFxc_fxc, Bank.get_modify] at hs
  split at hs
  · rwa [hf] at hs
  · exact hs

theorem fixHeldTime {e : PowerEntry} : Beside n false words t₀ (s.fixHeldTime e) (t.fixHeldTime e) := by
  unfold Part.fixHeldTime
  rw [h.timebase]
  exact h.modFxc_of_state fun _ => rfl

theorem withdrawPower : Beside n false words t₀ (s.withdrawPower m) (t.withdrawPower m) := by
  unfold Part.withdrawPower
  rw [h.powerEntry]
  split
  · exact h
  · rw [h.powerQueue]
    exact (h.withPowerQueue fun e he => (List.mem_filter.1 he).1).fixHeldTime

theorem powerOnResults : t.powerOnResults m = s.powerOnResults m := by
  rw [Part.powerOnResults, h.fixture, Part.powerOnResults]

theorem endPowerOn {cause : EndCause} : Beside n false words t₀ (s.endPowerOn n cause) (t.endPowerOn n cause) := by
  have hwithdrawn := h.withdrawPower (m := n)
  unfold Part.endPowerOn Part.endPowering
  simp only [hwithdrawn.fixtureState]
  have hended := ite (c := cause = .deadline)
    (ite (c := ((s.withdrawPower n).fxc.get n).state = .powering) hwithdrawn.beginDischarge hwithdrawn) hwithdrawn
  rw [hended.fixture, hended.powerOnResults]
  exact ite hended.keepReport hended

theorem endFixtureStep {k : Kind} {cause : EndCause} :
    Beside n false words t₀ (s.endFixtureStep n k cause) (t.endFixtureStep n k cause) := by
  have hfreed : Beside n false words t₀ (s.modFxc n fun f => { f with heldStep := false })
      (t.modFxc n fun f => { f with heldStep := false }) := h.modFxc_of_state fun _ => rfl
  unfold Part.endFixtureStep
  simp only [Part.clampResults, Part.contactResults, hfreed.fixture]
  split
  exacts [hfreed.keepReport, hfreed.keepReport, hfreed.keepReport, hfreed.endPowerOn, hfreed]

/-! ### The panel -/

theorem headEntry : t.headEntry = s.headEntry := by rw [Part.headEntry, h.opc, Part.headEntry]
theorem promptEntry : t.promptEntry m = s.promptEntry m := by rw [Part.promptEntry, h.opc, Part.promptEntry]

theorem startTransfer {kind : Link} {first : Byte} {rest : List Byte} :
    Beside n false words t₀ (s.startTransfer kind first rest) (t.startTransfer kind first rest) := by
  unfold Part.startTransfer
  rw [h.dueIn]
  exact h.modOpc

theorem loadText {c : TextCursor} : Beside n false words t₀ (s.loadText c) (t.loadText c) := by
  have hbyte : t.mem.byte (textByteAt c.text.toNat c.loaded) = s.mem.byte (textByteAt c.text.toNat c.loaded) := by
    refine h.stores _ fun hw => ?_
    have := h.low _ hw
    unfold textByteAt at this
    omega
  unfold Part.loadText
  rw [hbyte]
  exact ite h.modOpc h.modOpc

theorem startText {e : PromptEntry} : Beside n false words t₀ (s.startText e) (t.startText e) :=
  h.startTransfer.modOpc.loadText.modOpc.holdEnd

theorem linkStart : Beside n false words t₀ s.linkStart t.linkStart := by
  have hclear : Beside n false words t₀
      (if s.opc.clearPending then
        (s.startTransfer .clear clearByte []).modOpc fun o => { o with clearPending := false } else s)
      (if s.opc.clearPending then
        (t.startTransfer .clear clearByte []).modOpc fun o => { o with clearPending := false } else t) :=
    ite h.startTransfer.modOpc h
  unfold Part.linkStart
  simp only [h.opc, h.headEntry]
  refine ite h (ite ?_ ?_)
  · split
    exacts [h.startTransfer.modOpc, h]
  · split
    exacts [ite h.startText hclear, hclear]

theorem abandonReplay : Beside n false words t₀ (s.abandonReplay m) (t.abandonReplay m) where
  __ := h.endReplay (m := m)
  same := congrArg (Part.markLate (Notice.isReplayReportOf m)) h.endReplay.same

theorem removeEntry : Beside n false words t₀ (s.removeEntry m) (t.removeEntry m) := by
  have hremoved : Beside n false words t₀
      (s.modOpc fun o => { o with prompts := o.prompts.filter fun e => e.nest ≠ m })
      (t.modOpc fun o => { o with prompts := o.prompts.filter fun e => e.nest ≠ m }) := h.modOpc
  unfold Part.removeEntry
  rw [h.headEntry]
  extract_lets wasHead
  cases wasHead with
  | none => exact hremoved
  | some e =>
    refine (modOpc ?_).linkStart
    cases e.state
    case sending => exact hremoved.modOpc
    case replaying => exact hremoved.abandonReplay
    all_goals exact hremoved

theorem withdrawPrompt : Beside n false words t₀ (s.withdrawPrompt m) (t.withdrawPrompt m) := by
  unfold Part.withdrawPrompt Part.keepUnanswered
  rw [h.promptEntry, h.timebase]
  split
  exacts [h, h.keepReport.removeEntry]

/-! ### The owner of the step in execution -/

/-- The owner stops the step alike, for it reads nothing that has changed. -/
theorem stopOwner {cause : EndCause} (hstep : (t₀.nsq.get n).step = (s.nsq.get n).step)
    (hback : (t₀.nsq.get n).unhanded = (s.nsq.get n).unhanded) :
    Beside n false words t₀ (s.stopOwner n cause) (t.stopOwner n cause) := by
  have hs : (t.nsq.get n).step = (s.nsq.get n).step := by rw [h.sequencer]; exact hstep
  have hb (k : Kind) : t.keptBack n k = s.keptBack n k := by
    rw [Part.keptBack, h.sequencer, Part.keptBack]
    exact congrArg _ hback
  unfold Part.stopOwner
  simp only [hs, hb]
  split
  · exact h
  · split
    · exact h
    · next k _ =>
      refine ite h ?_
      cases k with
      | clamp | contact | powerOn | powerOff | unclamp => exact h.endFixtureStep
      | setPulse => dsimp only; split; exacts [h.stopBurst, h]
      | setSender => dsimp only; split; exacts [h.stopSenderSettle, h]
      | frameLoad => exact h.endFrameLoad
      | checkFrame => exact h.endCheckFrame
      | checkGauge => exact h.endGaugeCheck
      | checkLamps => exact h.endLampWatch
      | checkFreq => exact h.endCapture
      | measure => exact h.stopMeasurement
      | prompt => exact h.withdrawPrompt
      | unitBegin | unitEnd | wait | setLines | frameRun | captureArm | gaugeZero => exact h

end

end Beside

end Part

end Sys2Proof.Machine
end

section
/-! The timers of the sequencer: the wait timer and the deadline timer retire the step in execution. -/

namespace Sys2Proof.Machine

/-- A single command whose meaning is `f` on the part. -/
theorem runs_single {c : Instr} {f : Part → Part} (h : ∀ s, exec c s = s.act f) (s : Part) : s.runs [c] = f s := by
  rw [runs_cons h, runs_nil]

namespace Part

variable {n : NestId} {s t p : Part} {st : Step} {v : Verdict} {d : Detail} {r : Results}

/-! ### The owner's stop, as the claims state it -/

theorem runs_powerOffRequest (n : NestId) (s : Part) : s.runs [.powerOffRequest n] = s.requestPowerOff n :=
  runs_single (f := (·.requestPowerOff n)) (fun _ => rfl) s

/-- An owner that ends its step by one command of meaning `f`. -/
theorem runs_stopCommand {cause : EndCause} {c : Instr} {f : Part → Part} (hc : stopCommands n st cause = [c])
    (h : ∀ s, exec c s = s.act f) (s : Part) : f s = s.runs (stopCommands n st cause) := by
  rw [hc, runs_single h]

/-- What the owner of the step in execution does for the NSQ, by the step's kind. -/
theorem stopOwner_eq (h : (s.nsq.get n).step = some st) (cause : EndCause) :
    s.stopOwner n cause = s.ownerStopped n st cause := by
  unfold stopOwner
  simp only [h]
  unfold ownerStopped
  cases hk : st.kind with
  | none => simp [stopCommands, hk]
  | some k =>
    simp only [Option.any_some]
    split
    · rfl
    · cases k with
      | clamp | contact | unclamp =>
        simp [endFixtureStep, keepReport, modFxc, modNsq, Bank.modify, clampResults, contactResults]
      | powerOff => rfl
      | powerOn =>
        exact runs_stopCommand (c := .powerQueueWithdrawal n cause) (f := (·.endPowerOn n cause)) (by rw [stopCommands, hk]) (fun _ => rfl) _
      | setPulse =>
        simp only [stopCommands, hk]
        cases indexBelow 4 (field (st.w 2) 0 8 : Byte) with
        | none => rfl
        | some c => exact (runs_single (f := (·.stopBurst n c)) (fun _ => rfl) s).symm
      | setSender =>
        simp only [stopCommands, hk]
        cases indexBelow 2 (field (st.w 2) 0 8 : Byte) with
        | none => rfl
        | some e => exact (runs_single (f := (·.stopSenderSettle n e)) (fun _ => rfl) s).symm
      | frameLoad =>
        exact runs_stopCommand (c := .frameLoadStopRequest n cause) (f := (·.endFrameLoad n cause)) (by rw [stopCommands, hk]) (fun _ => rfl) s
      | checkFrame =>
        exact runs_stopCommand (c := .checkFrameEndRequest n) (f := (·.endCheckFrame n)) (by rw [stopCommands, hk]) (fun _ => rfl) s
      | checkGauge =>
        exact runs_stopCommand (c := .settleWatchEndRequest n) (f := (·.endGaugeCheck n)) (by rw [stopCommands, hk]) (fun _ => rfl) s
      | checkLamps =>
        exact runs_stopCommand (c := .lampWatchEndRequest n) (f := (·.endLampWatch n)) (by rw [stopCommands, hk]) (fun _ => rfl) s
      | checkFreq =>
        exact runs_stopCommand (c := .captureEndRequest n) (f := (·.endCapture n)) (by rw [stopCommands, hk]) (fun _ => rfl) s
      | measure =>
        simp only [stopCommands, hk]
        rw [runs_cons (f := (·.withdrawMeasurement n)) (fun _ => rfl),
          runs_single (f := (·.endMeasurement n)) (fun _ => rfl)]
        rfl
      | prompt =>
        exact runs_stopCommand (c := .promptWithdrawal n) (f := (·.withdrawPrompt n)) (by rw [stopCommands, hk]) (fun _ => rfl) s
      | unitBegin | unitEnd | wait | setLines | frameRun | captureArm | gaugeZero => simp [stopCommands, hk]

/-- What the owner's stop leaves of the nest's sequencer, words and faults. -/
theorem stopOwner_beside (n : NestId) (cause : EndCause) (s : Part) :
    Beside n false [nestAt n 7] s (s.stopOwner n cause) (s.stopOwner n cause) :=
  (Beside.refl s (by simp) fun i hi => by
    rw [List.mem_singleton.1 hi]
    unfold nestAt
    omega).stopOwner rfl rfl

theorem stopOwner_timebase (n : NestId) (cause : EndCause) (s : Part) : (s.stopOwner n cause).timebase = s.timebase := by
  unfold timebase now
  rw [(stopOwner_beside n cause s).ticks]

/-- The step that its owner has stopped is the last posted one still. -/
theorem LastStep.stopOwner (h : s.LastStep n st) (cause : EndCause) : (s.stopOwner n cause).LastStep n st := by
  obtain ⟨hst, hslot, hlim⟩ := h
  unfold LastStep
  rw [(stopOwner_beside n cause s).sequencer]
  exact ⟨hst, hslot, hlim⟩

/-! ### What the end of a step changes -/

theorem AtNest.butForTheStep {words : List Nat} {slot : W16} (h : AtNest n words s t) (hw : ∀ i ∈ words, i ∈ nestWords n)
    (g : t.ButForTheStep n slot p) : s.ButForTheStep n slot p := by
  obtain ⟨hsame, hnsq, hlamps, hsets, hstores⟩ := g
  have e := h.same
  refine ⟨?_, h.others.trans hnsq, ?_, ?_, (h.stores.mono ?_).trans hstores⟩
  · rw [e] at hsame
    exact hsame
  · rw [e] at hlamps
    exact hlamps
  · rw [e] at hsets
    exact hsets
  · exact fun i hi => List.mem_append_left _ (List.mem_append_right _ (hw i hi))

/-- The faults that the end of a step leaves, and the factor it sets (R45). -/
theorem ended_faults (h : (s.nsq.get n).step = some st) :
    (s.ended n v d r).firstFault = s.firstFault ∧ s.SetsOnly [factorNotify n] (s.ended n v d r) := by
  have hsame := ended_same h v d r
  refine ⟨by rw [hsame], fun i hi => ?_⟩
  have hne : factorNotify n ≠ i := fun e => hi (e ▸ .head _)
  rw [hsame]
  dsimp only
  split
  · rw [getLsbD_setFlag]; simp [hne]
  · rfl

/-- All that the end of the step in execution shows, with no step posted beyond it (R10, R14, R45). -/
theorem ended_closes (h : (s.nsq.get n).step = some st) :
    s.Retires n st v d r (s.ended n v d r) ∧ ((s.ended n v d r).nsq.get n).state = .waiting ∧
      ((s.ended n v d r).nsq.get n).hold = .none ∧ s.ButForTheStep n st.slot (s.ended n v d r) ∧
      (s.ended n v d r).opc = s.opc ∧ (s.ended n v d r).firstFault = s.firstFault ∧
      s.SetsOnly [factorNotify n] (s.ended n v d r) := by
  obtain ⟨hbut, hopc⟩ := ended_butForTheStep (v := v) (d := d) (r := r) h
  obtain ⟨hff, hsets⟩ := ended_faults (v := v) (d := d) (r := r) h
  exact ⟨retires_ended h v d r, by simp [ended_nsq h], by simp [ended_nsq h], hbut, hopc, hff, hsets⟩

/-- The same of a part whose sequencer alone has changed before. -/
theorem AtNest.ended_closes (h : AtNest n [nestAt n 7] s t) (hst : (t.nsq.get n).step = some st) :
    s.Retires n st v d r (t.ended n v d r) ∧ ((t.ended n v d r).nsq.get n).state = .waiting ∧
      ((t.ended n v d r).nsq.get n).hold = .none ∧ s.ButForTheStep n st.slot (t.ended n v d r) ∧
      (t.ended n v d r).opc = s.opc ∧ (t.ended n v d r).firstFault = s.firstFault ∧
      s.SetsOnly [factorNotify n] (t.ended n v d r) := by
  obtain ⟨hret, hstate, hhold, hbut, hopc, hff, hsets⟩ := Part.ended_closes (v := v) (d := d) (r := r) hst
  have hfactor : t.factor = s.factor := congrArg (·.factor) h.same
  exact ⟨hret.of_start h.timebase, hstate, hhold, h.butForTheStep (fun i hi => by rw [List.mem_singleton.1 hi]; exact mem_nestWords (by decide)) hbut,
    hopc.trans (congrArg (·.opc) h.same), hff.trans (congrArg (·.firstFault) h.same),
    fun i hi => (hsets i hi).trans (by rw [hfactor])⟩

/-! ### Outcomes already sent -/

theorem outcomeAmong_isSome {messages : List Notice} (hs : (s.nsq.get n).step = some st) :
    (s.outcomeAmong n messages).isSome = true ↔
      ∃ o, .ownerOutcome o ∈ messages ∧ o.nest = n ∧ o.sequence = st.sequence := by
  unfold outcomeAmong
  rw [List.isSome_findSome?]
  constructor
  · rintro h
    obtain ⟨m, hm, hx⟩ := List.any_eq_true.1 h
    cases m with
    | ownerOutcome o =>
      simp only [Nsq.sequence, hs] at hx
      split at hx
      · next hc => exact ⟨o, hm, hc.1, by simpa using hc.2.symm⟩
      · cases hx
    | _ => cases hx
  · rintro ⟨o, hm, hn, hq⟩
    exact List.any_eq_true.2 ⟨_, hm, by simp [Nsq.sequence, hs, hn, hq]⟩

theorem waitingOutcome_uncompleted (hs : (s.nsq.get n).step = some st) (h : Uncompleted s.sent n st) :
    (s.waitingOutcome n).isSome = false :=
  Bool.eq_false_iff.2 fun hx => by
    obtain ⟨o, hm, hn, hq⟩ := (outcomeAmong_isSome hs).1 hx
    exact h o hm hn hq

theorem waitingOutcome_completed {o : OwnerOutcome} (hs : (s.nsq.get n).step = some st)
    (h : Completed s.sent n st o) : (s.waitingOutcome n).isSome = true := by
  obtain ⟨hm, hn, hq, -⟩ := h
  exact (outcomeAmong_isSome hs).2 ⟨o, hm, hn, hq⟩

/-- An outcome that arrives as the oldest message is taken. -/
theorem exec_outcomeFirst (s : State) (o : OwnerOutcome) :
    exec (.ownerOutcome o) { s with part := s.part.outcomeFirst o } = s.act (·.takeOutcome o) :=
  congrArg (fun p => Host.Outcome.next (⟨p, s.pending⟩ : State)) (receive_outcomeFirst s.part o (·.takeOutcome o))

/-! ### The deadline -/

theorem deadlineVerdict_eq (k : Kind) : deadlineVerdict (some k) =
    if k = .checkGauge then (.timeout, .notSettled)
    else if k = .checkFreq then (.timeout, .noEdges)
    else if k = .checkFrame then (.timeout, .noMatch)
    else if k = .checkLamps then (.fail, .mismatch) else (.timeout, .deadline) := by
  cases k <;> rfl

/-- The part once the step's owner has ended it at the deadline, and no hold is left. -/
def unheldAtDeadline (n : NestId) (s : Part) : Part :=
  (s.stopOwner n .deadline).track n fun s => s.modNsq n fun q => { q with hold := .none }

theorem atNest_unheldAtDeadline (n : NestId) (s : Part) :
    AtNest n [nestAt n 7] (s.stopOwner n .deadline) (s.unheldAtDeadline n) := AtNest.refl.modNsq.track (by simp)

theorem unheldAtDeadline_nsq (n : NestId) (s : Part) :
    (s.unheldAtDeadline n).nsq = (s.stopOwner n .deadline).nsq.modify n fun q => { q with hold := .none } := by
  simp [unheldAtDeadline]

theorem unheldAtDeadline_lastStep (h : s.LastStep n st) : (s.unheldAtDeadline n).LastStep n st := by
  unfold LastStep
  rw [unheldAtDeadline_nsq, Bank.get_modify_same]
  exact h.stopOwner .deadline

/-- An expiry of a deadline timer that does not run or is not due is discarded (R32, R35). -/
theorem deadlineExpires_notDue (h : ¬ s.Due (s.nsq.get n).deadline) : s.deadlineExpires n = s := by
  have hexp := mt (expired_iff s _).1 h
  unfold deadlineExpires
  split
  · rfl
  · exact if_pos (by simpa using hexp)

/-- The expiry of the deadline timer of a step without an outcome on its way (R33, R34). -/
theorem deadlineExpires_uncompleted (h : s.LastStep n st) (hdue : s.Due (s.nsq.get n).deadline)
    (hu : Uncompleted s.sent n st) : s.deadlineExpires n =
      let v := if (s.nsq.get n).state = .held then (.timeout, .deadline) else deadlineVerdict st.kind
      (s.unheldAtDeadline n).ended n v.1 v.2 ((s.stopOwner n .deadline).leftFor n) := by
  have hreport : (s.unheldAtDeadline n).reported n = (s.stopOwner n .deadline).leftFor n := by
    rw [reported, unheldAtDeadline_nsq, Bank.get_modify_same, leftFor]
  unfold deadlineExpires
  rw [(expired_iff s _).2 hdue, waitingOutcome_uncompleted h.1 hu, h.1]
  simp only [Bool.not_true, Bool.false_eq_true, if_false, decide_eq_true_eq, ← hreport]
  exact finish_last (unheldAtDeadline_lastStep h) _ _ _

theorem deadlineExpires_completed {o : OwnerOutcome} (h : (s.nsq.get n).step = some st)
    (hdue : s.Due (s.nsq.get n).deadline) (hc : Completed s.sent n st o) : s.deadlineExpires n = s.takeOutcome o := by
  unfold deadlineExpires
  rw [(expired_iff s _).2 hdue, waitingOutcome_completed h hc, h]
  exact takeEarlier_completed h hc

end Part

/-- Settles O16: the wait timer and the deadline timer, each due and not. -/
theorem timersRetireTheStep : Obligations.TimersRetireTheStep := by
  refine ⟨fun st => ?_, fun n s => ⟨fun hw => ?_, fun hd => ?_⟩, fun n st s hlast hk hdue => ?_,
    fun n st k s hlast hk hdue => ?_⟩
  · intro ms
    have hms : ms < 2 ^ 16 := (field (st.w 1) 16 16 : W16).isLt
    have heq : st.deadlineMs = if ms = 0 then 30000 else ms := rfl
    refine ⟨heq, ?_⟩
    rw [heq]
    split <;> omega
  · have hw' := mt (Part.expired_iff s.part _).1 hw
    exact congrArg (fun p => Host.Outcome.next (⟨p, s.pending⟩ : State)) (if_neg fun h => hw' h.1)
  · exact congrArg (fun p => Host.Outcome.next (⟨p, s.pending⟩ : State)) (Part.deadlineExpires_notDue hd)
  · refine answers_of_act (f := (·.waitExpires n)) rfl ?_
    have hst := hlast.1
    have hwait : s.part.executing n .wait = true := by simp [Part.executing, hst, Step.isKind, hk]
    have hexp := (Part.expired_iff s.part _).2 hdue
    rw [Part.waitExpires, if_pos ⟨hexp, hwait⟩, Part.finish_last hlast]
    obtain ⟨hret, hstate, -, hbut, hopc, hff, hsets⟩ :=
      Part.ended_closes (v := .pass) (d := .none) (r := .zero) hst
    exact ⟨hret, hstate, hbut, hopc, hff, hsets⟩
  · intro v t
    have hst := hlast.1
    have ht : t = s.part.stopOwner n .deadline := (Part.stopOwner_eq hst .deadline).symm
    refine ⟨fun hu => answers_of_act (f := (·.deadlineExpires n)) rfl ?_, fun o hc => ?_⟩
    · rw [Part.deadlineExpires_uncompleted hlast hdue hu, hk, Part.deadlineVerdict_eq, ht]
      obtain ⟨hret, hstate, hhold, hbut, hopc, hff, hsets⟩ :=
        (Part.atNest_unheldAtDeadline n s.part).ended_closes (v := v.1) (d := v.2)
          (r := (s.part.stopOwner n .deadline).leftFor n) (Part.unheldAtDeadline_lastStep hlast).1
      exact ⟨hret.of_start (Part.stopOwner_timebase n _ _), hstate, hhold, hbut, hopc, hff, hsets⟩
    · rw [Part.exec_outcomeFirst]
      exact congrArg (fun p => Host.Outcome.next (⟨p, s.pending⟩ : State)) (Part.deadlineExpires_completed hst hdue hc)

end Sys2Proof.Machine
end

section
/-! Nest faults of every kind beside the owner's stop, and the supply trip. -/

namespace Sys2Proof.Machine

namespace Part

variable {n : NestId} {gone : Bool} {words : List Nat} {s t₀ t u p : Part} {st : Step} {v : Verdict} {d : Detail}
  {r : Results} {k : FaultKind} {q : Option W16} {o : OwnerOutcome}

/-! ### A nest fault of any kind -/

/-- STATION_STOP is recorded on the nest alone (R22). -/
theorem recordFault_stationStop (n : NestId) (s : Part) : s.recordFault n .stationStop =
    ((s.modNsq n fun x => { x with fault := .stationStop, faultSeq := (s.nsq.get n).sequence }).putNest n 8
      (nestFaultWord .stationStop (s.nsq.get n).sequence)).setFactor (factorFault n) := rfl

/-- A nest fault touches nothing but the sequencer, memory, the factors and the first-fault record. -/
theorem recordFault_same (n : NestId) (k : FaultKind) (s : Part) : s.recordFault n k =
    { s with
      nsq := (s.recordFault n k).nsq, mem := (s.recordFault n k).mem, factor := (s.recordFault n k).factor
      firstFault := (s.recordFault n k).firstFault } := by
  apply Part.eq_of_fields <;> simp

/-- The words of the first-fault record lie in the directory. -/
theorem firstFault_lt {i : Nat} (h : i ∈ [ffStateAt, ffStepAt, ffTimeAt]) : i < 64 := by
  revert h; revert i; decide

theorem fault_stores (n : NestId) (k : FaultKind) (s : Part) :
    s.StoresOnly [nestAt n 8, ffStateAt, ffStepAt, ffTimeAt] (s.recordFault n k) := by
  by_cases hk : k = .stationStop
  · subst hk
    rw [recordFault_stationStop]
    exact (StoresOnly.refl.modNsq.putNest (by simp)).setFactor
  · exact recordFault_stores hk s

theorem fault_setsOnly (n : NestId) (k : FaultKind) (s : Part) :
    s.SetsOnly [factorFault n, factorFirstFault] (s.recordFault n k) := by
  intro i hi
  obtain ⟨h1, h2⟩ : i ≠ factorFault n ∧ i ≠ factorFirstFault := by simpa using hi
  by_cases hk : k = .stationStop
  · subst hk
    rw [recordFault_stationStop, setFactor_factor, getLsbD_setFlag]
    simp [h1.symm]
  · rw [recordFault_factor hk]
    split
    · rw [getLsbD_setFlag, getLsbD_setFlag]; simp [h1.symm, h2.symm]
    · rw [getLsbD_setFlag]; simp [h1.symm]

theorem fault_records (n : NestId) (k : FaultKind) (s : Part) :
    s.Records n k (s.nsq.get n).sequence (s.recordFault n k) := by
  by_cases hk : k = .stationStop
  · subst hk
    have hlt : factorFault n < 19 := by unfold factorFault; omega
    rw [recordFault_stationStop]
    exact ⟨by simp, by simp, by simp, by simp [hlt], fun _ => by simp, fun _ h => absurd rfl h⟩
  · exact recordFault_records hk s

/-- The words of a nest fault and NEST_STATE. -/
def faultWords (n : NestId) : List Nat := [nestAt n 7, nestAt n 8, ffStateAt, ffStepAt, ffTimeAt]

/-- A part with a nest fault recorded stands beside the part without it. -/
theorem recordFault_beside (n : NestId) (k : FaultKind) (s : Part) :
    Beside n false (faultWords n) (s.recordFault n k) s (s.recordFault n k) where
  same := recordFault_same n k s
  others := by rw [recordFault_nsq]; exact .modify n _ _
  sequencer := by simp [recordFault_nsq]
  report _ := by simp [recordFault_nsq]
  held := .inl (by simp [recordFault_nsq])
  stores := (fault_stores n k s).mono (by simp [faultWords])
  spare _ _ := rfl
  ticks := rfl
  apart h := by simpa [PowerApart] using h
  shown := by simp [faultWords]
  low i hi := by
    have hnest (j : Nat) (hj : j < 64) : nestAt n j < 0x9210 := by unfold nestAt; omega
    simp only [faultWords, List.mem_cons, List.not_mem_nil, or_false] at hi
    rcases hi with rfl | rfl | rfl | rfl | rfl
    exacts [hnest 7 (by decide), hnest 8 (by decide), by decide, by decide, by decide]

/-! ### What has been recorded stands -/

/-- The flags may grow. -/
theorem Records.of_grown (h : s.Records n k q t) (hf : (u.nsq.get n).fault = (t.nsq.get n).fault)
    (hq : (u.nsq.get n).faultSeq = (t.nsq.get n).faultSeq)
    (hw : ∀ i ∈ [nestAt n 8, ffStateAt, ffStepAt, ffTimeAt], u.word i = t.word i)
    (hfac : ∀ i, t.factor.getLsbD i = true → u.factor.getLsbD i = true)
    (hff : u.firstFault = t.firstFault) : s.Records n k q u := by
  obtain ⟨h1, h2, h3, h4, h5, h6⟩ := h
  unfold Part.Records
  rw [hf, hq, hff, hw _ (by simp), hw _ (by simp), hw _ (by simp), hw _ (by simp)]
  refine ⟨h1, h2, h3, hfac _ h4, h5, fun hn hk => ?_⟩
  obtain ⟨g1, g2, g3, g4, g5⟩ := h6 hn hk
  exact ⟨g1, g2, g3, g4, hfac _ g5⟩

theorem Records.retire (h : s.Records n k q t) (hst : (t.nsq.get n).step = some st) :
    s.Records n k q (t.retire n v d r) := by
  refine h.of_grown (by simp [retire_nsq hst]) (by simp [retire_nsq hst]) (fun i hi => ?_) (fun i hi => ?_) ?_
  · refine (retire_stores hst v d r).word ?_
    rcases List.mem_cons.1 hi with rfl | hi
    · simp [slotWords]
    · have hdir := firstFault_lt hi
      intro hm
      simp only [slotWords, slotAt, nestAt, List.mem_append, List.mem_map, List.mem_cons, List.not_mem_nil,
        or_false] at hm
      omega
  · rw [retire_same hst]
    dsimp only
    split
    · rw [getLsbD_setFlag, hi, Bool.true_or]
    · exact hi
  · rw [retire_same hst]

/-- A change of the sequencer that writes NEST_STATE alone. -/
theorem Records.atNest (h : s.Records n k q t) (hn : AtNest n [nestAt n 7] t u)
    (hf : (u.nsq.get n).fault = (t.nsq.get n).fault) (hq : (u.nsq.get n).faultSeq = (t.nsq.get n).faultSeq) :
    s.Records n k q u := by
  refine h.of_same hf hq (fun i hi => hn.stores.word ?_) (congrArg (·.factor) hn.same) (congrArg (·.firstFault) hn.same)
  rcases List.mem_cons.1 hi with rfl | hi
  · simp
  · have hdir := firstFault_lt hi
    have hnest := nestAt_ge n 7
    simp only [List.mem_singleton]
    omega

theorem Records.ended (h : s.Records n k q t) (hst : (t.nsq.get n).step = some st) :
    s.Records n k q (t.ended n v d r) :=
  h.retire hst |>.atNest (atNest_ended n v d r t) (by simp [ended_nsq hst, retire_nsq hst])
    (by simp [ended_nsq hst, retire_nsq hst])

namespace Beside

variable (h : Beside n gone words t₀ s t)
include h

theorem factor : t.factor = t₀.factor := congrArg (·.factor) h.same
theorem firstFault : t.firstFault = t₀.firstFault := congrArg (·.firstFault) h.same

/-- A fault that `t₀` shows, `t` shows. -/
theorem records {x : Part} (hr : x.Records n k q t₀) : x.Records n k q t := by
  refine hr.of_same (by rw [h.sequencer]) (by rw [h.sequencer]) (fun i hi => h.spare i ?_) h.factor h.firstFault
  rcases List.mem_cons.1 hi with rfl | hi
  exacts [spare_nestAt n (by decide) (by decide), spare_firstFault hi]

/-- A RUNNING or HELD nest is so still. -/
theorem busy (hb : (t₀.nsq.get n).state = .running ∨ (t₀.nsq.get n).state = .held) :
    (t.nsq.get n).state = .running ∨ (t.nsq.get n).state = .held := by
  rw [h.seqState]
  rcases h.held with ⟨e, -⟩ | ⟨-, e, -⟩
  · rwa [e]
  · exact .inl e

omit h in
/-- What the end of a step changes of a part, it changes of the part beside it too. -/
theorem butForTheStep {slot : W16} (h : Beside n false words t₀ s t)
    (hw : ∀ i ∈ words, i ∈ nestWords n ++ [ffStateAt, ffStepAt, ffTimeAt])
    (hsets : s.SetsOnly [factorFault n, factorFirstFault] t) (g : t.ButForTheStep n slot p) :
    s.ButForTheStep n slot p := by
  obtain ⟨hsame, hnsq, hlamps, hset, hstores⟩ := g
  have e : t = { s with nsq := t.nsq, mem := t.mem, factor := t₀.factor, firstFault := t₀.firstFault } := h.same
  refine ⟨?_, h.others.trans hnsq, h.opc ▸ hlamps, fun i hi => ?_, (h.stores.mono fun i hi => ?_).trans hstores⟩
  · rw [e] at hsame
    exact hsame
  · refine (hset i hi).trans (hsets i ?_)
    simp only [List.mem_cons, List.not_mem_nil, or_false, not_or] at hi ⊢
    exact hi.2
  · rw [List.append_assoc]
    exact List.mem_append_right _ (hw i hi)

end Beside

theorem faultWords_owned (n : NestId) : ∀ i ∈ faultWords n, i ∈ nestWords n ++ [ffStateAt, ffStepAt, ffTimeAt] := by
  simp [faultWords, mem_nestWords]

/-! ### The owner's stop after a nest fault -/

/-- The owner's stop is the same whether a nest fault has been recorded or not. -/
theorem faultStopped_beside (n : NestId) (k : FaultKind) (s : Part) :
    Beside n false (faultWords n) (s.recordFault n k) (s.stopOwner n .stop) ((s.recordFault n k).stopOwner n .stop) :=
  (recordFault_beside n k s).stopOwner (by simp [recordFault_nsq]) (by simp [recordFault_nsq])

theorem faultStopped_setsOnly (n : NestId) (k : FaultKind) (s : Part) :
    (s.stopOwner n .stop).SetsOnly [factorFault n, factorFirstFault] ((s.recordFault n k).stopOwner n .stop) := by
  intro i hi
  rw [(faultStopped_beside n k s).factor, (stopOwner_beside n .stop s).factor]
  exact fault_setsOnly n k s i hi

theorem LastStep.recordFault (h : s.LastStep n st) (k : FaultKind) : (s.recordFault n k).LastStep n st := by
  obtain ⟨hst, hslot, hlim⟩ := h
  unfold LastStep
  rw [recordFault_nsq, Bank.get_modify_same]
  exact ⟨hst, hslot, hlim⟩

/-! ### Notices behind outcomes -/

theorem takeNotice_uncompleted {m : Notice} {f : Part → Part} (hs : (s.nsq.get n).step = some st)
    (h : Uncompleted (s.earlier m) n st) : s.takeNotice n m f = f (s.took m) := by
  have e : s.takeEarlier n (s.sentBefore m) = s := takeEarlier_uncompleted hs h
  rw [takeNotice, e]

theorem takeNotice_idle {m : Notice} {f : Part → Part} (hs : (s.nsq.get n).step = none) :
    s.takeNotice n m f = f (s.took m) := by
  rw [takeNotice, takeEarlier_idle _ hs]

/-- The outcome of the last posted step leaves no step in execution. -/
theorem takeOutcome_step (h : s.LastStep n st) (hn : o.nest = n) (hq : o.sequence = st.sequence) :
    ((s.takeOutcome o).nsq.get n).step = none := by
  subst hn
  rw [takeOutcome_last h hq, ended_nsq h.1, Bank.get_modify_same]

/-- A notice behind the outcome of the last posted step is taken after it (R28, R44, R48). -/
theorem takeNotice_completed {m : Notice} {f : Part → Part} (h : s.LastStep n st)
    (hc : Completed (s.earlier m) n st o) : s.takeNotice n m f = (s.takeOutcome o).takeNotice n m f := by
  rw [takeNotice_idle (takeOutcome_step h hc.2.1 hc.2.2.1), takeNotice]
  exact congrArg (fun x => f (x.took m)) (takeEarlier_completed h.1 hc)

/-! ### NEST_STATE -/

/-- The SKIPPING field of NEST_STATE (NEST_STATE table). -/
theorem nestStateWord_skipping (s : Part) (n : NestId) :
    (s.nestStateWord n).getLsbD 12 = (s.nsq.get n).skipping := by
  simp only [nestStateWord]
  cases (s.nsq.get n).state <;> cases (s.fxc.get n).state <;> cases (s.nsq.get n).hold <;>
    cases (s.nsq.get n).skipping <;> cases (s.buc.get n).mute <;> rfl

/-- A change of SKIPPING is shown (R4). -/
theorem setSkipping_shows {on : Bool} (h : (s.nsq.get n).skipping ≠ on) :
    (s.setSkipping n on).word (nestAt n 7) = (s.setSkipping n on).nestStateWord n := by
  unfold setSkipping
  rcases s.track_eq n (fun s => s.modNsq n fun q => { q with skipping := on }) with ⟨-, e⟩ | ⟨e, -⟩
  · have := congrArg (·.getLsbD 12) e
    simp only [nestStateWord_skipping, modNsq_nsq, Bank.get_modify_same] at this
    exact absurd this.symm h
  · rw [e]; simp

/-- The end of a step is shown on a nest that was not WAITING (R4). -/
theorem ended_shows (hst : (s.nsq.get n).step = some st) (h : (s.nsq.get n).state ≠ .waiting) :
    (s.ended n v d r).word (nestAt n 7) = (s.ended n v d r).nestStateWord n :=
  track_shows (by simpa [retire_nsq hst] using h.symm)

theorem countedUnit_state (n : NestId) (st : Step) (v : Verdict) (s : Part) :
    (s.countedUnit n st v).state = (s.nsq.get n).unit.state := by
  simp only [countedUnit]
  split
  · cases v <;> rfl
  · rfl

/-! ### The supply trip -/

/-- The part at a supply trip once the owner of the step has stopped and SKIPPING is on (R44). -/
def trippedAt (n : NestId) (s : Part) : Part :=
  ((s.recordFault n .supplyTrip).stopOwner n .stop).setSkipping n true

theorem trippedAt_lastStep (h : s.LastStep n st) : (s.trippedAt n).LastStep n st := by
  unfold LastStep trippedAt
  rw [setSkipping_nsq, Bank.get_modify_same]
  exact (h.recordFault .supplyTrip).stopOwner .stop

/-- A FAIL turns SKIPPING on that a step not of the unit kinds finds on (R41, R44). -/
theorem skippingAfter_fail (hbegin : st.kind ≠ some .unitBegin) (hend : st.kind ≠ some .unitEnd) :
    skippingAfter st .fail true = true :=
  (skippingAfter_iff st .fail true).2 (.inl ⟨rfl, not_or.2 ⟨hbegin, hend⟩⟩)

theorem atNest_trippedAt (n : NestId) (s : Part) :
    AtNest n [nestAt n 7] ((s.recordFault n .supplyTrip).stopOwner n .stop) (s.trippedAt n) :=
  atNest_setSkipping n true _

theorem trippedAt_get (n : NestId) (s : Part) : (s.trippedAt n).nsq.get n =
    { s.nsq.get n with
      fault := .supplyTrip, faultSeq := (s.nsq.get n).sequence, skipping := true
      state := ((s.trippedAt n).nsq.get n).state, hold := ((s.trippedAt n).nsq.get n).hold
      report := ((s.trippedAt n).nsq.get n).report } := by
  have hget : (s.trippedAt n).nsq.get n =
      { ((s.recordFault n .supplyTrip).stopOwner n .stop).nsq.get n with skipping := true } := by
    rw [trippedAt, setSkipping_nsq, Bank.get_modify_same]
  rw [hget, (faultStopped_beside n .supplyTrip s).sequencer, recordFault_nsq, Bank.get_modify_same]

/-- The trip is recorded with the step's sequence, and stands at the step's end (R22, R44). -/
theorem tripped_records (h : (s.nsq.get n).step = some st) :
    s.Records n .supplyTrip (some st.sequence) ((s.trippedAt n).ended n v d r) := by
  have hseq : (s.nsq.get n).sequence = some st.sequence := by rw [Nsq.sequence, h]; rfl
  have hstopped := (faultStopped_beside n .supplyTrip s).records (hseq ▸ fault_records n .supplyTrip s)
  have hget : ∀ x : Part, ((x.setSkipping n true).nsq.get n).fault = (x.nsq.get n).fault ∧
      ((x.setSkipping n true).nsq.get n).faultSeq = (x.nsq.get n).faultSeq := fun x => by
    rw [setSkipping_nsq, Bank.get_modify_same]
    exact ⟨rfl, rfl⟩
  refine (hstopped.atNest (atNest_trippedAt n s) (hget _).1 (hget _).2).ended (st := st) ?_
  rw [trippedAt_get]
  exact h

/-- All that a supply trip shows that fails the last posted step (R44). -/
theorem tripped_closes (h : s.LastStep n st) (hb : (s.nsq.get n).state = .running ∨ (s.nsq.get n).state = .held)
    (hbegin : st.kind ≠ some .unitBegin) (hend : st.kind ≠ some .unitEnd) :
    let p := (s.trippedAt n).ended n .fail .supplyTrip r
    s.Retires n st .fail .supplyTrip r p ∧ (p.nsq.get n).state = .waiting ∧ (p.nsq.get n).hold = .none ∧
      (p.nsq.get n).skipping = true ∧ p.word (nestAt n 7) = p.nestStateWord n ∧
      (p.nsq.get n).unit.state = (s.nsq.get n).unit.state ∧
      (s.stopOwner n .stop).ButForTheStep n st.slot p ∧ p.opc = (s.stopOwner n .stop).opc := by
  intro p
  have hst := (trippedAt_lastStep h).1
  have hside := faultStopped_beside n .supplyTrip s
  obtain ⟨hret, hstate, hhold, hbut, hopc, -, -⟩ :=
    (atNest_trippedAt n s).ended_closes (v := .fail) (d := .supplyTrip) (r := r) hst
  have htime : ((s.recordFault n .supplyTrip).stopOwner n .stop).timebase = s.timebase :=
    (stopOwner_timebase n .stop _).trans (by unfold timebase now; rw [recordFault_ticks])
  have hbusy : ((s.trippedAt n).nsq.get n).state ≠ .waiting := by
    have hkept : ((s.trippedAt n).nsq.get n).state =
        (((s.recordFault n .supplyTrip).stopOwner n .stop).nsq.get n).state := by
      rw [trippedAt, setSkipping_nsq, Bank.get_modify_same]
    rw [hkept]
    rcases hside.busy (by rw [recordFault_nsq, Bank.get_modify_same]; exact hb) with e | e <;> rw [e] <;> decide
  refine ⟨hret.of_start htime, hstate, hhold, ?_, ended_shows hst hbusy, ?_,
    hside.butForTheStep (faultWords_owned n) (faultStopped_setsOnly n _ s) hbut, hopc.trans hside.opc⟩
  · rw [ended_nsq hst, Bank.get_modify_same, trippedAt_get]
    exact skippingAfter_fail hbegin hend
  · rw [ended_nsq hst, Bank.get_modify_same, countedUnit_state, trippedAt_get]

/-- A supply trip fails the last posted step with what its owner left (R44, R45). -/
theorem takeSupplyTrip_step (h : s.LastStep n st)
    (hb : (s.nsq.get n).state = .running ∨ (s.nsq.get n).state = .held) :
    s.takeSupplyTrip n = (s.trippedAt n).ended n .fail .supplyTrip ((s.stopOwner n .stop).leftFor n) := by
  have hne : (s.nsq.get n).state ≠ .stopped := by
    rcases hb with e | e <;> rw [e] <;> decide
  have hreport : (s.trippedAt n).reported n = (s.stopOwner n .stop).leftFor n := by
    rw [reported, trippedAt, setSkipping_nsq, Bank.get_modify_same, leftFor, (faultStopped_beside n _ s).report rfl]
  simp only [takeSupplyTrip, h.1]
  rw [← hreport]
  exact (if_neg hne).trans (finish_last (trippedAt_lastStep h) _ _ _)

/-- A supply trip with no step in execution (R44, R50). -/
theorem takeSupplyTrip_idle (h : (s.nsq.get n).step = none) : s.takeSupplyTrip n =
    if (s.nsq.get n).state = .stopped then s.recordFault n .supplyTrip
    else (s.recordFault n .supplyTrip).setSkipping n true := by
  simp only [takeSupplyTrip, h]

/-- All that a supply trip shows with no step in execution (R44, R50). -/
theorem tripped_idle (h : (s.nsq.get n).step = none) :
    let x := s.nsq.get n
    let p := s.takeSupplyTrip n
    p.nsq = s.nsq.put n
        { x with fault := .supplyTrip, faultSeq := none, skipping := decide (x.state ≠ .stopped) || x.skipping } ∧
      s.Records n .supplyTrip none p ∧ s.SetsOnly [factorFault n, factorFirstFault] p ∧
      (x.state ≠ .stopped → x.skipping = false → p.word (nestAt n 7) = p.nestStateWord n) ∧
      s.StoresOnly [nestAt n 7, nestAt n 8, ffStateAt, ffStepAt, ffTimeAt] p ∧
      p = { s with nsq := p.nsq, mem := p.mem, factor := p.factor, firstFault := p.firstFault } := by
  intro x p
  have hseq : (s.nsq.get n).sequence = none := by rw [Nsq.sequence, h]; rfl
  have hrecords : s.Records n .supplyTrip none (s.recordFault n .supplyTrip) := hseq ▸ fault_records n .supplyTrip s
  have hframe : AtNest n [nestAt n 7] (s.recordFault n .supplyTrip) p ∧
      p.nsq.get n = { x with
        fault := .supplyTrip, faultSeq := none, skipping := decide (x.state ≠ .stopped) || x.skipping } ∧
      (x.state ≠ .stopped → x.skipping = false → p.word (nestAt n 7) = p.nestStateWord n) := by
    have hp : p = _ := takeSupplyTrip_idle h
    rw [hp]
    split
    · next hs =>
      refine ⟨.refl, ?_, fun hne => absurd hs hne⟩
      simp [recordFault_nsq, hseq, x, hs]
    · next hs =>
      refine ⟨atNest_setSkipping n true _, ?_, fun _ hoff => setSkipping_shows ?_⟩
      · simp [setSkipping_nsq, recordFault_nsq, hseq, x, hs]
      · rw [recordFault_nsq, Bank.get_modify_same]
        exact fun e => Bool.false_ne_true (hoff.symm.trans e)
  obtain ⟨hnest, hget, hshown⟩ := hframe
  have hfactor : p.factor = (s.recordFault n .supplyTrip).factor := congrArg (·.factor) hnest.same
  refine ⟨?_, hrecords.atNest hnest (by simp [hget, recordFault_nsq]) (by simp [hget, recordFault_nsq, hseq]), ?_,
    hshown, ?_, ?_⟩
  · refine Bank.ext_get fun j => ?_
    by_cases hj : j = n
    · subst hj; rw [hget, Bank.get_put_same]
    · rw [← hnest.others j hj, recordFault_nsq, Bank.get_modify_other _ _ (Ne.symm hj), Bank.get_put_other _ _ (Ne.symm hj)]
  · exact fun i hi => (by rw [hfactor]; exact fault_setsOnly n _ s i hi)
  · exact ((fault_stores n .supplyTrip s).mono (by simp)).trans (hnest.stores.mono (by simp))
  · have hsame := hnest.same
    rw [recordFault_same] at hsame
    rw [hsame]

end Part

/-- Settles O19: with the last posted step in execution, and with none. -/
theorem supplyTripFailsTheStep : Obligations.SupplyTripFailsTheStep := by
  refine ⟨fun n st s hlast hb => ?_, fun n s hidle => ?_⟩
  · intro t first
    refine ⟨fun hu hbegin hend => ?_, fun o x hc hx => ?_⟩
    · refine answers_of_act (f := (·.takeNotice n (.supplyTrip n) (·.takeSupplyTrip n))) rfl ?_
      let b := s.part.took (.supplyTrip n)
      have hb' : b.LastStep n st := hlast
      have ht : t = b.stopOwner n .stop := (Part.stopOwner_eq (s := b) hlast.1 .stop).symm
      rw [Part.takeNotice_uncompleted hlast.1 hu, Part.takeSupplyTrip_step hb' hb, ht]
      obtain ⟨hret, hstate, hhold, hskip, hword, hunit, hbut, hopc⟩ :=
        Part.tripped_closes (r := (b.stopOwner n .stop).leftFor n) hb' hb hbegin hend
      exact ⟨hret.of_start rfl, hstate, hhold, hskip, hword, (Part.tripped_records (s := b) hlast.1).of_start rfl rfl,
        hunit, hbut, hopc⟩
    · rw [Part.exec_outcomeFirst] at hx
      cases hx
      exact congrArg (fun p => Host.Outcome.next (⟨p, s.pending⟩ : State)) (Part.takeNotice_completed hlast hc)
  · intro x
    refine answers_of_act (f := (·.takeNotice n (.supplyTrip n) (·.takeSupplyTrip n))) rfl ?_
    rw [Part.takeNotice_idle hidle]
    obtain ⟨hnsq, hrecords, hsets, hshown, hstores, hsame⟩ :=
      Part.tripped_idle (s := s.part.took (.supplyTrip n)) hidle
    exact ⟨hnsq, hrecords.of_start rfl rfl, hsets, hshown, hstores, hsame⟩

end Sys2Proof.Machine
end

section
/-! A nest powered off with its unit closed ABORTED, and a nest abort with no step in execution. -/

namespace Sys2Proof.Machine

namespace Part

variable {n : NestId} {gone : Bool} {words : List Nat} {s t₀ t u p b : Part} {k : FaultKind} {q : Option W16}

/-! ### The unit closed ABORTED -/

/-- The unit record once an OPEN unit has been closed ABORTED at time `now` (R46, R47). -/
def abortedAt (now : W32) (x : UnitRecord) : UnitRecord :=
  if x.state = .opened then { x with state := .aborted, closedAt := now } else x

theorem abortUnit_only (n : NestId) (s : Part) :
    UnitOnly n (abortedAt s.timebase (s.nsq.get n).unit) s (s.abortUnit n) := by
  unfold abortUnit abortedAt
  split
  exacts [closeUnit_only n .aborted s, .refl n s]

theorem abortUnit_stores (n : NestId) (s : Part) : s.StoresOnly [nestAt n 10, nestAt n 15] (s.abortUnit n) := by
  unfold abortUnit
  split
  · exact (StoresOnly.refl.modNsq.putNest (by simp)).writeUnitState (by simp)
  · exact .refl

/-- An OPEN unit shows that it is closed, and its lamp is red (R37, R178). -/
theorem abortUnit_opened (h : (s.nsq.get n).unit.state = .opened) :
    (s.abortUnit n).word (nestAt n 10) = 5 ∧ (s.abortUnit n).word (nestAt n 15) = s.timebase ∧
      (s.abortUnit n).opc.lamps.get n = .red := by
  have e : s.abortUnit n = s.closeUnit n .aborted := if_pos h
  obtain ⟨h10, h15⟩ := closeUnit_words n .aborted s
  rw [e]
  exact ⟨h10, h15, by simp [closeUnit, writeUnitState, lampOf]⟩

theorem abortUnit_other (h : (s.nsq.get n).unit.state ≠ .opened) : s.abortUnit n = s := if_neg h

theorem abortedAt_state (now : W32) (x : UnitRecord) :
    (abortedAt now x).state ≠ .opened ∧ (x.state = .opened → (abortedAt now x).state = .aborted) := by
  unfold abortedAt
  split
  · exact ⟨by simp, fun _ => rfl⟩
  · next h => exact ⟨h, fun g => absurd g h⟩

/-! ### The nest stopped -/

theorem atNest_stopNest (n : NestId) (s : Part) : AtNest n [nestAt n 7] s (s.stopNest n) :=
  (AtNest.refl.modNsq.modNsq).track (by simp)

theorem stopNest_get (n : NestId) (s : Part) : (s.stopNest n).nsq.get n =
    { s.nsq.get n with
      state := .stopped, hold := .none, position := none, deadline := none, skipping := false } := by
  simp [stopNest]

/-- A nest that was not STOPPED yet shows that it is (R4). -/
theorem stopNest_shows (h : (s.nsq.get n).state ≠ .stopped) :
    (s.stopNest n).word (nestAt n 7) = (s.stopNest n).nestStateWord n :=
  track_shows (by simpa using h.symm)

/-! ### What has been recorded stands -/

theorem Records.abortUnit (h : s.Records n k q t) : s.Records n k q (t.abortUnit n) := by
  have hunit := (abortUnit_only n t).unit
  refine h.of_same (by simp [hunit]) (by simp [hunit]) (fun i hi => (abortUnit_stores n t).word ?_) (by simp) (by simp)
  rcases List.mem_cons.1 hi with rfl | hi
  · simp
  · have hdir := firstFault_lt hi
    have h10 := nestAt_ge n 10
    have h15 := nestAt_ge n 15
    simp only [List.mem_cons, List.not_mem_nil, or_false]
    omega

theorem Records.stopNest (h : s.Records n k q t) : s.Records n k q (t.stopNest n) :=
  h.atNest (atNest_stopNest n t) (by rw [stopNest_get]) (by rw [stopNest_get])

/-! ### A nest shut down -/

namespace Beside

variable (h : Beside n gone words t₀ s t)
include h

theorem powerOff_timebase : (t.requestPowerOff n).timebase = t₀.timebase := by
  unfold Part.timebase Part.now
  rw [h.requestPowerOff.ticks]

/-- The sequencer of a nest shut down (R46, R47). -/
theorem shutDown_get : (t.shutDown n).nsq.get n =
    { t₀.nsq.get n with
      unit := abortedAt t₀.timebase (t₀.nsq.get n).unit, state := ((s.requestPowerOff n).nsq.get n).state
      hold := ((s.requestPowerOff n).nsq.get n).hold, report := ((t.requestPowerOff n).nsq.get n).report } := by
  have hoff := h.requestPowerOff
  rw [shutDown, (abortUnit_only n _).unit, Bank.get_modify_same, h.powerOff_timebase, hoff.sequencer]

/-- The unit was OPEN when the nest was shut down. -/
theorem shutDown_unit : ((t.requestPowerOff n).nsq.get n).unit = (t₀.nsq.get n).unit := by
  rw [h.requestPowerOff.sequencer]

theorem shutDown_records {x : Part} (hr : x.Records n k q t₀) : x.Records n k q (t.shutDown n) :=
  (h.requestPowerOff.records hr).abortUnit

theorem shutDown_factor : (t.shutDown n).factor = t₀.factor := by
  rw [shutDown, abortUnit_factor, h.requestPowerOff.factor]

theorem shutDown_firstFault : (t.shutDown n).firstFault = t₀.firstFault := by
  rw [shutDown, abortUnit_firstFault, h.requestPowerOff.firstFault]

theorem shutDown_opened (ho : (t₀.nsq.get n).unit.state = .opened) :
    (t.shutDown n).word (nestAt n 10) = 5 ∧ (t.shutDown n).word (nestAt n 15) = t₀.timebase ∧
      (t.shutDown n).opc.lamps.get n = .red := by
  rw [← h.powerOff_timebase]
  exact abortUnit_opened (by rw [h.shutDown_unit]; exact ho)

theorem shutDown_other (ho : (t₀.nsq.get n).unit.state ≠ .opened) : (t.shutDown n).opc = (s.requestPowerOff n).opc := by
  rw [shutDown, abortUnit_other (by rw [h.shutDown_unit]; exact ho), h.requestPowerOff.opc]

/-- But for the nest's unit record and its words, a nest shut down stands beside the nest powered off. -/
theorem shutDown_same : t.shutDown n =
    { (s.requestPowerOff n).without n gone with
      nsq := (t.shutDown n).nsq, mem := (t.shutDown n).mem, factor := t₀.factor, firstFault := t₀.firstFault
      opc := { (s.requestPowerOff n).opc with lamps := (t.shutDown n).opc.lamps } } := by
  have hunit := (abortUnit_only n (t.requestPowerOff n)).same
  have hoff := h.requestPowerOff.same
  rw [← shutDown] at hunit
  generalize t.shutDown n = a at hunit
  rw [hoff] at hunit
  exact hunit

theorem shutDown_others : Bank.AgreeBut n (s.requestPowerOff n).nsq (t.shutDown n).nsq := by
  refine h.requestPowerOff.others.trans ?_
  rw [shutDown, (abortUnit_only n _).unit]
  exact .modify n _ _

theorem shutDown_lamps : Bank.AgreeBut n (s.requestPowerOff n).opc.lamps (t.shutDown n).opc.lamps :=
  h.requestPowerOff.opc ▸ (abortUnit_only n (t.requestPowerOff n)).lamps

theorem shutDown_stores {more : List Nat} (hw : ∀ i ∈ words ++ [nestAt n 10, nestAt n 15], i ∈ more) :
    (s.requestPowerOff n).StoresOnly more (t.shutDown n) :=
  (h.requestPowerOff.stores.mono fun i hi => hw i (List.mem_append_left _ hi)).trans
    ((abortUnit_stores n _).mono fun i hi => hw i (List.mem_append_right _ hi))

end Beside

/-- Part `p` is part `b` with nest `n` powered off and its unit, `x` before, closed ABORTED at time `now` if it was OPEN; a
fault of the nest may have been recorded besides (R47, R48, R50, R51). -/
def ShutsDown (n : NestId) (x : UnitRecord) (now : W32) (b p : Part) : Prop :=
  let u := b.runs [.powerOffRequest n]
  (p.fxc.get n).state.supplied = false ∧
    (p.nsq.get n).unit = (if x.state = .opened then { x with state := .aborted, closedAt := now } else x) ∧
    (x.state = .opened → p.word (nestAt n 10) = 5 ∧ p.word (nestAt n 15) = now ∧ p.opc.lamps.get n = .red) ∧
    (x.state ≠ .opened → p.opc = u.opc) ∧ Bank.AgreeBut n u.opc.lamps p.opc.lamps ∧ Bank.AgreeBut n u.nsq p.nsq ∧
    u.StoresOnly ([7, 8, 10, 15].map (nestAt n) ++ [ffStateAt, ffStepAt, ffTimeAt]) p ∧
    p = { u with
      nsq := p.nsq, mem := p.mem, factor := p.factor, firstFault := p.firstFault
      opc := { u.opc with lamps := p.opc.lamps } }

theorem Beside.shutsDown (h : Beside n false (faultWords n) t₀ b t) (ha : b.PowerApart n)
    (hp : AtNest n [nestAt n 7] (t.shutDown n) p) (hu : (p.nsq.get n).unit = ((t.shutDown n).nsq.get n).unit) :
    ShutsDown n (t₀.nsq.get n).unit t₀.timebase b p := by
  have hopc : p.opc = (t.shutDown n).opc := congrArg (·.opc) hp.same
  have hfxc : p.fxc = (b.requestPowerOff n).fxc := by
    rw [hp.same, h.shutDown_same]
    rfl
  unfold ShutsDown
  rw [runs_powerOffRequest]
  refine ⟨?_, ?_, fun ho => ?_, fun ho => hopc.trans (h.shutDown_other ho), hopc ▸ h.shutDown_lamps,
    h.shutDown_others.trans hp.others, ?_, ?_⟩
  · rw [hfxc]
    exact requestPowerOff_unsupplied ha
  · rw [hu, h.shutDown_get]
    rfl
  · obtain ⟨h10, h15, hred⟩ := h.shutDown_opened ho
    rw [hp.stores.word (by simp), hp.stores.word (by simp), hopc]
    exact ⟨h10, h15, hred⟩
  · exact (h.shutDown_stores (by simp [faultWords])).trans (hp.stores.mono (by simp))
  · have hsame := hp.same
    rw [h.shutDown_same] at hsame
    have hfac : p.factor = t₀.factor := (congrArg (·.factor) hp.same).trans h.shutDown_factor
    have hff : p.firstFault = t₀.firstFault := (congrArg (·.firstFault) hp.same).trans h.shutDown_firstFault
    rw [hfac, hff, hopc]
    exact hsame

/-- A nest powered off that was not STOPPED is not STOPPED yet. -/
theorem Beside.shutDown_notStopped (h : Beside n gone words t₀ s t) (hs : (t₀.nsq.get n).state ≠ .stopped) :
    ((t.shutDown n).nsq.get n).state ≠ .stopped := by
  rw [h.shutDown_get]
  rcases h.requestPowerOff.held with ⟨e, -⟩ | ⟨-, e, -⟩ <;> dsimp only <;> rw [e]
  · exact hs
  · decide

/-- In part `p` nest `n`, whose sequencer was `x` before, is STOPPED without a chain position (R46, R47, R50). -/
def Stops (n : NestId) (x : Nsq) (p : Part) : Prop :=
  p.nsq.get n =
      { p.nsq.get n with
        state := .stopped, hold := .none, position := none, deadline := none, skipping := false
        retired := x.retired, limit := x.limit, step := none } ∧
    p.word (nestAt n 7) = p.nestStateWord n

theorem Beside.stops (h : Beside n gone words t₀ s t) (hs : (t₀.nsq.get n).state ≠ .stopped)
    (hstep : (t₀.nsq.get n).step = none) : Stops n (t₀.nsq.get n) ((t.shutDown n).stopNest n) := by
  refine ⟨?_, stopNest_shows (h.shutDown_notStopped hs)⟩
  rw [stopNest_get, h.shutDown_get]
  simp [hstep]

/-- In part `p` nest `n`, whose sequencer was `x` before, is as it was but for its fault, its unit and the results kept. -/
def Stays (n : NestId) (x : Nsq) (p : Part) : Prop :=
  p.nsq.get n =
    { x with
      fault := (p.nsq.get n).fault, faultSeq := none, unit := (p.nsq.get n).unit, report := (p.nsq.get n).report }

/-! ### A nest abort with no step in execution -/

/-- With no step in execution there is no owner to stop and no step to retire (R47). -/
theorem abortChain_idle (h : (b.nsq.get n).step = none) (c : AbortCause) :
    b.abortChain n c = ((b.recordFault n c.fault).shutDown n).stopNest n := by
  have hr : ((b.recordFault n c.fault).nsq.get n).step = none := by rw [recordFault_nsq, Bank.get_modify_same]; exact h
  have hstop : (b.recordFault n c.fault).stopOwner n .stop = b.recordFault n c.fault := by
    unfold stopOwner
    rw [hr]
  unfold abortChain
  simp only [hstop]
  rw [retire_idle _ _ _ hr]

/-- What the recording of a fault leaves of the sequencer. -/
theorem recordFault_get (n : NestId) (k : FaultKind) (s : Part) : (s.recordFault n k).nsq.get n =
    { s.nsq.get n with fault := k, faultSeq := (s.nsq.get n).sequence } := by
  rw [recordFault_nsq, Bank.get_modify_same]

theorem recordFault_timebase (n : NestId) (k : FaultKind) (s : Part) : (s.recordFault n k).timebase = s.timebase := by
  unfold timebase now
  rw [recordFault_ticks]

/-- A fault recorded with no step in execution has no sequence. -/
theorem fault_records_idle (h : (b.nsq.get n).step = none) (k : FaultKind) :
    b.Records n k none (b.recordFault n k) := by
  have hseq : (b.nsq.get n).sequence = none := by rw [Nsq.sequence, h]; rfl
  exact hseq ▸ fault_records n k b

/-- A fault recorded, and the nest shut down (R47, R50, R51). -/
theorem faultShutDown_closes (h : (b.nsq.get n).step = none) (ha : b.PowerApart n) (k : FaultKind)
    (hp : AtNest n [nestAt n 7] ((b.recordFault n k).shutDown n) p)
    (hget : (p.nsq.get n).fault = (((b.recordFault n k).shutDown n).nsq.get n).fault ∧
      (p.nsq.get n).faultSeq = (((b.recordFault n k).shutDown n).nsq.get n).faultSeq ∧
      (p.nsq.get n).unit = (((b.recordFault n k).shutDown n).nsq.get n).unit) :
    (b.Records n k none p ∧ b.SetsOnly [factorFault n, factorFirstFault] p) ∧
      ShutsDown n (b.nsq.get n).unit b.timebase b p := by
  obtain ⟨hfault, hseq, hunit⟩ := hget
  have hside := recordFault_beside n k b
  have hfac : p.factor = (b.recordFault n k).factor := (congrArg (·.factor) hp.same).trans hside.shutDown_factor
  have hshut := hside.shutsDown ha hp hunit
  rw [recordFault_get, recordFault_timebase] at hshut
  exact ⟨⟨(hside.shutDown_records (fault_records_idle h k)).atNest hp hfault hseq,
    fun i hi => (by rw [hfac]; exact fault_setsOnly n k b i hi)⟩, hshut⟩

/-- The abort of a WAITING nest (R47). -/
theorem abortChain_closes (h : (b.nsq.get n).step = none) (hs : (b.nsq.get n).state ≠ .stopped) (ha : b.PowerApart n)
    (c : AbortCause) :
    (b.Records n c.fault none (b.abortChain n c) ∧
        b.SetsOnly [factorFault n, factorFirstFault] (b.abortChain n c)) ∧
      ShutsDown n (b.nsq.get n).unit b.timebase b (b.abortChain n c) ∧ Stops n (b.nsq.get n) (b.abortChain n c) := by
  rw [abortChain_idle h c]
  obtain ⟨hrecords, hshut⟩ := faultShutDown_closes h ha c.fault (atNest_stopNest n _) (by simp [stopNest_get])
  have hstops := (recordFault_beside n c.fault b).stops (by rwa [recordFault_get]) (by rwa [recordFault_get])
  rw [recordFault_get] at hstops
  exact ⟨hrecords, hshut, hstops⟩

/-- A lid abort or a station STOP of a FAULTED nest (R50, R51). -/
theorem faulted_stays (h : (b.nsq.get n).step = none) (hs : (b.nsq.get n).state = .faulted) (ha : b.PowerApart n)
    (k : FaultKind) :
    (b.Records n k none ((b.recordFault n k).shutDown n) ∧
        b.SetsOnly [factorFault n, factorFirstFault] ((b.recordFault n k).shutDown n)) ∧
      ShutsDown n (b.nsq.get n).unit b.timebase b ((b.recordFault n k).shutDown n) ∧
      Stays n (b.nsq.get n) ((b.recordFault n k).shutDown n) := by
  obtain ⟨hrecords, hshut⟩ := faultShutDown_closes h ha k .refl ⟨rfl, rfl, rfl⟩
  have hside := recordFault_beside n k b
  have hseq : (b.nsq.get n).sequence = none := by rw [Nsq.sequence, h]; rfl
  refine ⟨hrecords, hshut, ?_⟩
  rcases hside.requestPowerOff.held with ⟨hstate, hhold⟩ | ⟨hheld, -, -⟩
  · unfold Stays
    rw [hside.shutDown_get, hstate, hhold, recordFault_get, hseq]
  · rw [recordFault_get, hs] at hheld
    cases hheld

/-- An ABORT event of a FAULTED nest (R50). -/
theorem faulted_stops (h : (b.nsq.get n).step = none) (hs : (b.nsq.get n).state = .faulted) (ha : b.PowerApart n) :
    let p := (b.shutDown n).stopNest n
    (p.nsq.get n).fault = (b.nsq.get n).fault ∧ (p.nsq.get n).faultSeq = (b.nsq.get n).faultSeq ∧
      p.word (nestAt n 8) = b.word (nestAt n 8) ∧ p.factor = b.factor ∧ p.firstFault = b.firstFault ∧
      ShutsDown n (b.nsq.get n).unit b.timebase b p ∧ Stops n (b.nsq.get n) p := by
  intro p
  have hside : Beside n false (faultWords n) b b b :=
    .refl b (by simp [faultWords]) (recordFault_beside n .none b).low
  have hp : AtNest n [nestAt n 7] (b.shutDown n) p := atNest_stopNest n _
  refine ⟨?_, ?_, ?_, (congrArg (·.factor) hp.same).trans hside.shutDown_factor,
    (congrArg (·.firstFault) hp.same).trans hside.shutDown_firstFault,
    hside.shutsDown ha hp (by simp [p, stopNest_get]), hside.stops (by rw [hs]; decide) h⟩
  · simp only [p, stopNest_get, hside.shutDown_get]
  · simp only [p, stopNest_get, hside.shutDown_get]
  · rw [hp.stores.word (by simp), shutDown, (abortUnit_stores n _).word (by simp)]
    exact hside.requestPowerOff.spare _ (spare_nestAt n (by decide) (by decide))

/-! ### Aborts by the nest's state -/

theorem takeAbort_waiting (h : (s.nsq.get n).state = .waiting) : s.takeAbort n = s.abortChain n .request := by
  simp only [takeAbort, h]

theorem takeLidAbort_waiting (h : (s.nsq.get n).state = .waiting) : s.takeLidAbort n = s.abortChain n .lid := by
  simp only [takeLidAbort, h]

theorem takeStationStop_waiting (h : (s.nsq.get n).state = .waiting) : s.takeStationStop n = s.abortChain n .stop := by
  simp only [takeStationStop, h]

theorem takeAbort_faulted (h : (s.nsq.get n).state = .faulted) : s.takeAbort n = (s.shutDown n).stopNest n := by
  simp only [takeAbort, h]

theorem takeLidAbort_faulted (h : (s.nsq.get n).state = .faulted) :
    s.takeLidAbort n = (s.recordFault n .lidOpened).shutDown n := by
  simp only [takeLidAbort, h]

theorem takeStationStop_faulted (h : (s.nsq.get n).state = .faulted) :
    s.takeStationStop n = (s.recordFault n .stationStop).shutDown n := by
  simp only [takeStationStop, h]

theorem takeAbort_stopped (h : (s.nsq.get n).state = .stopped) : s.takeAbort n = s := by
  simp only [takeAbort, h]

theorem takeLidAbort_stopped (h : (s.nsq.get n).state = .stopped) : s.takeLidAbort n = s.recordFault n .lidOpened := by
  simp only [takeLidAbort, h]

theorem takeStationStop_stopped (h : (s.nsq.get n).state = .stopped) : s.takeStationStop n = s := by
  simp only [takeStationStop, h]

/-- An ABORT event with no step in execution. -/
theorem takeAbortEvent_idle {w : List Watched} (hq : s.watchQueue = .abort n :: w) (h : (s.nsq.get n).step = none) :
    s.takeWatchEvent (.abort n) (fun s => (s.takeWaiting n).takeAbort n) = (s.dequeued w).takeAbort n := by
  rw [takeWatchEvent_head _ hq]
  exact congrArg (takeAbort n) (takeEarlier_idle (s := s.dequeued w) _ h)

end Part

/-- Settles O18, by the nest's state and the cause of the abort. -/
theorem nestAbortWithoutAStep : Obligations.NestAbortWithoutAStep := by
  intro n q s hidle hapart x dequeued noticed shutDown stops stays records
  have hne (hx : x.state = .waiting) : x.state ≠ .stopped := by rw [hx]; decide
  have habort {post : Part → Prop} (hq : s.part.watchQueue = .abort n :: q)
      (h : post ((s.part.dequeued q).takeAbort n)) : Answers (.abortEvent n) s post :=
    answers_of_act (f := (·.takeWatchEvent (.abort n) fun s => (s.takeWaiting n).takeAbort n)) rfl
      (by rw [Part.takeAbortEvent_idle hq hidle]; exact h)
  have hlid {post : Part → Prop} (h : post ((s.part.took (.lidAbort n)).takeLidAbort n)) :
      Answers (.lidAbort n) s post :=
    answers_of_act (f := (·.takeNotice n (.lidAbort n) (·.takeLidAbort n))) rfl
      (by rw [Part.takeNotice_idle hidle]; exact h)
  have hstop {post : Part → Prop} (h : post ((s.part.took (.stationStop n)).takeStationStop n)) :
      Answers (.stationStopNotice n) s post :=
    answers_of_act (f := (·.takeNotice n (.stationStop n) (·.takeStationStop n))) rfl
      (by rw [Part.takeNotice_idle hidle]; exact h)
  refine ⟨fun hx => ⟨fun hq => habort hq ?_, hlid ?_, hstop ?_⟩, fun hx => ⟨fun hq => habort hq ?_, hlid ?_, hstop ?_⟩,
    fun hx => ⟨fun hq => ?_, ?_, hlid ?_⟩⟩
  · rw [Part.takeAbort_waiting (s := s.part.dequeued q) hx]
    obtain ⟨⟨hrecords, hsets⟩, hshut, hstops⟩ := Part.abortChain_closes (b := s.part.dequeued q) hidle (hne hx) hapart .request
    exact ⟨⟨hrecords.of_start rfl rfl, hsets⟩, hshut, hstops⟩
  · rw [Part.takeLidAbort_waiting (s := s.part.took (.lidAbort n)) hx]
    obtain ⟨⟨hrecords, hsets⟩, hshut, hstops⟩ := Part.abortChain_closes (b := s.part.took (.lidAbort n)) hidle (hne hx) hapart .lid
    exact ⟨⟨hrecords.of_start rfl rfl, hsets⟩, hshut, hstops⟩
  · rw [Part.takeStationStop_waiting (s := s.part.took (.stationStop n)) hx]
    obtain ⟨⟨hrecords, hsets⟩, hshut, hstops⟩ := Part.abortChain_closes (b := s.part.took (.stationStop n)) hidle (hne hx) hapart .stop
    exact ⟨⟨hrecords.of_start rfl rfl, hsets⟩, hshut, hstops⟩
  · rw [Part.takeAbort_faulted (s := s.part.dequeued q) hx]
    exact Part.faulted_stops (b := s.part.dequeued q) hidle hx hapart
  · rw [Part.takeLidAbort_faulted (s := s.part.took (.lidAbort n)) hx]
    obtain ⟨⟨hrecords, hsets⟩, hshut, hstays⟩ := Part.faulted_stays (b := s.part.took (.lidAbort n)) hidle hx hapart .lidOpened
    exact ⟨⟨hrecords.of_start rfl rfl, hsets⟩, hshut, hstays⟩
  · rw [Part.takeStationStop_faulted (s := s.part.took (.stationStop n)) hx]
    obtain ⟨⟨hrecords, hsets⟩, hshut, hstays⟩ := Part.faulted_stays (b := s.part.took (.stationStop n)) hidle hx hapart .stationStop
    exact ⟨⟨hrecords.of_start rfl rfl, hsets⟩, hshut, hstays⟩
  · exact congrArg (fun p => Host.Outcome.next (⟨p, s.pending⟩ : State))
      ((Part.takeAbortEvent_idle hq hidle).trans (Part.takeAbort_stopped (s := s.part.dequeued q) hx))
  · exact congrArg (fun p => Host.Outcome.next (⟨p, s.pending⟩ : State))
      ((Part.takeNotice_idle hidle).trans (Part.takeStationStop_stopped (s := s.part.took (.stationStop n)) hx))
  · rw [Part.takeLidAbort_stopped (s := s.part.took (.lidAbort n)) hx]
    have hseq : x.sequence = none := by rw [Nsq.sequence, hidle]; rfl
    have hrecords := Part.fault_records_idle (b := s.part.took (.lidAbort n)) hidle .lidOpened
    have hsets := Part.fault_setsOnly n .lidOpened (s.part.took (.lidAbort n))
    have hnsq := Part.recordFault_nsq (s.part.took (.lidAbort n)) n .lidOpened
    have hstores := Part.fault_stores n .lidOpened (s.part.took (.lidAbort n))
    have hsame := Part.recordFault_same n .lidOpened (s.part.took (.lidAbort n))
    refine ⟨⟨hrecords.of_start rfl rfl, hsets⟩, ?_, hstores, hsame⟩
    rw [hnsq, ← hseq]
    rfl

end Sys2Proof.Machine
end

section
/-! A nest abort with a step in execution: the step retires and the nest is stopped. -/

namespace Sys2Proof.Machine

namespace Part

variable {n : NestId} {gone : Bool} {words : List Nat} {s t₀ t u p b : Part} {st : Step} {v : Verdict} {d : Detail}
  {r : Results} {k : FaultKind} {o : OwnerOutcome}

/-! ### A part beside one whose step retires -/

/-- The words that the part owns of the slot and of the nest block, and those of the first-fault record. -/
def stepWords (n : NestId) (slot : W16) : List Nat := slotWords slot ++ nestWords n ++ [ffStateAt, ffStepAt, ffTimeAt]

theorem stepWords_low (n : NestId) {slot : W16} (hslot : slot.toNat < Config.slotCount) :
    ∀ i ∈ stepWords n slot, i < 0x9210 := by
  intro i hi
  unfold Config.slotCount at hslot
  simp only [stepWords, List.mem_append] at hi
  rcases hi with (hi | hi) | hi
  · obtain ⟨k, hk, rfl⟩ := List.mem_map.1 hi
    have hlt : ∀ k ∈ [8, 9, 10, 11, 12, 13, 14, 15], k < 16 := by decide
    have := hlt k hk
    unfold slotAt
    omega
  · obtain ⟨k, hk, rfl⟩ := List.mem_map.1 hi
    have hlt : ∀ k ∈ [4, 5, 6, 7, 8, 9, 10, 11, 12, 13, 14, 15], k < 16 := by decide
    have := hlt k hk
    unfold nestAt
    omega
  · have := firstFault_lt hi
    omega

/-- The retirement of the step leaves a part beside the other, with the step gone. -/
theorem Beside.retired (h : Beside n false words t₀ s t) (hst : (t.nsq.get n).step = some st)
    (hslot : st.slot.toNat < Config.slotCount) (hw : ∀ i ∈ words, i ∈ nestWords n ++ [ffStateAt, ffStepAt, ffTimeAt])
    (ha : s.PowerApart n) (v : Verdict) (d : Detail) (r : Results) :
    Beside n true (stepWords n st.slot) (t.retire n v d r) s (t.retire n v d r) where
  same := by
    have hsame := retire_same hst v d r
    generalize t.retire n v d r = a at hsame ⊢
    rw [h.same] at hsame
    rw [hsame]
    rfl
  others := by
    rw [retire_nsq hst]
    exact h.others.trans (.modify n _ _)
  sequencer := by
    rw [retire_nsq hst, Bank.get_modify_same, h.sequencer]
  report hg := by cases hg
  held := .inl (by rw [retire_nsq hst, Bank.get_modify_same, h.sequencer]; exact ⟨rfl, rfl⟩)
  stores := (h.stores.mono fun i hi => by
    rw [stepWords, List.append_assoc]
    exact List.mem_append_right _ (hw i hi)).trans (retire_stores_owned hst _)
  spare _ _ := rfl
  ticks := rfl
  apart _ := ha
  shown := by simp [stepWords, mem_nestWords]
  low := stepWords_low n hslot

/-! ### What has retired stands -/

theorem Retires.of_words (h : s.Retires n st v d r t)
    (hw : ∀ i ∈ slotWords st.slot ++ [nestAt n 4, nestAt n 5], u.word i = t.word i)
    (hr : (u.nsq.get n).retired = (t.nsq.get n).retired) (hst : (u.nsq.get n).step = (t.nsq.get n).step)
    (hd : (u.nsq.get n).deadline = none) (hwait : (u.nsq.get n).waitTimer = (t.nsq.get n).waitTimer)
    (hu : (u.nsq.get n).unhanded = (t.nsq.get n).unhanded) : s.Retires n st v d r u := by
  have hword {k : Nat} (hk : k ∈ [8, 9, 10, 11, 12, 13, 14, 15]) :
      u.word (slotAt st.slot.toNat k) = t.word (slotAt st.slot.toNat k) :=
    hw _ (List.mem_append_left _ (mem_slotWords hk))
  have h4 := hw (nestAt n 4) (by simp)
  have h5 := hw (nestAt n 5) (by simp)
  obtain ⟨g1, g2, g3, g4, g5, g6, g7, g8, g9, g10, g11, g12, -, g14, g15⟩ := h
  exact ⟨(hword (by decide)).trans g1, (hword (by decide)).trans g2, (hword (by decide)).trans g3,
    (hword (by decide)).trans g4, (hword (by decide)).trans g5, (hword (by decide)).trans g6,
    (hword (by decide)).trans g7, (hword (by decide)).trans g8, h4.trans g9, h5.trans g10, hr.trans g11, hst.trans g12,
    hd, hwait.trans g14, hu.trans g15⟩

/-- The record, RETIRED and CURRENT stand while the nest is shut down and stopped. -/
theorem Retires.stopped (h : s.Retires n st v d r t) (hb : Beside n gone words t u t)
    (hslot : st.slot.toNat < Config.slotCount) : s.Retires n st v d r ((t.shutDown n).stopNest n) := by
  refine h.of_words (fun i hi => ?_) ?_ ?_ ?_ ?_ ?_
  · have hapart : i ≠ nestAt n 7 ∧ i ≠ nestAt n 10 ∧ i ≠ nestAt n 15 ∧ Spare i := by
      rcases List.mem_append.1 hi with hi | hi
      · obtain ⟨k, hk, rfl⟩ := List.mem_map.1 hi
        have hlt : ∀ k ∈ [8, 9, 10, 11, 12, 13, 14, 15], k < 16 := by decide
        simpa using spare_slotAt hslot (hlt k hk)
      · simp only [List.mem_cons, List.not_mem_nil, or_false] at hi
        rcases hi with rfl | rfl
        · simpa using spare_nestAt n (k := 4) (by decide) (by decide)
        · simpa using spare_nestAt n (k := 5) (by decide) (by decide)
    obtain ⟨h7, h10, h15, hspare⟩ := hapart
    rw [(atNest_stopNest n _).stores.word (by simpa using h7), shutDown,
      (abortUnit_stores n _).word (by simp [h10, h15])]
    exact hb.requestPowerOff.spare i hspare
  all_goals rw [stopNest_get]
  all_goals rw [hb.shutDown_get]

/-! ### The abort's course -/

/-- The part at a nest abort once the owner has stopped and the step has retired ABORTED (R46). -/
def abortedStep (n : NestId) (c : AbortCause) (s : Part) : Part :=
  ((s.recordFault n c.fault).stopOwner n .stop).retire n .aborted c.detail ((s.stopOwner n .stop).leftFor n)

theorem abortChain_step (n : NestId) (c : AbortCause) (s : Part) :
    s.abortChain n c = ((s.abortedStep n c).shutDown n).stopNest n := by
  have hreport : ((s.recordFault n c.fault).stopOwner n .stop).reported n = (s.stopOwner n .stop).leftFor n := by
    rw [reported, leftFor, (faultStopped_beside n c.fault s).report rfl]
  rw [abortedStep, ← hreport]
  rfl

/-- The owner's stop at an abort switches no supply and queues no POWER_ON. -/
theorem PowerApart.stopOwner (h : s.PowerApart n) (cause : EndCause) : (s.stopOwner n cause).PowerApart n :=
  (stopOwner_beside n cause s).apart (.inr h)

theorem faultStopped_step (h : (b.nsq.get n).step = some st) (k : FaultKind) :
    (((b.recordFault n k).stopOwner n .stop).nsq.get n).step = some st := by
  rw [(faultStopped_beside n k b).sequencer, recordFault_get]
  exact h

/-- The part with the step retired stands beside the part whose owner has stopped. -/
theorem abortedStep_beside (h : (b.nsq.get n).step = some st) (hslot : st.slot.toNat < Config.slotCount)
    (ha : b.PowerApart n) (c : AbortCause) :
    Beside n true (stepWords n st.slot) (b.abortedStep n c) (b.stopOwner n .stop) (b.abortedStep n c) :=
  (faultStopped_beside n c.fault b).retired (faultStopped_step h c.fault) hslot (faultWords_owned n) (ha.stopOwner .stop)
    _ _ _

/-- The sequencer once the step has retired, as far as the abort shows it. -/
theorem abortedStep_get (h : (b.nsq.get n).step = some st) (c : AbortCause) :
    ((b.abortedStep n c).nsq.get n).limit = (b.nsq.get n).limit ∧
      ((b.abortedStep n c).nsq.get n).unit.state = (b.nsq.get n).unit.state ∧
      ((b.abortedStep n c).nsq.get n).state = (((b.recordFault n c.fault).stopOwner n .stop).nsq.get n).state := by
  have hst := faultStopped_step h c.fault
  have hside := faultStopped_beside n c.fault b
  unfold abortedStep
  rw [retire_nsq hst, Bank.get_modify_same, countedUnit_state]
  refine ⟨?_, ?_, rfl⟩
  · rw [hside.sequencer, recordFault_get]
  · rw [hside.sequencer, recordFault_get]

theorem abortedStep_notStopped (h : (b.nsq.get n).step = some st)
    (hb : (b.nsq.get n).state = .running ∨ (b.nsq.get n).state = .held) (c : AbortCause) :
    ((b.abortedStep n c).nsq.get n).state ≠ .stopped := by
  obtain ⟨-, -, hstate⟩ := abortedStep_get h c
  rw [hstate]
  rcases (faultStopped_beside n c.fault b).busy (by rw [recordFault_get]; exact hb) with e | e <;> rw [e] <;> decide

/-- The factors that the owner's stop and the power-off leave, and those that the abort sets (R22, R46). -/
theorem abortedStep_setsOnly (h : (b.nsq.get n).step = some st) (c : AbortCause) :
    b.SetsOnly [factorNotify n, factorFault n, factorFirstFault] (b.abortedStep n c) := by
  intro i hi
  simp only [List.mem_cons, List.not_mem_nil, or_false, not_or] at hi
  obtain ⟨hn, hf, hff⟩ := hi
  have hrest := fault_setsOnly n c.fault b i (by simp [hf, hff])
  rw [← (faultStopped_beside n c.fault b).factor] at hrest
  rw [abortedStep, retire_same (faultStopped_step h c.fault)]
  dsimp only
  split
  · rw [getLsbD_setFlag, hrest]; simp [Ne.symm hn]
  · exact hrest

theorem abortedStep_records (h : (b.nsq.get n).step = some st) (c : AbortCause) :
    b.Records n c.fault (some st.sequence) (b.abortedStep n c) := by
  have hseq : (b.nsq.get n).sequence = some st.sequence := by rw [Nsq.sequence, h]; rfl
  exact ((faultStopped_beside n c.fault b).records (hseq ▸ fault_records n c.fault b)).retire
    (faultStopped_step h c.fault)

theorem abortedStep_retires (h : (b.nsq.get n).step = some st) (c : AbortCause) :
    b.Retires n st .aborted c.detail ((b.stopOwner n .stop).leftFor n) (b.abortedStep n c) := by
  refine (retire_retires (faultStopped_step h c.fault) _ _ _).of_start ?_
  rw [stopOwner_timebase, recordFault_timebase]

/-- The power-off leaves the factors as they stand. -/
theorem requestPowerOff_factor (n : NestId) (s : Part) : (s.requestPowerOff n).factor = s.factor :=
  (Beside.refl (words := faultWords n) s (by simp [faultWords]) (recordFault_beside n .none s).low).requestPowerOff.factor

/-- A nest shut down and stopped once the step is gone differs from the nest powered off by the end of the step alone. -/
theorem Beside.stopped_butForTheStep {slot : W16} (h : Beside n true (stepWords n slot) t s t)
    (hp : AtNest n [nestAt n 7] (t.shutDown n) p)
    (hsets : s.SetsOnly [factorNotify n, factorFault n, factorFirstFault] t) :
    (s.requestPowerOff n).ButForTheStep n slot p := by
  have hopc : p.opc = (t.shutDown n).opc := congrArg (·.opc) hp.same
  have hfac : p.factor = t.factor := (congrArg (·.factor) hp.same).trans h.shutDown_factor
  have hff : p.firstFault = t.firstFault := (congrArg (·.firstFault) hp.same).trans h.shutDown_firstFault
  refine ⟨?_, h.shutDown_others.trans hp.others, hopc ▸ h.shutDown_lamps, fun i hi => ?_,
    (h.shutDown_stores fun i hi => ?_).trans (hp.stores.mono ?_)⟩
  · have hsame := hp.same
    rw [h.shutDown_same] at hsame
    rw [hfac, hff, hopc]
    exact hsame
  · rw [hfac, requestPowerOff_factor]
    exact hsets i hi
  · rcases List.mem_append.1 hi with hi | hi
    · exact hi
    · simp only [List.mem_cons, List.not_mem_nil, or_false] at hi
      rcases hi with rfl | rfl <;> simp [mem_nestWords]
  · simp [mem_nestWords]

/-- From part `s` to part `p` a nest abort has retired step `st` of nest `n` with detail `d`, recorded fault `k`, and powered
off and stopped the nest, where `t` is the part whose owner has stopped, and `u` that part with the nest powered off (R46). -/
def AbortShows (n : NestId) (st : Step) (d : Detail) (k : FaultKind) (s t u p : Part) : Prop :=
  s.Retires n st .aborted d (t.leftFor n) p ∧ (p.nsq.get n).state = .stopped ∧ (p.nsq.get n).hold = .none ∧
    (p.nsq.get n).position = none ∧ (p.nsq.get n).skipping = false ∧ p.word (nestAt n 7) = p.nestStateWord n ∧
    s.Records n k (some st.sequence) p ∧ (p.nsq.get n).limit = (s.nsq.get n).limit ∧
    (p.fxc.get n).state.supplied = false ∧ (p.nsq.get n).unit.state ≠ .opened ∧
    ((s.nsq.get n).unit.state = .opened →
      (p.nsq.get n).unit.state = .aborted ∧ p.word (nestAt n 10) = 5 ∧ p.opc.lamps.get n = .red) ∧
    ((s.nsq.get n).unit.state ≠ .opened → p.opc = u.opc) ∧ u.ButForTheStep n st.slot p

theorem AbortShows.of_start {a : Part} (h : AbortShows n st d k a t u p) (hnsq : a.nsq = s.nsq)
    (hff : a.firstFault = s.firstFault) (htime : a.timebase = s.timebase) : AbortShows n st d k s t u p := by
  obtain ⟨hret, h1, h2, h3, h4, h5, hrecords, hrest⟩ := h
  rw [hnsq] at hrest
  exact ⟨hret.of_start htime, h1, h2, h3, h4, h5, hrecords.of_start hff htime, hrest⟩

/-- All that the abort of a RUNNING or HELD nest shows (R46). -/
theorem abortChain_busy (h : (b.nsq.get n).step = some st) (hslot : st.slot.toNat < Config.slotCount)
    (hb : (b.nsq.get n).state = .running ∨ (b.nsq.get n).state = .held) (ha : b.PowerApart n) (c : AbortCause) :
    AbortShows n st c.detail c.fault b (b.stopOwner n .stop) ((b.stopOwner n .stop).requestPowerOff n)
      (b.abortChain n c) := by
  have hside := abortedStep_beside h hslot ha c
  obtain ⟨hlimit, hunit, -⟩ := abortedStep_get h c
  have hnest := atNest_stopNest n ((b.abortedStep n c).shutDown n)
  have hopc : (((b.abortedStep n c).shutDown n).stopNest n).opc = ((b.abortedStep n c).shutDown n).opc :=
    congrArg (·.opc) hnest.same
  obtain ⟨hclosed, haborted⟩ := abortedAt_state (b.abortedStep n c).timebase ((b.abortedStep n c).nsq.get n).unit
  rw [abortChain_step]
  refine ⟨(abortedStep_retires h c).stopped hside hslot, by rw [stopNest_get], by rw [stopNest_get],
    by rw [stopNest_get], by rw [stopNest_get],
    stopNest_shows (hside.shutDown_notStopped (abortedStep_notStopped h hb c)),
    (hside.shutDown_records (abortedStep_records h c)).stopNest, ?_, ?_, ?_, fun ho => ?_, fun ho => ?_,
    hside.stopped_butForTheStep hnest fun i hi => ?_⟩
  · rw [stopNest_get, hside.shutDown_get]
    exact hlimit
  · rw [hnest.same]
    dsimp only
    rw [shutDown, abortUnit_fxc, hside.requestPowerOff.fixtureState]
    exact requestPowerOff_unsupplied (ha.stopOwner .stop)
  · rw [stopNest_get, hside.shutDown_get]
    exact hclosed
  · rw [← hunit] at ho
    obtain ⟨h10, -, hred⟩ := hside.shutDown_opened ho
    refine ⟨?_, ?_, ?_⟩
    · rw [stopNest_get, hside.shutDown_get]
      exact haborted ho
    · rw [hnest.stores.word (by simp), h10]
    · rw [hopc, hred]
  · rw [hopc]
    exact hside.shutDown_other (by rwa [hunit])
  · rw [(stopOwner_beside n .stop b).factor]
    exact abortedStep_setsOnly h c i hi

/-! ### An outcome before an ABORT event -/

variable {q : List Watched}

theorem dequeued_track {f : Part → Part} (hf : f (s.dequeued q) = (f s).dequeued q) :
    (s.dequeued q).track n f = (s.track n f).dequeued q := by
  have hword (x : Part) : (x.dequeued q).nestStateWord n = x.nestStateWord n := rfl
  simp only [track, hf, hword]
  split <;> rfl

theorem dequeued_countStep (st : Step) (v : Verdict) :
    (s.dequeued q).countStep n st v = (s.countStep n st v).dequeued q := by
  simp only [countStep, dequeued_nsq, apply_ite (dequeued q)]
  rfl

/-- A retirement does not look at the watch queue. -/
theorem dequeued_retire (h : (s.nsq.get n).step = some st) :
    (s.dequeued q).retire n v d r = (s.retire n v d r).dequeued q := by
  have hrecorded : (s.dequeued q).recorded n st v d r = (s.recorded n st v d r).dequeued q := by
    have hfinal : (s.dequeued q).writeFinal st v d r = (s.writeFinal st v d r).dequeued q := rfl
    simp only [recorded, hfinal, dequeued_countStep, dequeued_nsq]
    exact dequeued_track rfl
  rw [retire_eq (s := s.dequeued q) h, retire_eq h, hrecorded]
  split <;> rfl

/-- The outcome of the last posted step is taken alike before and behind a word of the watch queue. -/
theorem dequeued_takeOutcome (h : s.LastStep n st) (hn : o.nest = n) (hq : o.sequence = st.sequence) :
    (s.dequeued q).takeOutcome o = (s.takeOutcome o).dequeued q := by
  subst hn
  have h' : (s.dequeued q).LastStep o.nest st := h
  rw [takeOutcome_last h' hq, takeOutcome_last h hq, ended, dequeued_retire h.1]
  exact dequeued_track rfl

theorem takeOutcome_watchQueue (h : s.LastStep n st) (hn : o.nest = n) (hq : o.sequence = st.sequence) :
    (s.takeOutcome o).watchQueue = s.watchQueue := by
  subst hn
  rw [takeOutcome_last h hq, ended_same h.1]

/-- An ABORT event with no outcome of the step on its way. -/
theorem takeAbortEvent_uncompleted (hw : s.watchQueue = .abort n :: q) (hs : (s.nsq.get n).step = some st)
    (hu : Uncompleted s.sent n st) : s.takeWatchEvent (.abort n) (fun s => (s.takeWaiting n).takeAbort n) =
      (s.dequeued q).takeAbort n := by
  rw [takeWatchEvent_head _ hw]
  exact congrArg (takeAbort n) (takeEarlier_uncompleted (s := s.dequeued q) hs hu)

/-- An ABORT event behind the outcome of the last posted step is taken after it (R28, R46). -/
theorem takeAbortEvent_completed (hw : s.watchQueue = .abort n :: q) (h : s.LastStep n st)
    (hc : Completed s.sent n st o) : s.takeWatchEvent (.abort n) (fun s => (s.takeWaiting n).takeAbort n) =
      (s.takeOutcome o).takeWatchEvent (.abort n) fun s => (s.takeWaiting n).takeAbort n := by
  obtain ⟨hm, hn, hq, huniq⟩ := hc
  have hw' : (s.takeOutcome o).watchQueue = .abort n :: q := (takeOutcome_watchQueue h hn hq).trans hw
  rw [takeAbortEvent_idle hw' (takeOutcome_step h hn hq), ← dequeued_takeOutcome h hn hq, takeWatchEvent_head _ hw]
  exact congrArg (takeAbort n) (takeEarlier_completed (s := s.dequeued q) h.1 ⟨hm, hn, hq, huniq⟩)

/-! ### Aborts of a RUNNING or HELD nest -/

variable (h : (s.nsq.get n).state = .running ∨ (s.nsq.get n).state = .held)
include h

theorem takeAbort_busy : s.takeAbort n = s.abortChain n .request := by
  rcases h with h | h <;> simp only [takeAbort, h]

theorem takeLidAbort_busy : s.takeLidAbort n = s.abortChain n .lid := by
  rcases h with h | h <;> simp only [takeLidAbort, h]

theorem takeStationStop_busy : s.takeStationStop n = s.abortChain n .stop := by
  rcases h with h | h <;> simp only [takeStationStop, h]

end Part

/-- Settles O17, by the three causes. -/
theorem nestAbortStopsTheNest : Obligations.NestAbortStopsTheNest := by
  intro n st c d k q s b hcause hbusy hst hslot hapart t u first
  have hshows (a : Part) (hb : b = a) (hnsq : a.nsq = s.part.nsq) (hfxc : a.fxc = s.part.fxc)
      (hqueue : a.powerQueue = s.part.powerQueue) (hff : a.firstFault = s.part.firstFault)
      (htime : a.timebase = s.part.timebase) (cause : AbortCause) :
      Part.AbortShows n st cause.detail cause.fault s.part t u (a.abortChain n cause) := by
    have hst' : (a.nsq.get n).step = some st := by rw [hnsq, hst]
    have ht : t = a.stopOwner n .stop := by rw [Part.stopOwner_eq hst', ← hb]
    have hu : u = (a.stopOwner n .stop).requestPowerOff n := by rw [← ht, ← Part.runs_powerOffRequest]
    rw [ht, hu]
    refine (Part.abortChain_busy hst' hslot (by rw [hnsq]; exact hbusy) ?_ cause).of_start hnsq hff htime
    unfold Part.PowerApart
    rw [hfxc, hqueue]
    exact hapart
  rcases hcause with ⟨rfl, hw, rfl, rfl⟩ | ⟨rfl, rfl, rfl⟩ | ⟨rfl, rfl, rfl⟩
  · have hfirst : first = s.part.sent := if_pos rfl
    rw [hfirst]
    refine ⟨fun hu => answers_of_act
      (f := (·.takeWatchEvent (.abort n) fun s => (s.takeWaiting n).takeAbort n)) rfl ?_, fun o x hlast hc hx => ?_⟩
    · rw [Part.takeAbortEvent_uncompleted hw hst hu, Part.takeAbort_busy (s := s.part.dequeued q) hbusy]
      exact hshows (s.part.dequeued q) (if_pos rfl) rfl rfl rfl rfl rfl .request
    · rw [Part.exec_outcomeFirst] at hx
      cases hx
      exact congrArg (fun p => Host.Outcome.next (⟨p, s.pending⟩ : State)) (Part.takeAbortEvent_completed hw hlast hc)
  · have hfirst : first = s.part.earlier (.lidAbort n) := (if_neg (by simp)).trans (if_pos rfl)
    rw [hfirst]
    refine ⟨fun hu => answers_of_act (f := (·.takeNotice n (.lidAbort n) (·.takeLidAbort n))) rfl ?_,
      fun o x hlast hc hx => ?_⟩
    · rw [Part.takeNotice_uncompleted hst hu, Part.takeLidAbort_busy (s := s.part.took (.lidAbort n)) hbusy]
      exact hshows (s.part.took (.lidAbort n)) ((if_neg (by simp)).trans (if_pos rfl)) rfl rfl rfl rfl rfl .lid
    · rw [Part.exec_outcomeFirst] at hx
      cases hx
      exact congrArg (fun p => Host.Outcome.next (⟨p, s.pending⟩ : State)) (Part.takeNotice_completed hlast hc)
  · have hfirst : first = s.part.earlier (.stationStop n) := (if_neg (by simp)).trans (if_neg (by simp))
    rw [hfirst]
    refine ⟨fun hu => answers_of_act (f := (·.takeNotice n (.stationStop n) (·.takeStationStop n))) rfl ?_,
      fun o x hlast hc hx => ?_⟩
    · rw [Part.takeNotice_uncompleted hst hu, Part.takeStationStop_busy (s := s.part.took (.stationStop n)) hbusy]
      exact hshows (s.part.took (.stationStop n)) ((if_neg (by simp)).trans (if_neg (by simp))) rfl rfl rfl rfl rfl .stop
    · rw [Part.exec_outcomeFirst] at hx
      cases hx
      exact congrArg (fun p => Host.Outcome.next (⟨p, s.pending⟩ : State)) (Part.takeNotice_completed hlast hc)

end Sys2Proof.Machine
end

section
/-! The fixtures, the power queue and the station state: the operations of the other blocks leave them as they are. -/

namespace Sys2Proof.Machine.Part

/-- What the power budget and the supply switches depend on. -/
def supply (s : Part) : Bank 8 Fixture × List PowerEntry × Station := (s.fxc, s.powerQueue, s.station)

variable (s : Part) (n : NestId)

/-! ### Plain updates and messages -/

@[simp] theorem supply_modNsq (f : Nsq → Nsq) : (s.modNsq n f).supply = s.supply := rfl
@[simp] theorem supply_modStu (f : Stimulus → Stimulus) : (s.modStu n f).supply = s.supply := rfl
@[simp] theorem supply_modBuc (f : Bus → Bus) : (s.modBuc n f).supply = s.supply := rfl
@[simp] theorem supply_modGmn (f : Gauges → Gauges) : (s.modGmn n f).supply = s.supply := rfl
@[simp] theorem supply_modLpc (f : Watcher → Watcher) : (s.modLpc n f).supply = s.supply := rfl
@[simp] theorem supply_modPcv (f : Converter → Converter) : (s.modPcv f).supply = s.supply := rfl
@[simp] theorem supply_modOpc (f : Panel → Panel) : (s.modOpc f).supply = s.supply := rfl
@[simp] theorem supply_put (i : Nat) (v : W32) : (s.put i v).supply = s.supply := rfl
@[simp] theorem supply_putNest (k : Nat) (v : W32) : (s.putNest n k v).supply = s.supply := rfl
@[simp] theorem supply_send (m : Notice) : (s.send m).supply = s.supply := rfl
@[simp] theorem supply_took (m : Notice) : (s.took m).supply = s.supply := rfl
@[simp] theorem supply_markLate (ended : Notice → Bool) : (s.markLate ended).supply = s.supply := rfl
@[simp] theorem supply_setFactor (i : Nat) : (s.setFactor i).supply = s.supply := rfl
@[simp] theorem supply_track (f : Part → Part) : (s.track n f).supply = (f s).supply := by simp [supply]
@[simp] theorem supply_keepReport (r : Results) : (s.keepReport n r).supply = s.supply := rfl
@[simp] theorem supply_sendOutcome (v : Verdict) (d : Detail) (r : Results) :
    (s.sendOutcome n v d r).supply = s.supply := by simp [supply]
@[simp] theorem supply_completeStep (k : Kind) (v : Verdict) (d : Detail) (r : Results) :
    (s.completeStep n k v d r).supply = s.supply := by simp [supply]
@[simp] theorem supply_holdEnd : (s.holdEnd n).supply = s.supply := by simp [supply]
@[simp] theorem supply_holdFor (why : HoldReason) : (s.holdFor n why).supply = s.supply := by simp [supply]
@[simp] theorem supply_offerFault (source : Fin 9) (kind : FaultKind) (seq : Option W16) :
    (s.offerFault source kind seq).supply = s.supply := by simp [supply]
@[simp] theorem supply_recordFault (kind : FaultKind) : (s.recordFault n kind).supply = s.supply := by simp [supply]
@[simp] theorem supply_openUnit (tag : W32) : (s.openUnit n tag).supply = s.supply := by simp [supply]
@[simp] theorem supply_closeUnit (u : UnitState) : (s.closeUnit n u).supply = s.supply := by simp [supply]
@[simp] theorem supply_abortUnit : (s.abortUnit n).supply = s.supply := by simp [supply]
@[simp] theorem supply_countStep (st : Step) (v : Verdict) : (s.countStep n st v).supply = s.supply := by simp [supply]

theorem supply_ite {c : Prop} [Decidable c] {a b : Part} (ha : a.supply = s.supply) (hb : b.supply = s.supply) :
    (if c then a else b).supply = s.supply := by split <;> assumption

theorem supply_foldl {α : Type} {f : Part → α → Part} (hf : ∀ (t : Part) (x : α), (f t x).supply = t.supply)
    (l : List α) : (l.foldl f s).supply = s.supply := by
  induction l generalizing s with
  | nil => rfl
  | cons x l ih => exact (ih _).trans (hf s x)

/-! ### Stimulus unit -/

@[simp] theorem supply_modChannel (i : Fin 4) (f : Channel → Channel) : (s.modChannel n i f).supply = s.supply := rfl
@[simp] theorem supply_modSender (e : Fin 2) (f : Sender → Sender) : (s.modSender n e f).supply = s.supply := rfl

@[simp] theorem supply_handSetPulse (st : Step) : (s.handSetPulse n st).1.supply = s.supply := by
  dsimp only [handSetPulse]; (repeat' split) <;> simp
@[simp] theorem supply_endPeriod (i : Fin 4) : (s.endPeriod n i).supply = s.supply := by
  simp only [endPeriod]; (repeat' split) <;> simp
@[simp] theorem supply_stopBurst (i : Fin 4) : (s.stopBurst n i).supply = s.supply := by
  unfold stopBurst; split <;> simp
@[simp] theorem supply_handSetSender (st : Step) : (s.handSetSender n st).1.supply = s.supply := by
  unfold handSetSender; (repeat' split) <;> simp
@[simp] theorem supply_senderSettles (e : Fin 2) : (s.senderSettles n e).supply = s.supply := by
  unfold senderSettles; (repeat' split) <;> simp
@[simp] theorem supply_stopSenderSettle (e : Fin 2) : (s.stopSenderSettle n e).supply = s.supply := by
  unfold stopSenderSettle; split <;> simp
@[simp] theorem supply_applyLines (mask value : Byte) : (s.applyLines n mask value).supply = s.supply := by
  unfold applyLines; split <;> simp
@[simp] theorem supply_startReplay (mask : BitVec 6) (gapMs : Nat) (code : W16) :
    (s.startReplay n mask gapMs code).1.supply = s.supply := by
  unfold startReplay; split <;> simp
@[simp] theorem supply_gapExpires : (s.gapExpires n).supply = s.supply := by
  unfold gapExpires; (repeat' split) <;> simp
@[simp] theorem supply_restoreSettles : (s.restoreSettles n).supply = s.supply := by
  unfold restoreSettles; (repeat' split) <;> simp
@[simp] theorem supply_endReplay : (s.endReplay n).supply = s.supply := by
  unfold endReplay; (repeat' split) <;> simp

@[simp] theorem supply_enforceIdle : (s.enforceIdle n).supply = s.supply := by
  dsimp only [enforceIdle]; (repeat' split) <;> simp

/-! ### Bus controllers -/

@[simp] theorem supply_modSlot (k : Fin 16) (f : FrameSlot → FrameSlot) : (s.modSlot n k f).supply = s.supply := rfl
@[simp] theorem supply_modFilter (k : Fin 8) (f : Filter → Filter) : (s.modFilter n k f).supply = s.supply := rfl
@[simp] theorem supply_writeSlotStatus (k : Fin 16) : (s.writeSlotStatus n k).supply = s.supply := rfl
@[simp] theorem supply_writeSlotNacks (k : Fin 16) : (s.writeSlotNacks n k).supply = s.supply := rfl
@[simp] theorem supply_changeSlot (k : Fin 16) (f : FrameSlot → FrameSlot) :
    (s.changeSlot n k f).supply = s.supply := by
  simp only [changeSlot]; (repeat' split) <;> simp
@[simp] theorem supply_startTransmission (k : Fin 16) (due : Nat) :
    (s.startTransmission n k due).supply = s.supply := by
  simp only [startTransmission]; (repeat' split) <;> simp
@[simp] theorem supply_arbitrate : (s.arbitrate n).supply = s.supply := by
  simp only [arbitrate]; (repeat' split) <;> simp
@[simp] theorem supply_reachDue (d : Nat) : (s.reachDue n d).supply = s.supply := by simp [reachDue]
@[simp] theorem supply_slotFallsDue (k : Fin 16) : (s.slotFallsDue n k).supply = s.supply := by
  unfold slotFallsDue; (repeat' split) <;> simp
@[simp] theorem supply_writeSlots (p : Fin 16 → Prop) [DecidablePred p] (l : List (Fin 16)) :
    (l.foldl (fun s k => if p k then s.writeSlotStatus n k else s) s).supply = s.supply :=
  supply_foldl s (fun t _ => supply_ite t (by simp) rfl) l
@[simp] theorem supply_muteBus : (s.muteBus n).supply = s.supply := by
  simp only [muteBus]; split <;> simp
@[simp] theorem supply_transmissionEnds (how : TransmissionEnd) : (s.transmissionEnds n how).supply = s.supply := by
  simp only [transmissionEnds]; (repeat' split) <;> simp
@[simp] theorem supply_stopSlot (k : Fin 16) : (s.stopSlot n k).supply = s.supply := by
  unfold stopSlot; split <;> simp
@[simp] theorem supply_clearMute : (s.clearMute n).supply = s.supply := by
  unfold clearMute; split <;> simp
@[simp] theorem supply_startSlot (k : Fin 16) : (s.startSlot n k).supply = s.supply := by simp [startSlot]
@[simp] theorem supply_fallDueAtStart (started : List (Fin 16)) : (s.fallDueAtStart n started).supply = s.supply := by
  simp only [fallDueAtStart]; split <;> simp
@[simp] theorem supply_handFrameRun (st : Step) : (s.handFrameRun n st).1.supply = s.supply := by
  have hstop (l : List (Fin 16)) (t : Part) := supply_foldl t (f := fun s k => s.stopSlot n k) (fun _ _ => by simp) l
  have hstart (l : List (Fin 16)) (t : Part) := supply_foldl t (f := fun s k => s.startSlot n k) (fun _ _ => by simp) l
  simp only [handFrameRun]; (repeat' split) <;> simp [hstop, hstart]
@[simp] theorem supply_preloadSlot (k : Fin 16) (payload : BitVec 64) (mask value : Byte) :
    (s.preloadSlot n k payload mask value).supply = s.supply := by
  unfold preloadSlot; split <;> simp
@[simp] theorem supply_stageLoad (k : Fin 16) (payload : BitVec 64) (mask value : Byte) (sync : Bool) :
    (s.stageLoad n k payload mask value sync).1.supply = s.supply := by
  simp only [stageLoad]; split <;> simp
@[simp] theorem supply_handFrameLoad (st : Step) : (s.handFrameLoad n st).1.supply = s.supply := by
  simp only [handFrameLoad]; (repeat' split) <;> simp
@[simp] theorem supply_endFrameLoad (cause : EndCause) : (s.endFrameLoad n cause).supply = s.supply := by
  unfold endFrameLoad; (repeat' split) <;> simp
@[simp] theorem supply_stageLines (k : Fin 16) (mask value : Byte) :
    (s.stageLines n k mask value).1.supply = s.supply := by
  simp only [stageLines]; split <;> simp
@[simp] theorem supply_handSetLines (st : Step) : (s.handSetLines n st).1.supply = s.supply := by
  have hstaged {t : Part} {b : Option Bool} {k : Fin 16} {mask value : Byte}
      (h : s.stageLines n k mask value = (t, b)) : t.supply = s.supply := by
    rw [← supply_stageLines s n k mask value, h]
  simp only [handSetLines]
  (repeat' split) <;> simp <;> exact hstaged (by assumption)
@[simp] theorem supply_startBus : (s.startBus n).supply = s.supply := by simp [startBus]
@[simp] theorem supply_endCheckFrame : (s.endCheckFrame n).supply = s.supply := by
  unfold endCheckFrame; split <;> simp
@[simp] theorem supply_stopBus : (s.stopBus n).supply = s.supply := by
  have hwrite (l : List (Fin 16)) (t : Part) :=
    supply_foldl t (f := fun s k => (s.writeSlotStatus n k).writeSlotNacks n k) (fun _ _ => by simp) l
  simp only [stopBus, hwrite]; split <;> simp
@[simp] theorem supply_writeCaptureFlags (k : Fin 8) : (s.writeCaptureFlags n k).supply = s.supply := rfl
@[simp] theorem supply_writeCapture (k : Fin 8) : (s.writeCapture n k).supply = s.supply := rfl
@[simp] theorem supply_examine : (s.examine n).1.supply = s.supply := by
  dsimp only [examine]; (repeat' split) <;> simp
@[simp] theorem supply_offerFrame (f : Frame) (il : BitVec 4) (k : Fin 8) :
    (s.offerFrame n f il k).supply = s.supply := by
  have hexamined {t u : Part} {r : Option Results} (h : t.examine n = (u, r)) : u.supply = t.supply := by
    rw [← supply_examine t n, h]
  unfold offerFrame
  split
  · rfl
  · refine supply_ite s (supply_ite s ?_ (by simp)) rfl
    split <;> next h => simp [hexamined h]
@[simp] theorem supply_receptionStarts (il : BitVec 4) : (s.receptionStarts n il).supply = s.supply := by
  unfold receptionStarts; split <;> simp
@[simp] theorem supply_receptionEnds (how : ReceptionEnd) : (s.receptionEnds n how).supply = s.supply := by
  have hoffer (f : Frame) (il : BitVec 4) (l : List (Fin 8)) :=
    supply_foldl s (f := fun s k => s.offerFrame n f il k) (fun _ _ => by simp) l
  unfold receptionEnds; (repeat' split) <;> simp [hoffer]
@[simp] theorem supply_armFilter (k : Fin 8) : (s.armFilter n k).supply = s.supply := rfl
@[simp] theorem supply_handCaptureArm (st : Step) : (s.handCaptureArm n st).1.supply = s.supply := by
  have hdisarm (l : List (Fin 8)) (t : Part) := supply_foldl t
    (f := fun s k => s.modFilter n k fun x => { x with armed := none }) (fun _ _ => by simp) l
  have harm (l : List (Fin 8)) (t : Part) := supply_foldl t (f := fun s k => s.armFilter n k) (fun _ _ => by simp) l
  simp only [handCaptureArm]; split <;> simp [hdisarm, harm]
@[simp] theorem supply_handCheckFrame (st : Step) : (s.handCheckFrame n st).1.supply = s.supply := by
  have hexamined {t u : Part} {r : Option Results} (h : t.examine n = (u, r)) : u.supply = t.supply := by
    rw [← supply_examine t n, h]
  simp only [handCheckFrame]
  (repeat' split) <;> simp <;> next h => simp [hexamined h]

/-! ### Precision converter -/

@[simp] theorem supply_modGrant (f : Grant → Grant) : (s.modGrant f).supply = s.supply := rfl
@[simp] theorem supply_setMeasurement (m : Option Measurement) : (s.setMeasurement n m).supply = s.supply := rfl
@[simp] theorem supply_openRoute : s.openRoute.supply = s.supply := rfl
@[simp] theorem supply_beginPoint (q : W16) (k : Nat) (p : SweepPoint) : (s.beginPoint n q k p).supply = s.supply := rfl
@[simp] theorem supply_grantConverter (q : W16) : (s.grantConverter n q).supply = s.supply := by
  unfold grantConverter; split <;> simp
@[simp] theorem supply_keepMeasurement : (s.keepMeasurement n).supply = s.supply := by
  unfold keepMeasurement; split <;> simp
@[simp] theorem supply_grantHead (q : List (NestId × W16)) : (s.grantHead q).supply = s.supply := by
  induction q generalizing s with
  | nil => rfl
  | cons e q ih => exact supply_ite s (by simp) (by simp [ih])
@[simp] theorem supply_releaseConverter : s.releaseConverter.supply = s.supply := by simp [releaseConverter]
@[simp] theorem supply_handMeasure (st : Step) : (s.handMeasure n st).1.supply = s.supply := by
  simp only [handMeasure]; (repeat' split) <;> simp
@[simp] theorem supply_converterSettles : s.converterSettles.supply = s.supply := by
  unfold converterSettles; (repeat' split) <;> simp
@[simp] theorem supply_completeMeasurement (m : Measurement) : (s.completeMeasurement n m).supply = s.supply := by
  simp [completeMeasurement]
@[simp] theorem supply_completePoint (g : Grant) (m : Measurement) (p : SweepPoint) :
    (s.completePoint g m p).supply = s.supply := by
  simp only [completePoint]; split <;> simp
@[simp] theorem supply_takeSample (code : W16) : (s.takeSample code).supply = s.supply := by
  dsimp only [takeSample]; (repeat' split) <;> simp
@[simp] theorem supply_endMeasurement : (s.endMeasurement n).supply = s.supply := by
  unfold endMeasurement; split <;> simp
@[simp] theorem supply_withdrawMeasurement : (s.withdrawMeasurement n).supply = s.supply := by
  unfold withdrawMeasurement; split <;> simp
@[simp] theorem supply_stopMeasurement : (s.stopMeasurement n).supply = s.supply := by simp [stopMeasurement]

/-! ### Gauge monitors, lamps and pulse capture -/

@[simp] theorem supply_modGauge (g : Fin 4) (f : Gauge → Gauge) : (s.modGauge n g f).supply = s.supply := rfl
@[simp] theorem supply_takeCoilEvent (g : Fin 4) (pair : CoilPair) : (s.takeCoilEvent n g pair).supply = s.supply := by
  dsimp only [takeCoilEvent]; (repeat' split) <;> simp
@[simp] theorem supply_startMonitor : (s.startMonitor n).supply = s.supply := rfl
@[simp] theorem supply_gaugeSettles : (s.gaugeSettles n).supply = s.supply := by
  unfold gaugeSettles; (repeat' split) <;> simp
@[simp] theorem supply_endGaugeCheck : (s.endGaugeCheck n).supply = s.supply := by
  unfold endGaugeCheck; split <;> simp
@[simp] theorem supply_freezeMonitor : (s.freezeMonitor n).supply = s.supply := by simp [freezeMonitor]
@[simp] theorem supply_handGaugeZero (st : Step) : (s.handGaugeZero n st).1.supply = s.supply := by
  unfold handGaugeZero; split <;> simp
@[simp] theorem supply_handCheckGauge (st : Step) : (s.handCheckGauge n st).1.supply = s.supply := by
  dsimp only [handCheckGauge]; (repeat' split) <;> simp
@[simp] theorem supply_takeLampEvent (lamp : Fin 16) (current : W32) :
    (s.takeLampEvent n lamp current).supply = s.supply := by
  simp only [takeLampEvent]; (repeat' split) <;> simp
@[simp] theorem supply_handCheckLamps (st : Step) : (s.handCheckLamps n st).1.supply = s.supply := by
  dsimp only [handCheckLamps]; (repeat' split) <;> simp
@[simp] theorem supply_lampsStable : (s.lampsStable n).supply = s.supply := by
  unfold lampsStable; (repeat' split) <;> simp
@[simp] theorem supply_endLampWatch : (s.endLampWatch n).supply = s.supply := by
  unfold endLampWatch; split <;> simp
@[simp] theorem supply_modInput (i : Fin 4) (f : PulseInput → PulseInput) : (s.modInput n i f).supply = s.supply := rfl
@[simp] theorem supply_takeLevel (i : Fin 4) (high : Bool) : (s.takeLevel n i high).supply = s.supply := by
  dsimp only [takeLevel, takeEdge]; (repeat' split) <;> simp
@[simp] theorem supply_handCheckFreq (st : Step) : (s.handCheckFreq n st).1.supply = s.supply := by
  dsimp only [handCheckFreq]; (repeat' split) <;> simp
@[simp] theorem supply_endCapture : (s.endCapture n).supply = s.supply := by
  unfold endCapture; split <;> simp
@[simp] theorem supply_lpcDeparts : (s.lpcDeparts n).supply = s.supply := by simp [lpcDeparts]

/-! ### Entering and leaving POWERED -/

@[simp] theorem supply_enterPowered : (s.enterPowered n).supply = s.supply := by simp [enterPowered]
@[simp] theorem supply_leavePowered : (s.leavePowered n).supply = s.supply := by simp [leavePowered]

/-! ### Panel controller -/

@[simp] theorem supply_modHead (f : PromptEntry → PromptEntry) : (s.modHead f).supply = s.supply := rfl
@[simp] theorem supply_startTransfer (kind : Link) (first : Byte) (rest : List Byte) :
    (s.startTransfer kind first rest).supply = s.supply := rfl
@[simp] theorem supply_loadText (c : TextCursor) : (s.loadText c).supply = s.supply := by
  unfold loadText; split <;> simp
@[simp] theorem supply_loadNext : s.loadNext.supply = s.supply := by
  unfold loadNext; split <;> simp
@[simp] theorem supply_startText (e : PromptEntry) : (s.startText e).supply = s.supply := by simp [startText]
@[simp] theorem supply_linkStart : s.linkStart.supply = s.supply := by
  dsimp only [linkStart]; (repeat' split) <;> simp
@[simp] theorem supply_abandonReplay : (s.abandonReplay n).supply = s.supply := by simp [abandonReplay]
@[simp] theorem supply_removeEntry : (s.removeEntry n).supply = s.supply := by
  dsimp only [removeEntry]; (repeat' split) <;> simp
@[simp] theorem supply_handPrompt (st : Step) : (s.handPrompt n st).1.supply = s.supply := by
  simp only [handPrompt]; (repeat' split) <;> simp
@[simp] theorem supply_keepUnanswered (e : PromptEntry) : (s.keepUnanswered e).supply = s.supply := rfl
@[simp] theorem supply_answerHead (e : PromptEntry) (pass : Bool) : (s.answerHead e pass).supply = s.supply := by
  cases pass <;> simp [answerHead]
@[simp] theorem supply_repeatHead (e : PromptEntry) : (s.repeatHead e).supply = s.supply := by
  have hreplay {t : Part} {b : Bool} (h : s.startReplay e.nest e.replayMask e.gapMs e.code = (t, b)) :
      t.supply = s.supply := by
    rw [← supply_startReplay s e.nest e.replayMask e.gapMs e.code, h]
  refine supply_ite s ?_ rfl
  split <;> next h => simp [hreplay h]
@[simp] theorem supply_takePress (p : Press) : (s.takePress p).supply = s.supply := by
  unfold takePress; (repeat' split) <;> simp
@[simp] theorem supply_sampleButtons (image : Byte) : (s.sampleButtons image).supply = s.supply := by
  simp only [sampleButtons]; split <;> simp
@[simp] theorem supply_endText : s.endText.supply = s.supply := by
  unfold endText; (repeat' split) <;> simp
@[simp] theorem supply_endTransfer (returned : Byte) : (s.endTransfer returned).supply = s.supply := by
  simp only [endTransfer]; (repeat' split) <;> simp
@[simp] theorem supply_endByte (returned : Byte) : (s.endByte returned).supply = s.supply := by
  unfold endByte; (repeat' split) <;> simp
@[simp] theorem supply_takePollDue : s.takePollDue.supply = s.supply := by
  unfold takePollDue; split <;> simp
@[simp] theorem supply_answerExpires : s.answerExpires.supply = s.supply := by
  unfold answerExpires; (repeat' split) <;> simp
@[simp] theorem supply_takeReplayEnded : (s.takeReplayEnded n).supply = s.supply := by
  unfold takeReplayEnded; split <;> simp
@[simp] theorem supply_takeReplayCut : (s.takeReplayCut n).supply = s.supply := by
  unfold takeReplayCut; split <;> simp
@[simp] theorem supply_withdrawPrompt : (s.withdrawPrompt n).supply = s.supply := by
  unfold withdrawPrompt; split <;> simp
@[simp] theorem supply_dropEntry (e : PromptEntry) : (s.dropEntry e).supply = s.supply := by
  simp only [dropEntry]; split <;> simp
@[simp] theorem supply_stopPanel : s.stopPanel.supply = s.supply := by
  simp [stopPanel, supply_foldl s (fun t e => supply_dropEntry t e)]

/-! ### Sequencers and the exchange port -/

@[simp] theorem supply_putSlot (st : Step) (k : Nat) (v : W32) : (s.putSlot st k v).supply = s.supply := rfl
@[simp] theorem supply_writeFinal (st : Step) (v : Verdict) (d : Detail) (r : Results) :
    (s.writeFinal st v d r).supply = s.supply := by simp [writeFinal]
@[simp] theorem supply_setSkipping (on : Bool) : (s.setSkipping n on).supply = s.supply := by simp [setSkipping]
@[simp] theorem supply_accept (st : Step) : (s.accept n st).supply = s.supply := by simp [accept, writeNestState]
@[simp] theorem supply_beginUnit (st : Step) : (s.beginUnit n st).1.supply = s.supply := by
  simp only [beginUnit]; split <;> simp
@[simp] theorem supply_endUnit : (s.endUnit n).1.supply = s.supply := by
  simp only [endUnit]; split <;> simp
@[simp] theorem supply_beginWait (st : Step) : (s.beginWait n st).supply = s.supply := rfl
@[simp] theorem supply_keepBack : (s.keepBack n).supply = s.supply := rfl
@[simp] theorem supply_setSeqState (q : SeqState) : (s.setSeqState n q).supply = s.supply := by simp [setSeqState]
@[simp] theorem supply_breakChain : (s.breakChain n).supply = s.supply := by simp [breakChain]
@[simp] theorem supply_setLimit (limit : W16) : (s.setLimit n limit).supply = s.supply := rfl
@[simp] theorem supply_postUnderStop (post : W16) : (s.postUnderStop n post).supply = s.supply := by
  simp only [postUnderStop]; (repeat' split) <;> simp
@[simp] theorem supply_stopNest : (s.stopNest n).supply = s.supply := by simp [stopNest]
@[simp] theorem supply_takeHostWrite (word : W16) (bytes : BitVec 4) (value : W32) :
    (s.takeHostWrite word bytes value).supply = s.supply := by
  have hwritten (m : Memory) : { s with mem := m }.supply = s.supply := rfl
  unfold takeHostWrite; (repeat' split) <;> simp [hwritten]
@[simp] theorem supply_takeWatchRequest (w : Watched) : (s.takeWatchRequest w).supply = s.supply := by
  unfold takeWatchRequest; split <;> rfl
@[simp] theorem supply_releaseFirstFault : s.releaseFirstFault.supply = s.supply := by
  unfold releaseFirstFault
  split
  · rfl
  · simp only [supply_put]; rfl
@[simp] theorem supply_rest : s.rest.supply = s.supply :=
  supply_ite s (by simp) (supply_ite s rfl rfl)

end Sys2Proof.Machine.Part
end

section
/-! A fixture changed and shown: what `Part.showing` is, and the operations of the fixture controller as instances of it. -/

namespace Sys2Proof.Machine.Part

variable {s : Part} {n : NestId}

theorem showing_eq (n : NestId) (f : Fixture) (s : Part) :
    s.showing n f = { s with fxc := s.fxc.put n f, mem := (s.showing n f).mem } := by
  unfold showing; dsimp only; split <;> rfl

section
variable (n : NestId) (f : Fixture) (s : Part)

@[simp] theorem showing_fxc : (s.showing n f).fxc = s.fxc.put n f := by rw [showing_eq]
@[simp] theorem showing_ticks : (s.showing n f).ticks = s.ticks := by rw [showing_eq]
@[simp] theorem showing_now : (s.showing n f).now = s.now := by rw [showing_eq]; rfl
@[simp] theorem showing_timebase : (s.showing n f).timebase = s.timebase := by rw [showing_eq]; rfl
@[simp] theorem showing_factor : (s.showing n f).factor = s.factor := by rw [showing_eq]
@[simp] theorem showing_firstFault : (s.showing n f).firstFault = s.firstFault := by rw [showing_eq]
@[simp] theorem showing_station : (s.showing n f).station = s.station := by rw [showing_eq]
@[simp] theorem showing_stopPressed : (s.showing n f).stopPressed = s.stopPressed := by rw [showing_eq]
@[simp] theorem showing_nsq : (s.showing n f).nsq = s.nsq := by rw [showing_eq]
@[simp] theorem showing_powerQueue : (s.showing n f).powerQueue = s.powerQueue := by rw [showing_eq]
@[simp] theorem showing_stu : (s.showing n f).stu = s.stu := by rw [showing_eq]
@[simp] theorem showing_buc : (s.showing n f).buc = s.buc := by rw [showing_eq]
@[simp] theorem showing_gmn : (s.showing n f).gmn = s.gmn := by rw [showing_eq]
@[simp] theorem showing_lpc : (s.showing n f).lpc = s.lpc := by rw [showing_eq]
@[simp] theorem showing_pcv : (s.showing n f).pcv = s.pcv := by rw [showing_eq]
@[simp] theorem showing_opc : (s.showing n f).opc = s.opc := by rw [showing_eq]
@[simp] theorem showing_sent : (s.showing n f).sent = s.sent := by rw [showing_eq]

end

/-- A fixture changed, and its state set and shown (R54). -/
theorem publish_modFxc {h : Fixture → Fixture} {new : FixtureState} (s : Part)
    (hs : (h (s.fxc.get n)).state = (s.fxc.get n).state := by rfl) :
    (s.modFxc n h).publish n new = s.showing n { h (s.fxc.get n) with state := new } := by
  have hword : (s.modFxc n h).nestStateWord n = s.nestStateWord n := by simp [nestStateWord, hs]
  have hput (f g : Fixture) : (s.fxc.put n f).put n g = s.fxc.put n g := Bank.ext_get fun m => by
    simp only [Bank.get_put]; split <;> rfl
  unfold publish track
  rw [hword]
  unfold showing
  simp only [modFxc, Bank.modify, Bank.get_put_same, hput]
  rfl

/-- A fixture changed without its state is changed before it is shown. -/
theorem showing_modFxc {h : Fixture → Fixture} {g : Fixture} (s : Part)
    (hs : (h (s.fxc.get n)).state = (s.fxc.get n).state := by rfl) : (s.modFxc n h).showing n g = s.showing n g := by
  have hword : (s.modFxc n h).nestStateWord n = s.nestStateWord n := by simp [nestStateWord, hs]
  have hput : (s.fxc.modify n h).put n g = s.fxc.put n g := Bank.ext_get fun m => by
    simp only [Bank.get_put, Bank.get_modify]; split <;> rfl
  unfold showing
  rw [hword, modFxc_fxc, hput]
  rfl

/-- A fixture changed twice, and its state set and shown (R54). -/
theorem publish_modFxc_modFxc {h g : Fixture → Fixture} {new : FixtureState} (s : Part)
    (hs : (h (s.fxc.get n)).state = (s.fxc.get n).state := by rfl)
    (hg : (g (h (s.fxc.get n))).state = (h (s.fxc.get n)).state := by rfl) :
    ((s.modFxc n h).modFxc n g).publish n new = s.showing n { g (h (s.fxc.get n)) with state := new } := by
  have e : (s.modFxc n h).fxc.get n = h (s.fxc.get n) := by simp
  rw [publish_modFxc (s.modFxc n h) (by rw [e, hg]), e, showing_modFxc s hs]

theorem publish_eq_showing {new : FixtureState} (n : NestId) (s : Part) :
    s.publish n new = s.showing n { s.fxc.get n with state := new } :=
  track_modFxc n (fun f => { f with state := new }) s

/-- Exchange memory holds NEST_STATE of a nest as its fields read, where it has been written. -/
theorem showing_word_nestState {f : Fixture} (hs : f.state ≠ (s.fxc.get n).state) :
    (s.showing n f).word (nestAt n 7) = (s.showing n f).nestStateWord n := by
  have hne : ({ s with fxc := s.fxc.put n f } : Part).nestStateWord n ≠ s.nestStateWord n := fun e => hs <| by
    have := congrArg (·.extractLsb' 4 3) e
    rw [nestStateWord_fixture, nestStateWord_fixture] at this
    revert this
    simp only [Bank.get_put_same]
    cases f.state <;> cases (s.fxc.get n).state <;> simp [fixtureCode]
  unfold showing
  dsimp only
  rw [if_neg hne]
  exact Memory.word_setWord_same ..

theorem StoresOnly.showing {words : List Nat} {f : Fixture} {t : Part} (h : s.StoresOnly words t)
    (hi : nestAt n 7 ∈ words) : s.StoresOnly words (t.showing n f) := by
  unfold Part.showing
  dsimp only
  split
  · exact h.of_mem rfl
  · exact h.put hi

theorem openSwitch_eq (n : NestId) (s : Part) :
    s.openSwitch n = s.showing n (Fixture.cut (s.now + 20000) (s.fxc.get n)) := publish_modFxc s

theorem closeSwitch_eq (e : PowerEntry) (s : Part) : s.closeSwitch e = s.showing e.nest
    (Fixture.powersUp s.now (msBetween e.accepted s.timebase) (s.word (criteriaAt e.criteria.toNat)) e
      (s.fxc.get e.nest)) := publish_modFxc s

end Sys2Proof.Machine.Part
end

section
/-! The power budget and the supply switches: what every command keeps of them. -/

namespace Sys2Proof.Machine

namespace Part

variable {s t u : Part} {n m : NestId}

/-! ### The nests in POWERING -/

/-- 1 for a nest in POWERING, 0 for any other. -/
def powers (s : Part) (m : NestId) : Nat := if (s.fxc.get m).state = .powering then 1 else 0

theorem poweringCount_eq_sum (s : Part) : s.poweringCount = ∑ m, s.powers m := by
  simp only [poweringCount, powers, ← Finset.card_filter, Finset.card_def, Finset.filter_val]
  rfl

/-- What one nest makes of the count of the nests in POWERING. -/
theorem poweringCount_at (h : ∀ m, m ≠ n → (t.fxc.get m).state = (s.fxc.get m).state) :
    t.poweringCount + s.powers n = s.poweringCount + t.powers n := by
  have hsum (p : Part) := Finset.add_sum_erase Finset.univ p.powers (Finset.mem_univ n)
  have hrest : ∑ m ∈ Finset.univ.erase n, t.powers m = ∑ m ∈ Finset.univ.erase n, s.powers m :=
    Finset.sum_congr rfl fun m hm => by simp only [powers, h m (Finset.ne_of_mem_erase hm)]
  rw [poweringCount_eq_sum, poweringCount_eq_sum, ← hsum t, ← hsum s, hrest]
  omega

theorem powers_powering (h : (s.fxc.get n).state = .powering) : s.powers n = 1 := if_pos h
theorem powers_other (h : (s.fxc.get n).state ≠ .powering) : s.powers n = 0 := if_neg h
theorem powers_le (s : Part) (n : NestId) : s.powers n ≤ 1 := by unfold powers; split <;> decide

theorem poweringCount_congr (h : ∀ m, (t.fxc.get m).state = (s.fxc.get m).state) : t.poweringCount = s.poweringCount := by
  simp only [poweringCount_eq_sum, powers, h]

/-! ### Changes of one fixture -/

/-- A fixture changed and its state published, as one change (R54). -/
theorem publish_modFxc_fxc (f : Fixture → Fixture) (new : FixtureState) (s : Part) :
    ((s.modFxc n f).publish n new).fxc = s.fxc.modify n fun x => { f x with state := new } := by
  simp

theorem closeSwitch_fxc (e : PowerEntry) (s : Part) : (s.closeSwitch e).fxc = s.fxc.modify e.nest
    (Fixture.powersUp s.now (msBetween e.accepted s.timebase) (s.word (criteriaAt e.criteria.toNat)) e) := by
  rw [closeSwitch, publish_modFxc_fxc]
  rfl

theorem fxc_of_supply (e : t.supply = s.supply) : t.fxc = s.fxc := congrArg Prod.fst e

theorem openSwitch_fxc (n : NestId) (s : Part) :
    (s.openSwitch n).fxc = s.fxc.modify n (Fixture.cut (s.now + 20000)) := by
  rw [openSwitch, publish_modFxc_fxc]
  rfl

/-- A switch that closes adds at most one nest to those in POWERING. -/
theorem closeSwitch_count (e : PowerEntry) (s : Part) : (s.closeSwitch e).poweringCount ≤ s.poweringCount + 1 := by
  have h := poweringCount_at (s := s) (t := s.closeSwitch e) (n := e.nest) fun m hm => by
    rw [closeSwitch_fxc, Bank.get_modify_other _ _ hm.symm]
  have := powers_le (s.closeSwitch e) e.nest
  omega

end Part

/-- From part `s` to part `t` the power budget, the guard of the supply switches, and the cut of every supply under station
STOP are kept (R59, R62, R71). -/
structure Part.KeepsSupply (s t : Part) : Prop where
  budget : s.BudgetKept → t.BudgetKept
  guarded : s.SwitchesGuarded → t.SwitchesGuarded
  stop : s.StopCutsSupply → t.StopCutsSupply

namespace Part.KeepsSupply

variable {s t u : Part} {n m : NestId}

theorem refl (s : Part) : s.KeepsSupply s := ⟨id, id, id⟩

theorem trans (h : s.KeepsSupply t) (g : t.KeepsSupply u) : s.KeepsSupply u :=
  ⟨g.budget ∘ h.budget, g.guarded ∘ h.guarded, g.stop ∘ h.stop⟩

/-- An operation that leaves the fixtures, the power queue and the station state. -/
theorem of_supply (h : s.KeepsSupply t) (e : u.supply = t.supply) : s.KeepsSupply u := by
  simp only [supply, Prod.mk.injEq] at e
  obtain ⟨hf, hq, hs⟩ := e
  refine h.trans ⟨?_, ?_, ?_⟩
  · simp [BudgetKept, poweringCount, hf]
  · simp [SwitchesGuarded, hf]
  · simp [StopCutsSupply, hf, hq, hs]

theorem ite {c : Prop} [Decidable c] {a b : Part} (ha : c → s.KeepsSupply a) (hb : ¬ c → s.KeepsSupply b) :
    s.KeepsSupply (if c then a else b) := by
  split
  exacts [ha (by assumption), hb (by assumption)]

theorem foldl {α : Type} {f : Part → α → Part} {l : List α} (h : s.KeepsSupply t)
    (hf : ∀ (t : Part) (x : α), t.KeepsSupply (f t x)) : s.KeepsSupply (l.foldl f t) := by
  induction l generalizing t with
  | nil => exact h
  | cons x l ih => exact ih (h.trans (hf t x))

theorem keepReport {r : Results} (h : s.KeepsSupply t) : s.KeepsSupply (t.keepReport n r) := h.of_supply rfl
theorem sendOutcome {v : Verdict} {d : Detail} {r : Results} (h : s.KeepsSupply t) :
    s.KeepsSupply (t.sendOutcome n v d r) := h.of_supply (by simp)
theorem completeStep {k : Kind} {v : Verdict} {d : Detail} {r : Results} (h : s.KeepsSupply t) :
    s.KeepsSupply (t.completeStep n k v d r) := h.of_supply (by simp)
theorem recordFault {k : FaultKind} (h : s.KeepsSupply t) : s.KeepsSupply (t.recordFault n k) := h.of_supply (by simp)
theorem holdEnd (h : s.KeepsSupply t) : s.KeepsSupply (t.holdEnd n) := h.of_supply (by simp)
theorem holdFor {why : HoldReason} (h : s.KeepsSupply t) : s.KeepsSupply (t.holdFor n why) := h.of_supply (by simp)
theorem enterPowered (h : s.KeepsSupply t) : s.KeepsSupply (t.enterPowered n) := h.of_supply (by simp)
theorem leavePowered (h : s.KeepsSupply t) : s.KeepsSupply (t.leavePowered n) := h.of_supply (by simp)

/-! ### Changes of one fixture -/

/-- One fixture changed, and not from any other state to POWERING: its switch stays guarded, and it does not come to
supply. -/
theorem change {g : Fixture → Fixture} (hu : u.fxc = t.fxc.modify n g) (hq : u.powerQueue = t.powerQueue)
    (hs : u.station = t.station)
    (hp : (g (t.fxc.get n)).state = .powering → (t.fxc.get n).state = .powering)
    (hg : (t.fxc.get n).switchClosed = (t.fxc.get n).state.supplied →
      (g (t.fxc.get n)).switchClosed = (g (t.fxc.get n)).state.supplied)
    (hc : (g (t.fxc.get n)).state.supplied = true → (t.fxc.get n).state.supplied = true) : t.KeepsSupply u where
  budget h := by
    have hat := poweringCount_at (s := t) (t := u) (n := n) fun m hm => by
      rw [hu, Bank.get_modify_other _ _ hm.symm]
    have hle : u.powers n ≤ t.powers n := by
      unfold powers
      rw [hu, Bank.get_modify_same]
      split
      · next hx => simp [hp hx]
      · omega
    unfold BudgetKept at h ⊢
    omega
  guarded h m := by
    rw [hu, Bank.get_modify]
    split
    · next e => exact e ▸ hg (h n)
    · exact h m
  stop h hstop := by
    obtain ⟨hq', hf⟩ := h (hs ▸ hstop)
    refine ⟨hq.trans hq', fun m => ?_⟩
    rw [hu, Bank.get_modify]
    split
    · next e =>
      subst e
      exact Bool.eq_false_iff.2 fun hx => absurd (hc hx) (by simp [hf n])
    · exact hf m

/-- A change of a fixture that leaves its state and its switch. -/
theorem modFxc {f : Fixture → Fixture} (h : s.KeepsSupply t)
    (hf : ∀ x, (f x).state = x.state ∧ (f x).switchClosed = x.switchClosed) : s.KeepsSupply (t.modFxc n f) :=
  h.trans (change rfl rfl rfl (by simp [hf]) (by simp [hf]) (by simp [hf]))

/-- A fixture without supply goes to another state without supply. -/
theorem move {f : Fixture → Fixture} {new : FixtureState} (h : s.KeepsSupply t)
    (hold : (t.fxc.get n).state.supplied = false) (hnew : new.supplied = false)
    (hf : ∀ x, (f x).switchClosed = x.switchClosed) : s.KeepsSupply ((t.modFxc n f).publish n new) :=
  h.trans (change (publish_modFxc_fxc f new t) (by simp) (by simp) (fun e => by subst e; cases hnew)
    (fun e => by rw [hf, e, hold]; exact hnew.symm) fun e => by rw [hnew] at e; cases e)

theorem publish {new : FixtureState} (h : s.KeepsSupply t) (hold : (t.fxc.get n).state.supplied = false)
    (hnew : new.supplied = false) : s.KeepsSupply (t.publish n new) := by
  have := h.move (n := n) (f := id) hold hnew fun _ => rfl
  rwa [show t.modFxc n id = t by simp [Part.modFxc, Bank.modify]] at this

/-! ### Power budget and supply switch -/

/-- The power queue changed, where station STOP leaves it empty. -/
theorem withPowerQueue {q : List PowerEntry} (h : s.KeepsSupply t) (hq : s.StopCutsSupply → t.station = .stopped → q = []) :
    s.KeepsSupply { t with powerQueue := q } :=
  ⟨h.budget, h.guarded, fun hs hstop => ⟨hq hs hstop, (h.stop hs hstop).2⟩⟩

/-- A supply switch closes on a free budget, while station STOP is not latched (R62, R72). -/
theorem closeSwitch {e : PowerEntry} (h : s.KeepsSupply t) (hb : s.BudgetKept → t.poweringCount < Config.powerBudget)
    (hs : s.StopCutsSupply → t.station ≠ .stopped) : s.KeepsSupply (t.closeSwitch e) where
  budget h := (closeSwitch_count e t).trans (hb h)
  guarded hg m := by
    rw [closeSwitch_fxc, Bank.get_modify]
    split
    · rfl
    · exact h.guarded hg m
  stop hc hstop := absurd (by simpa [Part.closeSwitch] using hstop) (hs hc)

/-- The head of the power queue is granted on a free budget (R63). While station STOP is latched the queue is empty. -/
theorem grantPower (h : s.KeepsSupply t) (hb : s.BudgetKept → t.poweringCount < Config.powerBudget) :
    s.KeepsSupply t.grantPower := by
  unfold Part.grantPower
  split
  · exact h
  · next e q hq =>
    have hno (hc : s.StopCutsSupply) : t.station ≠ .stopped := fun hstop => by simpa [hq] using (h.stop hc hstop).1
    have hpop : s.KeepsSupply { t with powerQueue := q } := h.withPowerQueue fun hc hstop => absurd hstop (hno hc)
    exact (hpop.closeSwitch hb hno).holdEnd

/-- A supply switch opens: its nest is cut off (R60). -/
theorem openSwitch (h : s.KeepsSupply t) : s.KeepsSupply (t.openSwitch n) :=
  h.trans (change (openSwitch_fxc n t) (by simp [Part.openSwitch]) (by simp [Part.openSwitch]) (fun e => nomatch e)
    (fun _ => rfl) fun e => nomatch e)

/-- The departure of a nest from POWERING frees the budget that the head of the queue then takes (R63). -/
theorem beginDischarge (h : s.KeepsSupply t) : s.KeepsSupply (t.beginDischarge n) := by
  have hleft : s.KeepsSupply ((t.openSwitch n).leavePowered n) := h.openSwitch.leavePowered
  unfold Part.beginDischarge
  dsimp only
  split
  · next hp =>
    refine hleft.grantPower fun hb => ?_
    have hfxc : ((t.openSwitch n).leavePowered n).fxc = t.fxc.modify n (Fixture.cut (t.now + 20000)) := by
      rw [fxc_of_supply (supply_leavePowered _ n), openSwitch_fxc]
    have hat := poweringCount_at (s := t) (t := (t.openSwitch n).leavePowered n) (n := n) fun m hm => by
      rw [hfxc, Bank.get_modify_other _ _ hm.symm]
    rw [powers_powering hp, powers_other (by rw [hfxc, Bank.get_modify_same]; exact nofun)] at hat
    have := h.budget hb
    unfold BudgetKept at this
    omega
  · exact hleft

theorem fixHeldTime {e : PowerEntry} (h : s.KeepsSupply t) : s.KeepsSupply (t.fixHeldTime e) := h.modFxc (by simp)

theorem withdrawPower (h : s.KeepsSupply t) : s.KeepsSupply (t.withdrawPower n) := by
  unfold Part.withdrawPower
  split
  · exact h
  · exact (h.withPowerQueue fun hc hstop => by rw [(h.stop hc hstop).1]; rfl).fixHeldTime

theorem emptyPowerQueue (h : s.KeepsSupply t) : s.KeepsSupply t.emptyPowerQueue :=
  (h.withPowerQueue fun _ _ => rfl).foldl fun u _ => (refl u).fixHeldTime

theorem endPowering (h : s.KeepsSupply t) : s.KeepsSupply (t.endPowering n) := ite (fun _ => h.beginDischarge) fun _ => h

theorem requestPowerOff (h : s.KeepsSupply t) : s.KeepsSupply (t.requestPowerOff n) :=
  ite (fun _ => h.beginDischarge) fun _ => h

/-! ### Hand-offs and ends of the fixture steps -/

theorem holdFixture (h : s.KeepsSupply t) : s.KeepsSupply (t.holdFixture n).1 := h.modFxc (by simp)

theorem handClamp (s : Part) : s.KeepsSupply (s.handClamp n).1 := by
  dsimp only [Part.handClamp]
  split
  · next hf =>
    have hold : (s.fxc.get n).state.supplied = false := by rw [hf]; rfl
    split_ifs
    exacts [refl s, (refl s).move hold rfl (by simp), (refl s).move hold rfl (by simp)]
  · exact (refl s).holdFixture
  · exact refl s

theorem handUnclamp (s : Part) : s.KeepsSupply (s.handUnclamp n).1 := by
  dsimp only [Part.handUnclamp]
  split
  case h_1 hf | h_2 hf =>
    have hold : (s.fxc.get n).state.supplied = false := by rw [hf]; rfl
    split_ifs
    exacts [(refl s).move hold rfl (by simp), (refl s).move hold rfl (by simp)]
  · exact (refl s).holdFixture
  · exact refl s

theorem handContact {st : Step} (s : Part) : s.KeepsSupply (s.handContact n st).1 := by
  dsimp only [Part.handContact]
  split
  case h_1 hf | h_2 hf =>
    have hold : (s.fxc.get n).state.supplied = false := by rw [hf]; rfl
    split_ifs
    exacts [(refl s).publish hold rfl, (refl s).publish hold rfl]
  · exact (refl s).holdFixture
  · exact refl s

/-- POWER_ON (R61, R62), which is not handed over under station STOP (R72). -/
theorem handPowerOn {st : Step} (hs : s.station ≠ .stopped) : s.KeepsSupply (s.handPowerOn n st).1 := by
  dsimp only [Part.handPowerOn]
  have hmarked (p : Option PowerOnRecord) : s.KeepsSupply (s.modFxc n fun f => { f with powerOn := p }) :=
    (refl s).modFxc (by simp)
  split_ifs with _ _ _ hb
  · exact refl s
  · exact (hmarked _).holdFixture
  · exact refl s
  · exact (hmarked _).closeSwitch (fun _ => hb) fun _ => hs
  · exact (hmarked _).withPowerQueue fun _ hstop => absurd hstop hs

theorem handPowerOff (s : Part) : s.KeepsSupply (s.handPowerOff n).1 := by
  unfold Part.handPowerOff
  split
  exacts [(refl s).beginDischarge, refl s, (refl s).holdFixture, refl s]

theorem handFixture {k : Kind} {st : Step} (hs : s.station ≠ .stopped) : s.KeepsSupply (s.handFixture n k st).1 := by
  unfold Part.handFixture
  split
  exacts [handClamp s, handUnclamp s, handContact s, handPowerOn hs, handPowerOff s, refl s]

theorem endPowerOn {cause : EndCause} (h : s.KeepsSupply t) : s.KeepsSupply (t.endPowerOn n cause) := by
  have hended : s.KeepsSupply (if cause = .deadline then (t.withdrawPower n).endPowering n else t.withdrawPower n) :=
    ite (fun _ => h.withdrawPower.endPowering) fun _ => h.withdrawPower
  exact ite (fun _ => hended.of_supply rfl) fun _ => hended

theorem endFixtureStep {k : Kind} {cause : EndCause} (h : s.KeepsSupply t) :
    s.KeepsSupply (t.endFixtureStep n k cause) := by
  have hfreed : s.KeepsSupply (t.modFxc n fun f => { f with heldStep := false }) := h.modFxc (by simp)
  unfold Part.endFixtureStep
  split
  exacts [hfreed.of_supply rfl, hfreed.of_supply rfl, hfreed.of_supply rfl, hfreed.endPowerOn, hfreed]

/-! ### Sensors and timers -/

theorem reverseClamp (h : s.KeepsSupply t) (hc : (t.fxc.get n).state = .clamping) :
    s.KeepsSupply (t.reverseClamp n) := h.move (by rw [hc]; rfl) rfl (by simp)

theorem clampClosedActive (h : s.KeepsSupply t) : s.KeepsSupply (t.clampClosedActive n) := by
  have himage : s.KeepsSupply (t.modFxc n fun f => { f with clampClosed := true }) := h.modFxc (by simp)
  dsimp only [Part.clampClosedActive]
  split
  · next hc => exact (himage.move (f := fun f => { f with drive := .holdingClosed, motionTimer := none }) (new := .clamped)
      (by rw [hc]; rfl) rfl fun _ => rfl).completeStep
  · exact himage

theorem clampOpenActive (h : s.KeepsSupply t) : s.KeepsSupply (t.clampOpenActive n) := by
  have himage : s.KeepsSupply (t.modFxc n fun f => { f with clampOpen := true }) := h.modFxc (by simp)
  dsimp only [Part.clampOpenActive]
  split
  · next hc => exact (himage.move (f := fun f => { f with drive := .holdingOpen, motionTimer := none }) (new := .opened)
      (by rw [hc]; rfl) rfl fun _ => rfl).completeStep
  · exact himage

theorem lidOpens (h : s.KeepsSupply t) : s.KeepsSupply (t.lidOpens n) := by
  have himage : s.KeepsSupply (t.modFxc n fun f => { f with lidClosed := false }) := h.modFxc (by simp)
  dsimp only [Part.lidOpens]
  split
  · next hc => exact (himage.reverseClamp hc).completeStep
  · next hc =>
    have hopen := himage.publish (new := .clamped) (by rw [hc]; rfl) rfl
    exact ite (fun _ => hopen.withdrawPower.completeStep) fun _ => hopen
  · exact himage.beginDischarge.of_supply rfl
  · exact himage.beginDischarge.of_supply rfl
  · exact himage

theorem tripSupply (h : s.KeepsSupply t) : s.KeepsSupply (t.tripSupply n) := h.beginDischarge.of_supply rfl

theorem fuseTrips (h : s.KeepsSupply t) : s.KeepsSupply (t.fuseTrips n) :=
  have himage : s.KeepsSupply (t.modFxc n fun f => { f with fuseTripped := true }) := h.modFxc (by simp)
  ite (fun _ => himage.tripSupply) fun _ => himage

theorem takeSensor {c : SensorChange} (h : s.KeepsSupply t) : s.KeepsSupply (t.takeSensor n c) := by
  unfold Part.takeSensor
  split
  exacts [h.clampClosedActive, h.modFxc (by simp), h.clampOpenActive, h.modFxc (by simp), h.lidOpens, h.modFxc (by simp),
    h.modFxc (by simp), h.modFxc (by simp), h.fuseTrips, h.modFxc (by simp)]

theorem motionExpires (h : s.KeepsSupply t) : s.KeepsSupply (t.motionExpires n) := by
  have hstopped : s.KeepsSupply (t.modFxc n fun f => { f with motionTimer := none }) := h.modFxc (by simp)
  refine ite (fun _ => h) fun _ => ?_
  dsimp only
  split
  · next hc => exact (hstopped.reverseClamp hc).recordFault.completeStep
  · exact hstopped.recordFault.completeStep
  · exact hstopped

/-- A nest in POWERING becomes POWERED, with its supply switch as it stands (R65). -/
theorem publishPowered {f : Fixture → Fixture} (h : s.KeepsSupply t) (hp : (t.fxc.get n).state = .powering)
    (hf : ∀ x, (f x).switchClosed = x.switchClosed) : s.KeepsSupply ((t.modFxc n f).publish n .powered) :=
  h.trans (change (publish_modFxc_fxc f .powered t) (by simp) (by simp) (fun e => nomatch e)
    (fun e => by rw [hf, e, hp]; rfl) fun _ => by rw [hp]; rfl)

/-- A nest that has become POWERED has freed its place in the budget. -/
theorem count_publishPowered {f : Fixture → Fixture} (hp : (t.fxc.get n).state = .powering) :
    ((t.modFxc n f).publish n .powered).poweringCount + 1 = t.poweringCount := by
  have hat := poweringCount_at (s := t) (t := (t.modFxc n f).publish n .powered) (n := n) fun m hm => by
    rw [publish_modFxc_fxc, Bank.get_modify_other _ _ hm.symm]
  rwa [powers_powering hp, powers_other (by rw [publish_modFxc_fxc, Bank.get_modify_same]; exact nofun)] at hat

theorem poweringCount_of_supply (e : u.supply = t.supply) : u.poweringCount = t.poweringCount := by
  simp only [supply, Prod.mk.injEq] at e
  rw [poweringCount, e.1, poweringCount]

/-- A nest of POWERING becomes POWERED, its POWER_ON passes, and the head of the power queue is granted (R65). -/
theorem inrushGrants {f : Fixture → Fixture} {k : Kind} {v : Verdict} {d : Detail} {r : Results} (h : s.KeepsSupply t)
    (hp : (t.fxc.get n).state = .powering) (hf : ∀ x, (f x).switchClosed = x.switchClosed := by exact fun _ => rfl) :
    s.KeepsSupply ((((t.modFxc n f).publish n .powered).enterPowered n).completeStep n k v d r).grantPower := by
  have hpowered := h.publishPowered hp hf
  refine hpowered.enterPowered.completeStep.grantPower fun hb => ?_
  rw [poweringCount_of_supply (t := (t.modFxc n f).publish n .powered) (by simp)]
  have hcount := count_publishPowered (f := f) hp
  have := h.budget hb
  unfold BudgetKept at this
  omega

/-- The supply check (R65): a nest that becomes POWERED leaves POWERING, and so does one that discharges. -/
theorem inrushExpires (h : s.KeepsSupply t) : s.KeepsSupply (t.inrushExpires n) := by
  have hstopped : s.KeepsSupply (t.modFxc n fun f => { f with inrushTimer := none }) := h.modFxc (by simp)
  dsimp only [Part.inrushExpires]
  split_ifs with hdue hother habove hfuse
  · exact h
  · exact hstopped
  · exact (hstopped.inrushGrants (by simpa using hother)).tripSupply
  · exact hstopped.inrushGrants (by simpa using hother)
  · exact hstopped.beginDischarge.completeStep

end Part.KeepsSupply

end Sys2Proof.Machine
end

section
/-! The power budget and the supply switches, kept by the sequencers, the STOP input, the resets and every step. -/

namespace Sys2Proof.Machine

namespace Part

variable {s : Part}

/-- The fixtures once the switches of the nests of a list have opened. -/
theorem foldl_openSwitch_fxc (l : List NestId) (m : NestId) (s : Part) :
    (l.foldl (fun s n => s.openSwitch n) s).fxc.get m =
      if m ∈ l then Fixture.cut (s.now + 20000) (s.fxc.get m) else s.fxc.get m := by
  induction l generalizing s with
  | nil => simp
  | cons n l ih =>
    rw [List.foldl_cons, ih]
    by_cases hm : n = m
    · subst hm; simp [openSwitch_eq, Fixture.cut]
    · simp [openSwitch_eq, hm, Ne.symm hm]

theorem mem_suppliedNests {m : NestId} : m ∈ s.suppliedNests ↔ (s.fxc.get m).state.supplied = true := by
  simp [suppliedNests]

/-- Once the switches of the supplied nests have opened no nest has supply. -/
theorem foldl_openSwitch_unsupplied (m : NestId) :
    ((s.suppliedNests.foldl (fun s n => s.openSwitch n) s).fxc.get m).state.supplied = false := by
  rw [foldl_openSwitch_fxc]
  split
  · rfl
  · next h => exact Bool.eq_false_iff.2 (mt mem_suppliedNests.2 h)

/-- Switches that open reach the fixtures and exchange memory alone. -/
theorem foldl_openSwitch_eq (l : List NestId) (s : Part) : l.foldl (fun s n => s.openSwitch n) s =
    { s with fxc := (l.foldl (fun s n => s.openSwitch n) s).fxc, mem := (l.foldl (fun s n => s.openSwitch n) s).mem } := by
  induction l generalizing s with
  | nil => rfl
  | cons n l ih => rw [List.foldl_cons, ih, openSwitch_eq, showing_eq]

theorem foldl_fixHeldTime_eq (l : List PowerEntry) (s : Part) :
    l.foldl (fun s e => s.fixHeldTime e) s = { s with fxc := (l.foldl (fun s e => s.fixHeldTime e) s).fxc } := by
  induction l generalizing s with
  | nil => rfl
  | cons e l ih => rw [List.foldl_cons, ih]; rfl

/-- The power queue is emptied, and what the fixtures keep of the waits stands in them alone (R64). -/
theorem emptyPowerQueue_eq (s : Part) : s.emptyPowerQueue = { s with powerQueue := [], fxc := s.emptyPowerQueue.fxc } :=
  foldl_fixHeldTime_eq ..

end Part

namespace Part.KeepsSupply

variable {s t u : Part} {n : NestId}

/-! ### A discharge's end and the STOP input -/

/-- A step HELD FIXTURE taken again, while station STOP does not stand against the nest (R69, R72). -/
theorem reexamine (h : s.KeepsSupply t) (hs : t.station ≠ .stopped) : s.KeepsSupply (t.reexamine n) := by
  have hfreed : s.KeepsSupply (t.modFxc n fun f => { f with heldStep := false }) := h.modFxc (by simp)
  unfold Part.reexamine
  extract_lets freed
  split
  · exact hfreed
  · split
    · exact hfreed
    · next st _ _ k _ =>
      have hhand : s.KeepsSupply (freed.handFixture n k st).1 := hfreed.trans (handFixture (by simpa [freed] using hs))
      split <;> next e => rw [e] at hhand; simpa using hhand.of_supply (by simp)

theorem dischargeExpires (h : s.KeepsSupply t) : s.KeepsSupply (t.dischargeExpires n) := by
  have hstopped : s.KeepsSupply (t.modFxc n fun f => { f with dischargeTimer := none }) := h.modFxc (by simp)
  unfold Part.dischargeExpires
  split
  · exact h
  extract_lets stopped contact ended
  split
  · exact hstopped
  · next hd =>
    have hcontact : s.KeepsSupply contact := hstopped.publish (by rw [Decidable.not_not.1 hd]; rfl) rfl
    have hended : s.KeepsSupply ended := ite (fun _ => hcontact.completeStep) fun _ => hcontact
    refine ite (fun hu => hended.reexamine fun hstop => ?_) fun _ => hended
    simp [(underStop_iff ended n).2 (.inl hstop)] at hu

/-- A station STOP cuts every supply, whatever stood before it (R71). -/
theorem takeStop (s : Part) : s.KeepsSupply s.takeStop := by
  unfold Part.takeStop
  extract_lets stopped flagged emptied supplied opened left released offered noticed
  have hflagged : stopped.KeepsSupply flagged := (refl _).of_supply rfl
  have hemptied : stopped.KeepsSupply emptied := hflagged.emptyPowerQueue
  have hopened : stopped.KeepsSupply opened := hemptied.foldl fun t _ => (refl t).openSwitch
  have hleft : opened.KeepsSupply left := (refl opened).foldl fun t n => (refl t).leavePowered (n := n)
  have hreleased : opened.KeepsSupply released :=
    hleft.foldl fun t n => ite (fun hc => (refl t).reverseClamp (n := n) hc) fun _ => refl t
  have hoffered : opened.KeepsSupply offered := hreleased.of_supply (by simp [offered])
  have hnoticed : opened.KeepsSupply noticed := hoffered.foldl fun t _ => (refl t).of_supply (by simp)
  have hlast : opened.KeepsSupply (noticed.send .panelStop) := hnoticed.of_supply (by simp)
  have hempty : opened.powerQueue = [] := by
    simp only [opened, emptied]
    rw [foldl_openSwitch_eq, emptyPowerQueue_eq]
  have hcut : opened.StopCutsSupply := fun _ => ⟨hempty, fun m => foldl_openSwitch_unsupplied m⟩
  exact ⟨fun h => (hopened.trans hlast).budget h, fun h => (hopened.trans hlast).guarded h, fun _ => hlast.stop hcut⟩

theorem takeStopInput {pressed : Bool} (s : Part) : s.KeepsSupply (s.takeStopInput pressed) :=
  ite (fun _ => takeStop s) fun _ => ite (fun _ => (refl s).of_supply rfl) fun _ => (refl s).of_supply rfl

/-- A part in RUN, where nothing is claimed of station STOP. -/
theorem toRun {g : Part} (hf : g.fxc = s.fxc) (hr : g.station = .run) : s.KeepsSupply g :=
  ⟨by simp [BudgetKept, poweringCount, hf], by simp [SwitchesGuarded, hf], fun _ h => by rw [hr] at h; cases h⟩

theorem takeResume (s : Part) : s.KeepsSupply s.takeResume :=
  ite (fun _ => toRun rfl rfl) fun _ => refl s

/-! ### Hand-offs -/

/-- A hand-off, while station STOP does not bar the step (R72). -/
theorem handOff {k : Kind} {st : Step} (s : Part) (hs : k.barredByStop = true → s.station ≠ .stopped) :
    s.KeepsSupply (s.handOff n k st).1 := by
  have other (h : (s.handOff n k st).1.supply = s.supply) : s.KeepsSupply (s.handOff n k st).1 := (refl s).of_supply h
  cases k with
  | clamp | contact | powerOn | powerOff | unclamp => exact handFixture (hs rfl)
  | unitBegin | unitEnd | wait => exact refl s
  | setPulse | setSender | setLines | frameRun | frameLoad | captureArm | checkFrame | gaugeZero | checkGauge
  | checkLamps | checkFreq | measure | prompt => exact other (by simp [Part.handOff])

/-- The course of an accepted step (R26). -/
theorem perform {st : Step} (s : Part) : s.KeepsSupply (s.perform n st).1 := by
  have h := refl s
  unfold Part.perform
  split
  · exact h
  split
  · exact h
  · exact h.of_supply (by simp)
  · exact h.of_supply (by simp)
  · split
    exacts [h, h.of_supply rfl]
  · next k _ _ _ _ =>
    split
    · exact h.of_supply rfl
    · next hbar =>
      have hhand : s.KeepsSupply (s.handOff n k st).1 := handOff s fun hk hstop => hbar <| by
        simp [hk, (underStop_iff s n).2 (.inl hstop)]
      split <;> next e => rw [e] at hhand; simpa using hhand.of_supply (by simp)

/-! ### Retirement and the chain -/

theorem retire {v : Verdict} {d : Detail} {r : Results} (h : s.KeepsSupply t) : s.KeepsSupply (t.retire n v d r) := by
  unfold Part.retire
  split
  · exact h
  · extract_lets final skipped dropped retired cleared
    have hdropped : s.KeepsSupply dropped := h.of_supply (by simp [dropped, skipped, final])
    have hforgot : s.KeepsSupply (dropped.forgetStep n) :=
      (hdropped.modFxc (n := n) (f := fun f => { f with powerOn := none }) (by simp)).of_supply rfl
    exact (hforgot.of_supply (by split <;> rfl))

theorem follow {k : Nat} (h : s.KeepsSupply t) : s.KeepsSupply (t.follow n k) := by
  induction k generalizing t with
  | zero => exact h.of_supply (by simp [Part.follow])
  | succ k ih =>
    unfold Part.follow
    split
    · exact h.of_supply (by simp)
    · next p _ =>
      have hacc : s.KeepsSupply (t.accept n (t.snapshot p)) := h.of_supply (by simp)
      have hperf := hacc.trans (perform (n := n) (st := t.snapshot p) (t.accept n (t.snapshot p)))
      dsimp only
      split
      · next e => rw [e] at hperf; exact ih hperf.retire
      · next e => rw [e] at hperf; exact hperf

theorem finish {v : Verdict} {d : Detail} {r : Results} (h : s.KeepsSupply t) : s.KeepsSupply (t.finish n v d r) :=
  h.retire.follow

theorem startChain {post : W16} (h : s.KeepsSupply t) : s.KeepsSupply (t.startChain n post) := by
  unfold Part.startChain
  extract_lets head retired based distance posted
  have hbased : s.KeepsSupply based := h.of_supply rfl
  have hposted : s.KeepsSupply posted := hbased.of_supply rfl
  exact ite (fun _ => h.of_supply (by simp)) fun _ => ite (fun _ => hposted.follow) fun _ => hbased.of_supply rfl

theorem changeLimit {post : W16} (h : s.KeepsSupply t) : s.KeepsSupply (t.changeLimit n post) := by
  unfold Part.changeLimit
  split
  · exact h
  · extract_lets distance limited
    have hl : s.KeepsSupply limited := h.of_supply rfl
    exact ite (fun _ => ite (fun _ => hl.follow) fun _ => hl) fun _ => ite (fun _ => h) fun _ => h.of_supply rfl

theorem takePost (h : s.KeepsSupply t) : s.KeepsSupply (t.takePost n) := by
  unfold Part.takePost
  extract_lets post
  split
  · exact ite (fun _ => h.startChain) fun _ => h.of_supply (by simp)
  · exact h
  all_goals exact h.changeLimit

/-! ### Outcomes, timers and notices -/

theorem takeOutcome {o : OwnerOutcome} (h : s.KeepsSupply t) : s.KeepsSupply (t.takeOutcome o) :=
  ite (fun _ => h.finish) fun _ => h

theorem takeEarlier {earlier : List Notice} (h : s.KeepsSupply t) : s.KeepsSupply (t.takeEarlier n earlier) := by
  unfold Part.takeEarlier
  split
  exacts [h.takeOutcome, h]

theorem took {m : Notice} (h : s.KeepsSupply t) : s.KeepsSupply (t.took m) := h.of_supply rfl

theorem takeNotice {m : Notice} {f : Part → Part} (h : s.KeepsSupply t) (hf : ∀ t : Part, t.KeepsSupply (f t)) :
    s.KeepsSupply (t.takeNotice n m f) := h.takeEarlier.took.trans (hf _)

theorem receive {m : Notice} {f : Part → Part} (h : s.KeepsSupply t) (hf : ∀ t : Part, t.KeepsSupply (f t)) :
    s.KeepsSupply (t.receive m f) := ite (fun _ => h.took) fun _ => h.took.trans (hf _)

theorem waitExpires (h : s.KeepsSupply t) : s.KeepsSupply (t.waitExpires n) := ite (fun _ => h.finish) fun _ => h

theorem stopOwner {c : EndCause} (h : s.KeepsSupply t) : s.KeepsSupply (t.stopOwner n c) := by
  unfold Part.stopOwner
  split
  · exact h
  split
  · exact h
  refine ite (fun _ => h) fun _ => ?_
  split
  iterate 5 exact h.endFixtureStep
  iterate 2 · split <;> exact h.of_supply (by simp)
  all_goals exact h.of_supply (by simp)

theorem deadlineExpires (h : s.KeepsSupply t) : s.KeepsSupply (t.deadlineExpires n) := by
  unfold Part.deadlineExpires
  split
  · exact h
  · exact ite (fun _ => h) fun _ => ite (fun _ => h.takeEarlier) fun _ =>
      ((h.stopOwner (n := n) (c := .deadline)).of_supply (by simp)).finish

theorem takeSupplyTrip (h : s.KeepsSupply t) : s.KeepsSupply (t.takeSupplyTrip n) := by
  have hr : s.KeepsSupply (t.recordFault n .supplyTrip) := h.recordFault
  unfold Part.takeSupplyTrip
  refine ite (fun _ => hr) fun _ => ?_
  split
  · exact ((hr.stopOwner (n := n) (c := .stop)).of_supply (by simp)).finish
  · exact hr.of_supply (by simp)

/-! ### Nest abort -/

theorem shutDown (h : s.KeepsSupply t) : s.KeepsSupply (t.shutDown n) :=
  (h.requestPowerOff (n := n)).of_supply (by simp [Part.shutDown])

theorem abortChain {c : AbortCause} (h : s.KeepsSupply t) : s.KeepsSupply (t.abortChain n c) :=
  ((h.recordFault (n := n) (k := c.fault)).stopOwner (n := n) (c := .stop)).retire.shutDown.of_supply (supply_stopNest ..)

theorem takeAbort (h : s.KeepsSupply t) : s.KeepsSupply (t.takeAbort n) := by
  unfold Part.takeAbort
  split
  iterate 3 exact h.abortChain
  exacts [h, (h.shutDown (n := n)).of_supply (by simp)]

theorem takeLidAbort (h : s.KeepsSupply t) : s.KeepsSupply (t.takeLidAbort n) := by
  unfold Part.takeLidAbort
  split
  iterate 3 exact h.abortChain
  exacts [h.recordFault, h.recordFault.shutDown]

theorem takeStationStop (h : s.KeepsSupply t) : s.KeepsSupply (t.takeStationStop n) := by
  unfold Part.takeStationStop
  split
  iterate 3 exact h.abortChain
  exacts [h, h.recordFault.shutDown]

theorem takeWatchEvent {w : Watched} {f : Part → Part} (h : s.KeepsSupply t) (hf : ∀ t : Part, t.KeepsSupply (f t)) :
    s.KeepsSupply (t.takeWatchEvent w f) := by
  unfold Part.takeWatchEvent
  split
  · exact h
  · next v q _ =>
    have hpop : s.KeepsSupply { t with watchQueue := q } := h.of_supply rfl
    exact ite (fun _ => hpop.trans (hf _)) fun _ => h

/-! ### Resets -/

/-- After a reset no nest has supply, and the station is in RUN (R73). -/
theorem atReset (m : Memory) (opc : Panel) (sent : List Notice) (s : Part) : s.KeepsSupply (s.atReset m opc sent) where
  budget _ := by simp [BudgetKept, atReset_poweringCount]
  guarded _ n := by
    rw [atReset_fxc, Bank.get_build, (recover_unsupplied _).1]
    rfl
  stop _ h := nomatch h

theorem stopIfPressed (h : s.KeepsSupply t) : s.KeepsSupply t.stopIfPressed := ite (fun _ => h.trans (takeStop t)) fun _ => h

theorem deviceReset (s : Part) : s.KeepsSupply s.deviceReset := (atReset _ _ _ s).stopIfPressed

theorem powerOn (s : Part) : s.KeepsSupply s.powerOn := (atReset _ _ _ s).stopIfPressed

end Part.KeepsSupply

/-! ### Commands and steps -/

section
open Sys2Proof.Machine.Part

/-- A command whose meaning on the part is `f`. -/
theorem State.act_keepsSupply {f : Part → Part} {s t : State} (hf : s.part.KeepsSupply (f s.part))
    (h : s.act f = .next t) : s.part.KeepsSupply t.part := by
  cases h; exact hf

/-- Every command keeps the power budget and the guard of the supply switches. -/
theorem exec_keepsSupply {c : Instr} {s t : State} (h : exec c s = .next t) : s.part.KeepsSupply t.part := by
  have k := KeepsSupply.refl s.part
  have other {f : Part → Part} (hf : (f s.part).supply = s.part.supply) (h : s.act f = .next t) :
      s.part.KeepsSupply t.part := State.act_keepsSupply (k.of_supply hf) h
  cases c with
  | powerOnReset => exact State.act_keepsSupply (KeepsSupply.powerOn _) h
  | reset => exact State.act_keepsSupply (KeepsSupply.deviceReset _) h
  | resume => exact State.act_keepsSupply (KeepsSupply.takeResume _) h
  | factorClear | maskWrite | registerWriteDiscarded => exact other rfl h
  | hostWrite w b v => exact other (supply_takeHostWrite _ w b v) h
  | watchRequest w =>
    exact other (f := fun s => (s.took (.watchRequest w)).takeWatchRequest w) (supply_takeWatchRequest _ w) h
  | postEvent => exact State.act_keepsSupply (k.takeWatchEvent fun t => (KeepsSupply.refl t).takePost) h
  | waitExpiry => exact State.act_keepsSupply k.waitExpires h
  | faultReleaseEvent =>
    exact State.act_keepsSupply (k.takeWatchEvent fun t => (KeepsSupply.refl t).of_supply (by simp)) h
  | ownerOutcome => exact State.act_keepsSupply (k.receive fun t => (KeepsSupply.refl t).takeOutcome) h
  | deadlineExpiry => exact State.act_keepsSupply k.deadlineExpires h
  | abortEvent =>
    exact State.act_keepsSupply (k.takeWatchEvent fun t => (KeepsSupply.refl t).takeEarlier.takeAbort) h
  | lidAbort => exact State.act_keepsSupply (k.takeNotice fun t => (KeepsSupply.refl t).takeLidAbort) h
  | supplyTripNotice => exact State.act_keepsSupply (k.takeNotice fun t => (KeepsSupply.refl t).takeSupplyTrip) h
  | stationStopNotice => exact State.act_keepsSupply (k.takeNotice fun t => (KeepsSupply.refl t).takeStationStop) h
  | clampClosedSensor => exact State.act_keepsSupply k.clampClosedActive h
  | clampOpenSensor => exact State.act_keepsSupply k.clampOpenActive h
  | motionTimerExpiry => exact State.act_keepsSupply k.motionExpires h
  | lidOpening => exact State.act_keepsSupply k.lidOpens h
  | sensorImageChange => exact State.act_keepsSupply k.takeSensor h
  | fuseTrip => exact State.act_keepsSupply k.fuseTrips h
  | inrushTimerExpiry => exact State.act_keepsSupply k.inrushExpires h
  | powerOnEndRequest => exact State.act_keepsSupply k.endPowering h
  | powerOffRequest => exact State.act_keepsSupply k.requestPowerOff h
  | powerQueueWithdrawal => exact State.act_keepsSupply k.endPowerOn h
  | dischargeTimerExpiry => exact State.act_keepsSupply k.dischargeExpires h
  | stationStop => exact State.act_keepsSupply (KeepsSupply.takeStopInput _) h
  | stopLevelChange => exact State.act_keepsSupply (KeepsSupply.takeStopInput _) h
  | idleEnforcement n => exact other (supply_enforceIdle _ n) h
  | activePhaseEnd n i => exact other (supply_modChannel _ n i _) h
  | periodBoundary n i => exact other (supply_endPeriod _ n i) h
  | burstStopRequest n i => exact other (supply_stopBurst _ n i) h
  | senderSettleExpiry n e => exact other (supply_senderSettles _ n e) h
  | senderSettleStopRequest n e => exact other (supply_stopSenderSettle _ n e) h
  | gapExpiry n => exact other (supply_gapExpires _ n) h
  | restoreSettleExpiry n => exact other (supply_restoreSettles _ n) h
  | endReplayRequest n => exact other (supply_endReplay _ n) h
  | busStart n => exact other (supply_startBus _ n) h
  | urgentStop n => exact other (supply_stopBus _ n) h
  | frameLoadStopRequest n c => exact other (supply_endFrameLoad _ n c) h
  | checkFrameEndRequest n => exact other (supply_endCheckFrame _ n) h
  | slotDue n k => exact other (supply_slotFallsDue _ n k) h
  | transmissionEnd n how => exact other (supply_transmissionEnds _ n how) h
  | receptionStart n il => exact other (supply_receptionStarts _ n il) h
  | receptionEnd n how => exact other (supply_receptionEnds _ n how) h
  | monitorStart n => exact other (supply_startMonitor _ n) h
  | monitorFreeze n => exact other (supply_freezeMonitor _ n) h
  | coilEvent n i pair => exact other (supply_takeCoilEvent _ n i pair) h
  | gaugeSettleExpiry n => exact other (supply_gaugeSettles _ n) h
  | settleWatchEndRequest n => exact other (supply_endGaugeCheck _ n) h
  | lampEvent n i current => exact other (supply_takeLampEvent _ n i current) h
  | stableTimerExpiry n => exact other (supply_lampsStable _ n) h
  | lampWatchEndRequest n => exact other (supply_endLampWatch _ n) h
  | lpcPowerDeparture n => exact other (supply_lpcDeparts _ n) h
  | pulseEdge n i high => exact other (supply_takeLevel _ n i high) h
  | captureEndRequest n => exact other (supply_endCapture _ n) h
  | converterSettleExpiry => exact other (supply_converterSettles _) h
  | sample code => exact other (supply_takeSample _ code) h
  | converterWithdrawal n => exact other (supply_withdrawMeasurement _ n) h
  | converterEndRequest n => exact other (supply_endMeasurement _ n) h
  | converterPowerDeparture n => exact other (supply_stopMeasurement _ n) h
  | pollDue => exact other (supply_takePollDue _) h
  | byteEnd returned => exact other (supply_endByte _ returned) h
  | answerTimerExpiry => exact other (supply_answerExpires _) h
  | replayEndedReport =>
    exact State.act_keepsSupply (k.receive fun t => (KeepsSupply.refl t).of_supply (by simp)) h
  | replayCutReport =>
    exact State.act_keepsSupply (k.receive fun t => (KeepsSupply.refl t).of_supply (by simp)) h
  | promptWithdrawal n => exact other (supply_withdrawPrompt _ n) h
  | panelStationStop => exact other (f := fun s => (s.took .panelStop).stopPanel) (supply_stopPanel _) h

/-- Every step keeps them: a command from the queue, an internal event, or the passing of time. -/
theorem step_keepsSupply {s t : State} (h : step s = .next t) : s.part.KeepsSupply t.part := by
  have k := KeepsSupply.refl s.part
  unfold step at h
  split at h
  · exact (exec_keepsSupply h :)
  · unfold idleStep at h
    split at h
    · cases h; exact k.of_supply (supply_rest _)
    · exact exec_keepsSupply h
    · split at h
      · exact (k.of_supply (u := { s.part with choices := s.part.choices + 1 }) rfl).trans (exec_keepsSupply h)
      · cases h; exact k

end

/-- Settles O58, by what every operation of the part keeps of the fixtures, the power queue and the station state. -/
theorem stepKeepsTheSupplyGuarded : Obligations.StepKeepsTheSupplyGuarded := fun _ _ hb hg h =>
  ⟨(step_keepsSupply h).budget hb, (step_keepsSupply h).guarded hg, (step_keepsSupply h).stop⟩

end Sys2Proof.Machine
end

section
/-! Clamp, lid and contacts: what the fixture controller does to one nest, as the claims state it. -/

namespace Sys2Proof.Machine

namespace Part

variable {s t u : Part} {n : NestId} {k : Kind} {v : Verdict} {d : Detail} {r : Results}

/-! ### Completions -/

theorem completeStep_nestStateWord (n : NestId) (k : Kind) (v : Verdict) (d : Detail) (r : Results) (t : Part)
    (m : NestId) : (t.completeStep n k v d r).nestStateWord m = t.nestStateWord m := by
  have hnsq : ∀ q, (t.completeStep n k v d r).nsq.get m = q →
      q.state = (t.nsq.get m).state ∧ q.hold = (t.nsq.get m).hold ∧ q.skipping = (t.nsq.get m).skipping := by
    rintro q rfl
    rcases completeStep_cases n k v d r t with ⟨e, -⟩ | ⟨st, -, -, -, e⟩ <;> rw [e]
    · exact ⟨rfl, rfl, rfl⟩
    · simp only [Bank.get_put]
      split
      · next hm => rw [hm]; exact ⟨rfl, rfl, rfl⟩
      · exact ⟨rfl, rfl, rfl⟩
  obtain ⟨h1, h2, h3⟩ := hnsq _ rfl
  simp [nestStateWord, h1, h2, h3]

theorem completeStep_word (n : NestId) (k : Kind) (v : Verdict) (d : Detail) (r : Results) (t : Part) (i : Nat) :
    (t.completeStep n k v d r).word i = t.word i := by simp [word]

/-- A completion that finds the step, the results kept for it and the messages as they were in `s`. -/
theorem Completes.congr {p : Part} (h : t.Completes n k v d r [] [] p) (hs : (t.nsq.get n).step = (s.nsq.get n).step)
    (hu : (t.nsq.get n).unhanded = (s.nsq.get n).unhanded) (hr : (t.nsq.get n).report = (s.nsq.get n).report)
    (hm : t.sent = s.sent) : s.Completes n k v d r [] [] p := by
  simpa only [Completes, Sends, keptBack, hs, hu, hr, hm] using h

/-- From part `s` to part `t` the fixture controller has acted on nest `n` alone: on its fixture, on its entry of the
power queue, and on NEST_STATE, which shows the fixture. -/
structure FixtureActs (n : NestId) (s t : Part) : Prop where
  same : t = { s with fxc := t.fxc, mem := t.mem, powerQueue := t.powerQueue }
  others : Bank.AgreeBut n s.fxc t.fxc
  shown : t.word (nestAt n 7) = t.nestStateWord n
  stores : s.StoresOnly [nestAt n 7] t

/-- A fixture that goes to another state is shown. -/
theorem fixtureActs_showing {g : Fixture} (h : g.state ≠ (s.fxc.get n).state) : FixtureActs n s (s.showing n g) where
  same := by conv_lhs => rw [showing_eq]
             simp
  others := by rw [showing_fxc]; exact .put n _ _
  shown := showing_word_nestState h
  stores := StoresOnly.refl.showing (by simp)

namespace FixtureActs

variable (h : FixtureActs n s t)
include h

theorem nsq : t.nsq = s.nsq := congrArg (·.nsq) h.same
theorem sent : t.sent = s.sent := congrArg (·.sent) h.same

theorem withFixtures (q : List PowerEntry) (fxc : Bank 8 Fixture) :
    { t with powerQueue := q, fxc := fxc } = { s with fxc := fxc, mem := t.mem, powerQueue := q } :=
  congrArg (fun x : Part => { x with powerQueue := q, fxc := fxc }) h.same

theorem nestOnly : s.NestOnly n t := by
  rw [h.same]
  exact ⟨.refl n _, h.others, .refl n _, .refl n _, .refl n _, .refl n _⟩

/-- The step of the nest is completed after the fixture controller has acted. -/
theorem completeStep (k : Kind) (v : Verdict) (d : Detail) (r : Results) :
    s.Completes n k v d r [] [] (t.completeStep n k v d r) ∧ s.SequencerKept n (t.completeStep n k v d r) ∧
      (t.completeStep n k v d r).word (nestAt n 7) = (t.completeStep n k v d r).nestStateWord n ∧
      s.StoresOnly [nestAt n 7] (t.completeStep n k v d r) ∧ s.NestOnly n (t.completeStep n k v d r) ∧
      t.completeStep n k v d r =
        { s with
          fxc := t.fxc, nsq := (t.completeStep n k v d r).nsq, mem := (t.completeStep n k v d r).mem
          sent := (t.completeStep n k v d r).sent, powerQueue := t.powerQueue } := by
  obtain ⟨hc, hk, hn, hf⟩ := completeStep_completes s t n k v d r [] h.nsq (by rw [h.sent, List.append_nil])
  have hsame : t.completeStep n k v d r =
      { s with
        fxc := t.fxc, nsq := (t.completeStep n k v d r).nsq, mem := (t.completeStep n k v d r).mem
        sent := (t.completeStep n k v d r).sent, powerQueue := t.powerQueue } := by
    rw [completeStep_mem]
    exact hf.trans (congrArg (fun x : Part => { x with
      nsq := (t.completeStep n k v d r).nsq, sent := (t.completeStep n k v d r).sent }) h.same)
  refine ⟨hc, hk, ?_, h.stores.of_mem (completeStep_mem ..), ?_, hsame⟩
  · rw [completeStep_word, completeStep_nestStateWord, h.shown]
  · rw [hsame]
    exact ⟨hn, h.others, .refl n _, .refl n _, .refl n _, .refl n _⟩

end FixtureActs

/-! ### Clamp motions -/

theorem powerOnResults_congr (h : t.fxc.get n = s.fxc.get n) : t.powerOnResults n = s.powerOnResults n := by
  simp [powerOnResults, h]

theorem clampResults_congr (h : t.fxc.get n = s.fxc.get n) : t.clampResults n = s.clampResults n := by
  simp [clampResults, h]

/-- A closing motion ends at its sensor (R56). -/
theorem clampClosedActive_clamping (h : (s.fxc.get n).state = .clamping) :
    let t := s.showing n { s.fxc.get n with
      state := .clamped, drive := .holdingClosed, clampClosed := true, motionTimer := none }
    s.clampClosedActive n = t.completeStep n .clamp .pass .none (t.clampResults n) := by
  unfold clampClosedActive
  dsimp only
  rw [if_pos (by simpa using h), publish_modFxc_modFxc s]

/-- An opening motion ends at its sensor (R57). -/
theorem clampOpenActive_unclamping (h : (s.fxc.get n).state = .unclamping) :
    let t := s.showing n { s.fxc.get n with
      state := .opened, drive := .holdingOpen, clampOpen := true, motionTimer := none }
    s.clampOpenActive n = t.completeStep n .unclamp .pass .none (t.clampResults n) := by
  unfold clampOpenActive
  dsimp only
  rw [if_pos (by simpa using h), publish_modFxc_modFxc s]

/-- A clamp sensor that no motion waits for reaches its image (R53). -/
theorem clampClosedActive_image (h : (s.fxc.get n).state ≠ .clamping) :
    s.clampClosedActive n = { s with fxc := s.fxc.put n { s.fxc.get n with clampClosed := true } } := by
  unfold clampClosedActive
  dsimp only
  rw [if_neg (by simpa using h)]
  rfl

theorem clampOpenActive_image (h : (s.fxc.get n).state ≠ .unclamping) :
    s.clampOpenActive n = { s with fxc := s.fxc.put n { s.fxc.get n with clampOpen := true } } := by
  unfold clampOpenActive
  dsimp only
  rw [if_neg (by simpa using h)]
  rfl

/-- The end of a clamp motion, as the claims state it. -/
theorem showing_endsMotion {g : Fixture} (h : g.state ≠ (s.fxc.get n).state) (k : Kind) (v : Verdict) (d : Detail) :
    let t := s.showing n g
    let p := t.completeStep n k v d (t.clampResults n)
    p.fxc.get n = g ∧ s.Completes n k v d (p.clampResults n) [] [] p ∧ s.SequencerKept n p ∧
      p.word (nestAt n 7) = p.nestStateWord n ∧ s.StoresOnly [nestAt n 7] p ∧ s.NestOnly n p ∧
      p = { s with fxc := p.fxc, nsq := p.nsq, mem := p.mem, sent := p.sent } := by
  intro t p
  have hacts : FixtureActs n s t := fixtureActs_showing h
  obtain ⟨hc, hk, hw, hst, hn, hf⟩ := hacts.completeStep k v d (t.clampResults n)
  have hfxc : p.fxc = t.fxc := by simp [p]
  refine ⟨by simp [hfxc, t], ?_, hk, hw, hst, hn, ?_⟩
  · rwa [clampResults_congr (congrArg (·.get n) hfxc)]
  · rw [hfxc]
    exact hf.trans (by rw [show t.powerQueue = s.powerQueue from showing_powerQueue n g s])

/-! ### The motion timer -/

theorem recordFault_nestStateWord (n : NestId) (k : FaultKind) (s : Part) (m : NestId) :
    (s.recordFault n k).nestStateWord m = s.nestStateWord m := by
  simp only [nestStateWord, recordFault_nsq, recordFault_fxc, recordFault_buc, Bank.get_modify]
  split
  · next e => rw [e]
  · rfl

/-- A clamp motion that lasts too long, once its timer has stopped and a closing motion has been reversed in part `t`: the
fault and the failed step (R56, R57). -/
theorem motionFails (hsame : t = { s with fxc := t.fxc, mem := t.mem }) (hothers : Bank.AgreeBut n s.fxc t.fxc)
    (hstores : s.StoresOnly [nestAt n 7] t) (k : Kind) :
    let u := t.recordFault n .clampTimeout
    let p := u.completeStep n k .fail .clampTimeout (u.clampResults n)
    p.fxc = t.fxc ∧ s.Completes n k .fail .clampTimeout (p.clampResults n) [] [] p ∧
      s.Records n .clampTimeout (s.nsq.get n).sequence p ∧ (p.nsq.get n).state = (s.nsq.get n).state ∧
      (p.nsq.get n).step = (s.nsq.get n).step ∧
      (t.word (nestAt n 7) = t.nestStateWord n → p.word (nestAt n 7) = p.nestStateWord n) ∧
      s.SetsOnly [factorFault n, factorFirstFault] p ∧
      s.StoresOnly [nestAt n 7, nestAt n 8, ffStateAt, ffStepAt, ffTimeAt] p ∧ s.NestOnly n p ∧
      p = { s with fxc := p.fxc, nsq := p.nsq, mem := p.mem, sent := p.sent, factor := p.factor
                   firstFault := p.firstFault } := by
  intro u p
  have hnsq : t.nsq = s.nsq := congrArg (·.nsq) hsame
  obtain ⟨hc, hk, hn, hf⟩ := completeStep_completes u u n k .fail .clampTimeout (u.clampResults n) [] rfl (by simp)
  have hkept : p.nsq.get n = { u.nsq.get n with report := (p.nsq.get n).report } := hk
  have hfxc : p.fxc = t.fxc := by simp [p, u]
  have hunsq : u.nsq = s.nsq.modify n fun q =>
      { q with fault := .clampTimeout, faultSeq := (s.nsq.get n).sequence } := by rw [recordFault_nsq, hnsq]
  have hget : u.nsq.get n = { s.nsq.get n with fault := .clampTimeout, faultSeq := (s.nsq.get n).sequence } := by
    rw [hunsq, Bank.get_modify_same]
  have hrec : t.Records n .clampTimeout (t.nsq.get n).sequence u := fault_records n .clampTimeout t
  have hframe : p = { s with fxc := p.fxc, nsq := p.nsq, mem := p.mem, sent := p.sent, factor := p.factor
                             firstFault := p.firstFault } := by
    calc
      p = { u with nsq := p.nsq, sent := p.sent } := hf
      _ = { t with nsq := p.nsq, mem := u.mem, sent := p.sent, factor := u.factor, firstFault := u.firstFault } :=
        congrArg (fun x : Part => { x with nsq := p.nsq, sent := p.sent }) (recordFault_same n .clampTimeout t)
      _ = { s with fxc := t.fxc, nsq := p.nsq, mem := u.mem, sent := p.sent, factor := u.factor
                   firstFault := u.firstFault } :=
        congrArg (fun x : Part => { x with
          nsq := p.nsq, mem := u.mem, sent := p.sent, factor := u.factor, firstFault := u.firstFault }) hsame
      _ = _ := by simp [p, u]
  refine ⟨hfxc, ?_, ?_, ?_, ?_, fun hw => ?_, ?_, ?_, ?_, hframe⟩
  · rw [clampResults_congr (t := p) (s := u) (by simp [p])]
    exact hc.congr (by rw [hget]) (by rw [hget]) (by rw [hget]) (by rw [recordFault_sent]; exact congrArg (·.sent) hsame)
  · rw [hnsq] at hrec
    exact (hrec.of_same (by rw [hkept]) (by rw [hkept]) (fun i _ => completeStep_word ..) (by simp)
      (by simp)).of_start (congrArg (·.firstFault) hsame) (by rw [timebase, now, congrArg (·.ticks) hsame]; rfl)
  · rw [hkept, hget]
  · rw [hkept, hget]
  · rw [completeStep_word, completeStep_nestStateWord, recordFault_nestStateWord, ← hw]
    exact (fault_stores n .clampTimeout t).word (by simp)
  · intro i hi
    rw [completeStep_factor, fault_setsOnly n .clampTimeout t i hi, hsame]
  · exact ((hstores.mono (by simp)).trans ((fault_stores n .clampTimeout t).mono (by simp))).of_mem (completeStep_mem ..)
  · rw [hframe]
    refine ⟨?_, hfxc ▸ hothers, .refl n _, .refl n _, .refl n _, .refl n _⟩
    exact (hunsq ▸ .modify n _ _ : Bank.AgreeBut n s.nsq u.nsq).trans hn

/-- A closing motion that lasts too long is reversed (R56). -/
theorem motionExpires_clamping (h : (s.fxc.get n).state = .clamping) (hd : s.Due (s.fxc.get n).motionTimer) :
    let t := s.showing n { s.fxc.get n with state := .unclamping, drive := .opening, motionTimer := none }
    let u := t.recordFault n .clampTimeout
    s.motionExpires n = u.completeStep n .clamp .fail .clampTimeout (u.clampResults n) := by
  have hreverse : (s.modFxc n fun f => { f with motionTimer := none }).reverseClamp n =
      s.showing n { s.fxc.get n with state := .unclamping, drive := .opening, motionTimer := none } :=
    publish_modFxc_modFxc s
  unfold motionExpires
  simp [(expired_iff s _).2 hd, h, hreverse]

/-- An opening motion that lasts too long runs on (R57). -/
theorem motionExpires_unclamping (h : (s.fxc.get n).state = .unclamping) (hd : s.Due (s.fxc.get n).motionTimer) :
    let u := (s.modFxc n fun f => { f with motionTimer := none }).recordFault n .clampTimeout
    s.motionExpires n = u.completeStep n .unclamp .fail .clampTimeout (u.clampResults n) := by
  unfold motionExpires
  simp [(expired_iff s _).2 hd, h]

theorem motionExpires_undue (h : ¬ s.Due (s.fxc.get n).motionTimer) : s.motionExpires n = s := by
  simp [motionExpires, mt (expired_iff s _).1 h]

/-! ### The lid -/

/-- A lid opening that only the image takes (R53, R59). -/
theorem lidOpens_image (h : (s.fxc.get n).state = .opened ∨ (s.fxc.get n).state = .clamped ∨
    (s.fxc.get n).state = .discharging ∨ (s.fxc.get n).state = .unclamping) :
    s.lidOpens n = s.modFxc n fun f => { f with lidClosed := false } := by
  unfold lidOpens
  rcases h with h | h | h | h <;> simp [h]

/-- A lid opening while a clamp closes reverses it (R59). -/
theorem lidOpens_clamping (h : (s.fxc.get n).state = .clamping) :
    let t := s.showing n { s.fxc.get n with
      state := .unclamping, drive := .opening, lidClosed := false, motionTimer := none }
    s.lidOpens n = t.completeStep n .clamp .fail .lidOpened (t.clampResults n) := by
  have hreverse : (s.modFxc n fun f => { f with lidClosed := false }).reverseClamp n =
      s.showing n { s.fxc.get n with
        state := .unclamping, drive := .opening, lidClosed := false, motionTimer := none } :=
    publish_modFxc_modFxc s
  unfold lidOpens
  simp [h, hreverse]

/-- A lid opening in CONTACT_OK while no POWER_ON waits (R59). -/
theorem lidOpens_contactOk (h : (s.fxc.get n).state = .contactOk) (he : s.powerEntry n = none) :
    s.lidOpens n = s.showing n { s.fxc.get n with state := .clamped, lidClosed := false } := by
  have hclamped : (s.modFxc n fun f => { f with lidClosed := false }).publish n .clamped =
      s.showing n { s.fxc.get n with state := .clamped, lidClosed := false } := publish_modFxc s
  have hentry : (s.showing n { s.fxc.get n with state := .clamped, lidClosed := false }).powerEntry n = none := by
    simpa [powerEntry] using he
  unfold lidOpens
  simp [h, hclamped, hentry]

/-- A nest's entry leaves the power queue, and its HELD POWER time is fixed (R64). -/
theorem withdrawPower_entry {e : PowerEntry} (he : s.powerEntry n = some e) : s.withdrawPower n =
    { s with
      powerQueue := s.powerQueue.filter fun e => e.nest ≠ n
      fxc := s.fxc.modify n fun f =>
        { f with powerOn := f.powerOn.map fun p => { p with heldMs := some (msBetween e.accepted s.timebase) } } } := by
  have hn : e.nest = n := by simpa using List.find?_some he
  unfold withdrawPower
  rw [he]
  simp only [fixHeldTime, hn]
  rfl

theorem withdrawPower_none (he : s.powerEntry n = none) : s.withdrawPower n = s := by simp [withdrawPower, he]

/-- A lid opening in CONTACT_OK while a POWER_ON waits (R59, R64). -/
theorem lidOpens_waiting {e : PowerEntry} (h : (s.fxc.get n).state = .contactOk) (he : s.powerEntry n = some e) :
    let t := (s.showing n { s.fxc.get n with state := .clamped, lidClosed := false }).withdrawPower n
    s.lidOpens n = t.completeStep n .powerOn .fail .lidOpened (t.powerOnResults n) := by
  have hclamped : (s.modFxc n fun f => { f with lidClosed := false }).publish n .clamped =
      s.showing n { s.fxc.get n with state := .clamped, lidClosed := false } := publish_modFxc s
  have hentry : (s.showing n { s.fxc.get n with state := .clamped, lidClosed := false }).powerEntry n = some e := by
    simpa [powerEntry] using he
  unfold lidOpens
  simp [h, hclamped, hentry]

/-- The withdrawal leaves the fixture's state, as NEST_STATE shows it. -/
theorem FixtureActs.withdrawPower {e : PowerEntry} (h : FixtureActs n s t) (he : t.powerEntry n = some e) :
    FixtureActs n s (t.withdrawPower n) := by
  rw [withdrawPower_entry he]
  refine ⟨?_, h.others.trans (.modify n _ _), ?_, h.stores.of_mem rfl⟩
  · exact h.withFixtures _ _
  · refine h.shown.trans ?_
    simp [nestStateWord]

/-! ### Hand-offs -/

theorem clampResults_showing {g : Fixture} (h : g.clampClosed = (s.fxc.get n).clampClosed)
    (h' : g.clampOpen = (s.fxc.get n).clampOpen) (h'' : g.lidClosed = (s.fxc.get n).lidClosed) :
    (s.showing n g).clampResults n = s.clampResults n := by simp [clampResults, h, h', h'']

/-- CLAMP in OPEN with the lid closed (R55). -/
theorem handClamp_opened (h : (s.fxc.get n).state = .opened) (hl : (s.fxc.get n).lidClosed = true) : s.handClamp n =
    if (s.fxc.get n).clampClosed then
      (s.showing n { s.fxc.get n with state := .clamped, drive := .holdingClosed }, .pass (s.clampResults n))
    else
      (s.showing n { s.fxc.get n with
        state := .clamping, drive := .closing, motionTimer := some (s.now + 2000000) }, .started) := by
  have hpass : (s.modFxc n fun f => { f with drive := .holdingClosed }).publish n .clamped =
      s.showing n { s.fxc.get n with state := .clamped, drive := .holdingClosed } := publish_modFxc s
  have hstart : (s.modFxc n fun f =>
        { f with drive := .closing, motionTimer := some (s.dueInMs Config.motionMs) }).publish n .clamping =
      s.showing n { s.fxc.get n with
        state := .clamping, drive := .closing, motionTimer := some (s.now + 2000000) } := publish_modFxc s
  have hres := clampResults_showing (s := s) (n := n)
    (g := { s.fxc.get n with state := .clamped, drive := .holdingClosed }) rfl rfl rfl
  unfold handClamp
  simp only [h]
  rw [if_neg (by simp [hl]), hpass, hstart, hres]

/-- UNCLAMP in CLAMPED or CONTACT_OK (R57). -/
theorem handUnclamp_clamped (h : (s.fxc.get n).state = .clamped ∨ (s.fxc.get n).state = .contactOk) :
    s.handUnclamp n =
      if (s.fxc.get n).clampOpen then
        (s.showing n { s.fxc.get n with state := .opened, drive := .holdingOpen }, .pass (s.clampResults n))
      else
        (s.showing n { s.fxc.get n with
          state := .unclamping, drive := .opening, motionTimer := some (s.now + 2000000) }, .started) := by
  have hpass : (s.modFxc n fun f => { f with drive := .holdingOpen }).publish n .opened =
      s.showing n { s.fxc.get n with state := .opened, drive := .holdingOpen } := publish_modFxc s
  have hstart : (s.modFxc n fun f =>
        { f with drive := .opening, motionTimer := some (s.dueInMs Config.motionMs) }).publish n .unclamping =
      s.showing n { s.fxc.get n with
        state := .unclamping, drive := .opening, motionTimer := some (s.now + 2000000) } := publish_modFxc s
  have hres := clampResults_showing (s := s) (n := n)
    (g := { s.fxc.get n with state := .opened, drive := .holdingOpen }) rfl rfl rfl
  unfold handUnclamp
  rcases h with h | h <;> simp only [h] <;> rw [hpass, hstart, hres]

theorem handClamp_discharging (h : (s.fxc.get n).state = .discharging) : s.handClamp n = s.holdFixture n := by
  simp [handClamp, h]

theorem handClamp_refused (hd : (s.fxc.get n).state ≠ .discharging)
    (h : (s.fxc.get n).state ≠ .opened ∨ (s.fxc.get n).lidClosed = false) :
    s.handClamp n = (s, .refuse .badState) := by
  unfold handClamp
  dsimp only
  split
  · next ho => simp [h.resolve_left (not_not.2 ho)]
  · next hs => exact absurd hs hd
  · rfl

theorem handUnclamp_refused (hd : (s.fxc.get n).state ≠ .discharging) (h : (s.fxc.get n).state ≠ .clamped)
    (h' : (s.fxc.get n).state ≠ .contactOk) : s.handUnclamp n = (s, .refuse .badState) := by
  unfold handUnclamp
  dsimp only
  split
  · next hs => exact absurd hs h
  · next hs => exact absurd hs h'
  · next hs => exact absurd hs hd
  · rfl

theorem handUnclamp_discharging (h : (s.fxc.get n).state = .discharging) : s.handUnclamp n = s.holdFixture n := by
  simp [handUnclamp, h]

/-- Every bit of a mask is set in a word, as CONTACT compares them (R58). -/
theorem and_eq_mask_iff (x mask : BitVec 16) :
    x &&& mask = mask ↔ ∀ i : Fin 16, mask.getLsbD i.val = true → x.getLsbD i.val = true := by
  constructor
  · intro h i hi
    have hbit := congrArg (·.getLsbD i.val) h
    simp only [BitVec.getLsbD_and, hi, Bool.and_true] at hbit
    exact hbit
  · intro h
    refine BitVec.eq_of_getLsbD_eq fun i hi => ?_
    rw [BitVec.getLsbD_and]
    cases hm : mask.getLsbD i with
    | false => simp
    | true => simp [h ⟨i, hi⟩ hm]

theorem contactResults_eq (n : NestId) (s : Part) :
    s.contactResults n = ⟨(s.fxc.get n).contacts.setWidth 32, 0, 0, 0, 0⟩ := by
  simp [contactResults, place, Results.zero]

/-- CONTACT in CLAMPED or CONTACT_OK (R58). -/
theorem handContact_clamped {st : Step} (h : (s.fxc.get n).state = .clamped ∨ (s.fxc.get n).state = .contactOk) :
    s.handContact n st =
      if (s.fxc.get n).contacts &&& field (st.w 2) 0 16 = field (st.w 2) 0 16 then
        (s.showing n { s.fxc.get n with state := .contactOk }, .pass (s.contactResults n))
      else (s.showing n { s.fxc.get n with state := .clamped }, .done .fail .contactOpen (s.contactResults n)) := by
  have hok := publish_eq_showing (new := .contactOk) n s
  have hopen := publish_eq_showing (new := .clamped) n s
  unfold handContact
  rcases h with h | h <;> simp only [h] <;> rw [hok, hopen]

theorem handContact_discharging {st : Step} (h : (s.fxc.get n).state = .discharging) :
    s.handContact n st = s.holdFixture n := by simp [handContact, h]

theorem handContact_refused {st : Step} (h : (s.fxc.get n).state ∉ [.clamped, .contactOk, .discharging]) :
    s.handContact n st = (s, .refuse .badState) := by
  unfold handContact
  dsimp only
  split
  case h_4 => rfl
  all_goals next hs => simp [hs] at h

/-- A contact line's image follows the line (R53). -/
theorem contactImage_getLsbD (x : BitVec 16) (i j : Fin 16) (closed : Bool) :
    (if closed then x ||| 1#16 <<< i.val else x &&& ~~~(1#16 <<< i.val)).getLsbD j.val =
      if j = i then closed else x.getLsbD j.val := by
  have hbit : (1#16 <<< i.val).getLsbD j.val = decide (j = i) := by
    rw [Bool.eq_iff_iff]
    simp only [BitVec.getLsbD_shiftLeft, BitVec.getLsbD_one, Bool.and_eq_true, Bool.not_eq_true', decide_eq_true_eq,
      decide_eq_false_iff_not, Fin.ext_iff]
    omega
  cases closed with
  | false =>
    simp only [Bool.false_eq_true, if_false, BitVec.getLsbD_and, BitVec.getLsbD_not, hbit, j.isLt, decide_true,
      Bool.true_and]
    by_cases hj : j = i <;> simp [hj]
  | true =>
    simp only [if_true, BitVec.getLsbD_or, hbit]
    by_cases hj : j = i <;> simp [hj]

end Part

/-- Settles O20, by what each hand-off, sensor and expiry makes of the fixture. -/
theorem clampMotionsEnd : Obligations.ClampMotionsEnd := by
  refine ⟨fun n st s => ?_, fun n s => ?_⟩
  · dsimp only
    refine ⟨fun hf hl => ?_, fun hf => ?_, fun hf => ?_, fun hf hb => ?_, fun h1 h2 h3 => ?_⟩
    · exact Part.handClamp_opened hf hl
    · exact Part.handUnclamp_clamped hf
    · exact ⟨Part.handClamp_discharging hf, Part.handUnclamp_discharging hf⟩
    · exact Part.handClamp_refused hf hb
    · exact Part.handUnclamp_refused h1 h2 h3
  · refine ⟨fun hf => ?_, fun hf => ?_, fun hf => ?_, fun hf => ?_, fun hf hd => ?_, fun hf hd => ?_, fun hd => ?_⟩
    · refine answers_of_act (f := (·.clampClosedActive n)) rfl ?_
      rw [Part.clampClosedActive_clamping hf]
      exact Part.showing_endsMotion (by simp [hf]) ..
    · exact answers_of_act (f := (·.clampClosedActive n)) rfl (Part.clampClosedActive_image hf)
    · refine answers_of_act (f := (·.clampOpenActive n)) rfl ?_
      rw [Part.clampOpenActive_unclamping hf]
      exact Part.showing_endsMotion (by simp [hf]) ..
    · exact answers_of_act (f := (·.clampOpenActive n)) rfl (Part.clampOpenActive_image hf)
    · refine answers_of_act (f := (·.motionExpires n)) rfl ?_
      rw [Part.motionExpires_clamping hf hd]
      have hne : FixtureState.unclamping ≠ (s.part.fxc.get n).state := by simp [hf]
      obtain ⟨h1, h2, h3, h4, h5, h6, h7, h8, h9, h10⟩ := Part.motionFails (s := s.part) (n := n)
        (t := s.part.showing n
          { s.part.fxc.get n with state := .unclamping, drive := .opening, motionTimer := none })
        (by conv_lhs => rw [Part.showing_eq]
            simp)
        (by rw [Part.showing_fxc]; exact .put n _ _) (Part.StoresOnly.refl.showing (by simp)) .clamp
      exact ⟨by rw [h1]; simp, h2, h3, h4, h5, fun _ => h6 (Part.showing_word_nestState hne), h7, h8, h9, h10⟩
    · refine answers_of_act (f := (·.motionExpires n)) rfl ?_
      rw [Part.motionExpires_unclamping hf hd]
      obtain ⟨h1, h2, h3, h4, h5, h6, h7, h8, h9, h10⟩ := Part.motionFails (s := s.part) (n := n)
        (t := s.part.modFxc n fun f => { f with motionTimer := none }) rfl (.modify n _ _) Part.StoresOnly.refl .unclamp
      exact ⟨by rw [h1]; simp, h2, h3, h4, h5, fun h => by simp [hf] at h, h7, h8, h9, h10⟩
    · change s.act (·.motionExpires n) = _
      simp [State.act, Part.motionExpires_undue hd]

/-- Settles O21, by the five states without supply in which a lid opens. -/
theorem lidOpeningWithoutSupply : Obligations.LidOpeningWithoutSupply := by
  intro n s
  refine ⟨fun hf => ?_, fun hf => ?_, fun hf he => ?_, fun e hf he => ?_⟩
  · exact answers_of_act (f := (·.lidOpens n)) rfl (Part.lidOpens_image hf)
  · refine answers_of_act (f := (·.lidOpens n)) rfl ?_
    rw [Part.lidOpens_clamping hf]
    exact Part.showing_endsMotion (by simp [hf]) ..
  · refine answers_of_act (f := (·.lidOpens n)) rfl ?_
    rw [Part.lidOpens_contactOk hf he]
    have hacts : Part.FixtureActs n s.part
        (s.part.showing n { s.part.fxc.get n with state := .clamped, lidClosed := false }) :=
      Part.fixtureActs_showing (by simp [hf])
    refine ⟨by simp, hacts.shown, hacts.stores, hacts.nestOnly, hacts.same.trans ?_⟩
    rw [Part.showing_powerQueue]
  · refine answers_of_act (f := (·.lidOpens n)) rfl ?_
    have hacts : Part.FixtureActs n s.part
        (s.part.showing n { s.part.fxc.get n with state := .clamped, lidClosed := false }) :=
      Part.fixtureActs_showing (by simp [hf])
    have hentry : (s.part.showing n { s.part.fxc.get n with state := .clamped, lidClosed := false }).powerEntry n =
        some e := by simpa [Part.powerEntry] using he
    have hdone := (hacts.withdrawPower hentry).completeStep .powerOn .fail .lidOpened
    rw [Part.lidOpens_waiting hf he]
    dsimp only
    rw [Part.withdrawPower_entry hentry] at hdone ⊢
    obtain ⟨hc, hk, hw, hst, hn, hframe⟩ := hdone (Part.powerOnResults _ n)
    have hq := congrArg (·.powerQueue) hframe
    refine ⟨by simp, by simp, by simp, hq.trans (by simp), ?_, hk, hw, hst, hn, ?_⟩
    · rwa [Part.powerOnResults_congr (congrArg (·.get n) (Part.completeStep_fxc ..))]
    · rw [Part.completeStep_fxc, Part.completeStep_powerQueue]
      exact hframe

/-- Settles O23, by the images that a CONTACT reads and by each sensor's change. -/
theorem sensorImagesFollowTheInputs : Obligations.SensorImagesFollowTheInputs := by
  refine ⟨fun n st s => ?_, fun n s => ?_⟩
  · refine ⟨fun hf => ⟨fun hall => ?_, fun hopen => ?_⟩, fun hf => Part.handContact_discharging hf,
      fun hf => Part.handContact_refused hf⟩
    · refine (Part.handContact_clamped hf).trans ((if_pos ((Part.and_eq_mask_iff _ _).2 hall)).trans ?_)
      rw [Part.contactResults_eq, Answer.pass]
    · refine (Part.handContact_clamped hf).trans ((if_neg (mt (Part.and_eq_mask_iff _ _).1 hopen)).trans ?_)
      rw [Part.contactResults_eq]
  · have image (c : SensorChange) (g : Fixture → Fixture) (h : s.part.takeSensor n c = s.part.modFxc n g) :
        Answers (.sensorImageChange n c) s fun p =>
          p = { s.part with fxc := s.part.fxc.put n (g (s.part.fxc.get n)) } :=
      answers_of_act (f := (·.takeSensor n c)) rfl h
    refine ⟨image _ (fun f => { f with clampClosed := false }) rfl, image _ (fun f => { f with clampOpen := false }) rfl,
      image _ (fun f => { f with lidClosed := true }) rfl, image _ (fun f => { f with fuseTripped := false }) rfl,
      fun above => image _ (fun f => { f with supplyAbove := above }) rfl, fun i closed => ?_, rfl, rfl, rfl, rfl⟩
    refine answers_of_act (f := (·.takeSensor n (.contact i closed))) rfl ⟨fun j => ?_, ?_, ?_, rfl⟩
    · simp only [Part.takeSensor, Part.modFxc_fxc, Bank.get_modify_same]
      exact Part.contactImage_getLsbD _ i j closed
    · simp [Part.takeSensor]
    · exact ⟨.refl n _, .modify n _ _, .refl n _, .refl n _, .refl n _, .refl n _⟩

end Sys2Proof.Machine
end

section
/-! A nest's entry into POWERED and its departure from its supplied states, as the other blocks take them. -/

namespace Sys2Proof.Machine

/-- A change that leaves what it finds leaves the bank. -/
theorem Bank.modify_self {k : Nat} {α : Type} {b : Bank k α} {i : Fin k} {f : α → α} (h : f (b.get i) = b.get i) :
    b.modify i f = b := Bank.ext_get fun j => by
  rw [Bank.get_modify]
  split
  · next e => rw [← e, h]
  · rfl

/-! ### What a departure makes of each block -/

/-- The stimulus of a nest after idle enforcement (R86). -/
def Stimulus.idled (u : Stimulus) : Stimulus where
  channels := Bank.build fun i => (u.channels.get i).idle
  senders := .fill Reset.sender
  lines := .fill .released
  replay := .none

/-- The bus controller of a nest after an urgent stop (R95). -/
def Bus.stopped (b : Bus) : Bus :=
  { b with
    on := false, mute := false, nacks := 0, tx := none, rx := none, loadWait := none, check := none
    slots := Bank.build fun k =>
      { b.slots.get k with
        state := .stopped, preload := false, due := none, pendingDue := none, stagedPayload := none,
        stagedLines := none }
    filters := Bank.build fun k => { b.filters.get k with armed := none } }

/-- The gauge monitors of a nest once they are frozen (R118, R127). -/
def Gauges.frozen (u : Gauges) : Gauges := { u with running := false, check := none }

/-- The lamps and pulse inputs of a nest after its departure (R136, R142). -/
def Watcher.departed (u : Watcher) : Watcher :=
  { u with
    watch := none
    inputs := if u.active.isSome then Bank.build fun i => (u.inputs.get i).idle else u.inputs }

/-- The report of a replay that a departure cuts (R90). -/
def Stimulus.cutReport (n : NestId) (u : Stimulus) : List Notice := if u.replay = .none then [] else [.replayCut n]

namespace Part

variable {s t u : Part} {n m : NestId}

/-- NEST_STATE of a nest reads as its fields do. -/
def Shows (m : NestId) (s : Part) : Prop := s.word (nestAt m 7) = s.nestStateWord m

theorem keepReport_nestStateWord (n m : NestId) (r : Results) (s : Part) :
    (s.keepReport n r).nestStateWord m = s.nestStateWord m := by
  simp only [nestStateWord, keepReport_get]
  rfl

/-- From part `s` to part `t` blocks other than the fixture controller have acted: the fixtures, the power queue, the
station and the faults are as they were, and a NEST_STATE that was shown is shown. -/
structure BlocksAct (s t : Part) : Prop where
  same : t = { s with nsq := t.nsq, mem := t.mem, stu := t.stu, buc := t.buc, gmn := t.gmn, lpc := t.lpc, pcv := t.pcv
                      sent := t.sent }
  shown : ∀ m, s.Shows m → t.Shows m

namespace BlocksAct

theorem refl (s : Part) : s.BlocksAct s := ⟨rfl, fun _ => id⟩

theorem trans (h : s.BlocksAct t) (g : t.BlocksAct u) : s.BlocksAct u :=
  ⟨by rw [g.same, h.same], fun m => g.shown m ∘ h.shown m⟩

theorem ite {c : Prop} [Decidable c] {a b : Part} (ha : s.BlocksAct a) (hb : s.BlocksAct b) :
    s.BlocksAct (if c then a else b) := by split <;> assumption

theorem foldl {α : Type} {f : Part → α → Part} {l : List α} (h : s.BlocksAct t)
    (hf : ∀ (t : Part) (x : α), t.BlocksAct (f t x)) : s.BlocksAct (l.foldl f t) := by
  induction l generalizing t with
  | nil => exact h
  | cons x l ih => exact ih (h.trans (hf t x))

/-- An operation that touches neither exchange memory nor a field that NEST_STATE shows. -/
theorem quiet (h : s.BlocksAct t)
    (hs : u = { t with nsq := u.nsq, mem := u.mem, stu := u.stu, buc := u.buc, gmn := u.gmn, lpc := u.lpc, pcv := u.pcv
                       sent := u.sent } := by rfl)
    (hm : u.mem = t.mem := by rfl) (hw : ∀ m, u.nestStateWord m = t.nestStateWord m := by intro; simp) : s.BlocksAct u :=
  h.trans ⟨hs, fun m hsh => by unfold Shows word at hsh ⊢; rw [hm, hw, hsh]⟩

theorem keepReport {r : Results} (h : s.BlocksAct t) : s.BlocksAct (t.keepReport n r) :=
  h.quiet (hw := fun m => keepReport_nestStateWord n m r t)
theorem modStu {f : Stimulus → Stimulus} (h : s.BlocksAct t) : s.BlocksAct (t.modStu n f) := h.quiet
theorem modGmn {f : Gauges → Gauges} (h : s.BlocksAct t) : s.BlocksAct (t.modGmn n f) := h.quiet
theorem modLpc {f : Watcher → Watcher} (h : s.BlocksAct t) : s.BlocksAct (t.modLpc n f) := h.quiet
theorem modPcv {f : Converter → Converter} (h : s.BlocksAct t) : s.BlocksAct (t.modPcv f) := h.quiet
theorem send {x : Notice} (h : s.BlocksAct t) : s.BlocksAct (t.send x) := h.quiet

theorem modBuc {f : Bus → Bus} (h : s.BlocksAct t) (hf : ∀ b, (f b).mute = b.mute) : s.BlocksAct (t.modBuc n f) :=
  h.quiet (hw := fun m => by
    simp only [nestStateWord, modBuc_buc, modBuc_nsq, modBuc_fxc, Bank.get_modify]
    split
    · rw [hf]
    · rfl)

theorem put {i : Nat} {v : W32} (h : s.BlocksAct t) (hi : ∀ m, i ≠ nestAt m 7) : s.BlocksAct (t.put i v) :=
  h.trans ⟨rfl, fun m hsh => by
    unfold Shows at hsh ⊢
    rw [put_nestStateWord, ← hsh]
    exact Memory.word_setWord_other _ _ (hi m)⟩

/-- A change of one nest of which NEST_STATE shows what it has to. -/
theorem track {f : Part → Part} (h : s.BlocksAct t)
    (hs : f t = { t with nsq := (f t).nsq, buc := (f t).buc })
    (hw : ∀ m, m ≠ n → (f t).nestStateWord m = t.nestStateWord m) : s.BlocksAct (t.track n f) := by
  have hword (i : Nat) : (f t).word i = t.word i :=
    (congrArg (fun p : Part => p.word i) hs).trans rfl
  refine h.trans ⟨?_, fun m hsh => ?_⟩
  · have hs : f t = { t with
        nsq := (f t).nsq, mem := (f t).mem, stu := (f t).stu, buc := (f t).buc, gmn := (f t).gmn, lpc := (f t).lpc
        pcv := (f t).pcv, sent := (f t).sent } := hs.trans (by rw [hs])
    rcases t.track_eq n f with ⟨e, -⟩ | ⟨e, -⟩ <;> rw [e]
    · exact hs
    · exact congrArg (fun p : Part => { p with mem := ((f t).putNest n 7 ((f t).nestStateWord n)).mem }) hs
  · unfold Shows at hsh ⊢
    by_cases hm : m = n
    · subst hm
      rcases t.track_eq m f with ⟨e, he⟩ | ⟨e, -⟩ <;> rw [e]
      · rw [hword, he, hsh]
      · simp
    · have hne : nestAt n 7 ≠ nestAt m 7 := fun e => hm ((nestAt_eq_iff (by decide) (by decide)).1 e).1.symm
      rcases t.track_eq n f with ⟨e, -⟩ | ⟨e, -⟩ <;> rw [e]
      · rw [hword, hw m hm, hsh]
      · rw [putNest_nestStateWord, hw m hm, ← hsh, ← hword]
        exact Memory.word_setWord_other _ _ hne

theorem holdEnd (h : s.BlocksAct t) : s.BlocksAct (t.holdEnd n) :=
  ite (h.track rfl fun m hm => by simp [nestStateWord, Ne.symm hm]) h

theorem enforceIdle (h : s.BlocksAct t) : s.BlocksAct (t.enforceIdle n) := by
  have hkept : s.BlocksAct (match (t.stu.get n).heldResults with | some r => t.keepReport n r | none => t) := by
    split
    exacts [h.keepReport, h]
  exact ite hkept.modStu hkept.modStu.send

theorem endCheckFrame (h : s.BlocksAct t) : s.BlocksAct (t.endCheckFrame n) := by
  unfold Part.endCheckFrame
  split
  exacts [h, (h.modBuc (f := fun b => { b with check := none }) fun _ => rfl).keepReport]

theorem stopBus (h : s.BlocksAct t) : s.BlocksAct (t.stopBus n) := by
  have hkept : s.BlocksAct (match (t.buc.get n).loadWait with | some w => t.keepReport n w.results | none => t) := by
    split
    exacts [h.keepReport, h]
  refine (hkept.endCheckFrame.track (n := n) rfl fun m hm => ?_).foldl fun t k =>
    ((refl t).put fun m => ?_).put fun m => ?_
  · simp [nestStateWord, Ne.symm hm]
  · simp
  · simp

theorem endGaugeCheck (h : s.BlocksAct t) : s.BlocksAct (t.endGaugeCheck n) := by
  unfold Part.endGaugeCheck
  split
  exacts [h, h.modGmn.keepReport]

theorem freezeMonitor (h : s.BlocksAct t) : s.BlocksAct (t.freezeMonitor n) := h.modGmn.endGaugeCheck

theorem lpcDeparts (h : s.BlocksAct t) : s.BlocksAct (t.lpcDeparts n) := by
  have hwatch : s.BlocksAct (t.endLampWatch n) := by
    unfold Part.endLampWatch
    split
    exacts [h, h.modLpc.keepReport]
  unfold Part.lpcDeparts Part.endCapture
  split
  exacts [hwatch, hwatch.modLpc.keepReport]

theorem keepMeasurement (h : s.BlocksAct t) : s.BlocksAct (t.keepMeasurement n) := by
  unfold Part.keepMeasurement
  split
  exacts [h.keepReport, h]

theorem beginPoint {q : W16} {k : Nat} {p : SweepPoint} (h : s.BlocksAct t) : s.BlocksAct (t.beginPoint n q k p) := by
  unfold Part.beginPoint Part.closePoint
  exact h.modPcv.modPcv

theorem grantConverter {q : W16} (h : s.BlocksAct t) : s.BlocksAct (t.grantConverter n q) := by
  unfold Part.grantConverter
  split
  exacts [h.beginPoint, h]

theorem grantHead {q : List (NestId × W16)} (h : s.BlocksAct t) : s.BlocksAct (t.grantHead q) := by
  induction q generalizing t with
  | nil => exact h.modPcv
  | cons e q ih => exact ite h.modPcv.grantConverter.holdEnd (ih h.keepMeasurement)

theorem stopMeasurement (h : s.BlocksAct t) : s.BlocksAct (t.stopMeasurement n) := by
  have hqueue : s.BlocksAct (t.withdrawMeasurement n) := ite h.keepMeasurement.modPcv h
  exact ite (hqueue.keepMeasurement.modPcv.modPcv.modPcv).grantHead hqueue

theorem leavePowered (h : s.BlocksAct t) : s.BlocksAct (t.leavePowered n) :=
  h.enforceIdle.stopBus.freezeMonitor.lpcDeparts.stopMeasurement

theorem enterPowered (h : s.BlocksAct t) : s.BlocksAct (t.enterPowered n) :=
  (h.track (n := n) rfl fun m hm => by simp [nestStateWord, Ne.symm hm]).modGmn

/-! ### What the blocks leave of the rest -/

section
variable (h : s.BlocksAct t)
include h

theorem ticks : t.ticks = s.ticks := congrArg (·.ticks) h.same
theorem now : t.now = s.now := by rw [Part.now, h.ticks, Part.now]
theorem timebase : t.timebase = s.timebase := by rw [Part.timebase, h.now, Part.timebase]
theorem factor : t.factor = s.factor := congrArg (·.factor) h.same
theorem firstFault : t.firstFault = s.firstFault := congrArg (·.firstFault) h.same
theorem station : t.station = s.station := congrArg (·.station) h.same
theorem stopPressed : t.stopPressed = s.stopPressed := congrArg (·.stopPressed) h.same
theorem fxc : t.fxc = s.fxc := congrArg (·.fxc) h.same
theorem powerQueue : t.powerQueue = s.powerQueue := congrArg (·.powerQueue) h.same

end

end BlocksAct

/-! ### Each block after a departure -/

theorem enforceIdle_eq (n : NestId) (s : Part) : s.enforceIdle n =
    { s with
      stu := s.stu.modify n Stimulus.idled, nsq := (s.enforceIdle n).nsq
      sent := s.sent ++ (s.stu.get n).cutReport n } := by
  unfold enforceIdle Stimulus.cutReport
  dsimp only
  split
  · rw [List.append_nil]
    split <;> rfl
  · split <;> rfl

theorem endCheckFrame_eq (n : NestId) (s : Part) : s.endCheckFrame n =
    { s with buc := s.buc.modify n fun b => { b with check := none }, nsq := (s.endCheckFrame n).nsq } := by
  unfold endCheckFrame
  split
  · next h =>
    rw [Bank.modify_self (by rw [← h])]
  · rfl

/-- The words of nest `n`'s frame slots that its departure writes, and NEST_STATE. -/
def departureWords (n : NestId) : List Nat :=
  nestAt n 7 :: (List.finRange 16).flatMap fun k => [frameAt n k 6, frameAt n k 7]

theorem stopBus_eq (n : NestId) (s : Part) : s.stopBus n =
    { s with buc := s.buc.modify n Bus.stopped, nsq := (s.stopBus n).nsq, mem := (s.stopBus n).mem } := by
  have hwrites (l : List (Fin 16)) (t : Part) :
      l.foldl (fun s k => (s.writeSlotStatus n k).writeSlotNacks n k) t =
        { t with mem := (l.foldl (fun s k => (s.writeSlotStatus n k).writeSlotNacks n k) t).mem } := by
    induction l generalizing t with
    | nil => rfl
    | cons k l ih => rw [List.foldl_cons, ih]; rfl
  have htrack (f : Bus → Bus) (t : Part) : t.track n (fun s => s.modBuc n f) =
      { t with buc := t.buc.modify n f, mem := (t.track n fun s => s.modBuc n f).mem } := by
    rcases t.track_eq n (fun s => s.modBuc n f) with ⟨e, -⟩ | ⟨e, -⟩ <;> rw [e] <;> rfl
  unfold stopBus
  dsimp only
  rw [hwrites, htrack, endCheckFrame_eq, Bank.modify_modify]
  split <;> rfl

theorem endGaugeCheck_eq (n : NestId) (s : Part) : s.endGaugeCheck n =
    { s with gmn := s.gmn.modify n fun u => { u with check := none }, nsq := (s.endGaugeCheck n).nsq } := by
  unfold endGaugeCheck
  split
  · next h =>
    rw [Bank.modify_self (by rw [← h])]
  · rfl

theorem freezeMonitor_eq (n : NestId) (s : Part) : s.freezeMonitor n =
    { s with gmn := s.gmn.modify n Gauges.frozen, nsq := (s.freezeMonitor n).nsq } := by
  rw [freezeMonitor, endGaugeCheck_eq, modGmn_gmn, Bank.modify_modify]
  rfl

theorem endLampWatch_eq (n : NestId) (s : Part) : s.endLampWatch n =
    { s with lpc := s.lpc.modify n fun u => { u with watch := none }, nsq := (s.endLampWatch n).nsq } := by
  unfold endLampWatch
  split
  · next h => rw [Bank.modify_self (by rw [← h])]
  · rfl

/-- Every capture ended, if one of them runs (R142). -/
theorem endCapture_eq (n : NestId) (s : Part) : s.endCapture n =
    { s with
      lpc := s.lpc.modify n fun u =>
        { u with inputs := if u.active.isSome then Bank.build fun i => (u.inputs.get i).idle else u.inputs }
      nsq := (s.endCapture n).nsq } := by
  have hactive : ((s.lpc.get n).active.bind fun i =>
      (s.input n i).capture.map fun c => c.results (s.input n i) 0).isSome = (s.lpc.get n).active.isSome := by
    cases ha : (s.lpc.get n).active with
    | none => rfl
    | some i =>
      have hcap : ((s.lpc.get n).inputs.get i).capture.isSome = true := by simpa using List.find?_some ha
      simpa [input] using hcap
  unfold endCapture
  split
  · next h =>
    rw [h] at hactive
    rw [Bank.modify_self (by simp [← hactive])]
  · next r h =>
    rw [h] at hactive
    have : (s.lpc.modify n fun u =>
        { u with inputs := if u.active.isSome then Bank.build fun i => (u.inputs.get i).idle else u.inputs }) =
        s.lpc.modify n fun u => { u with inputs := Bank.build fun i => (u.inputs.get i).idle } := by
      simp [Bank.modify, ← hactive]
    rw [this]
    rfl

theorem lpcDeparts_eq (n : NestId) (s : Part) : s.lpcDeparts n =
    { s with lpc := s.lpc.modify n Watcher.departed, nsq := (s.lpcDeparts n).nsq } := by
  rw [lpcDeparts, endCapture_eq, endLampWatch_eq, Bank.modify_modify]
  rfl

/-- The departure without the converter's part. -/
theorem departs_eq (n : NestId) (s : Part) : (((s.enforceIdle n).stopBus n).freezeMonitor n).lpcDeparts n =
    { s with
      stu := s.stu.modify n Stimulus.idled, buc := s.buc.modify n Bus.stopped, gmn := s.gmn.modify n Gauges.frozen
      lpc := s.lpc.modify n Watcher.departed, sent := s.sent ++ (s.stu.get n).cutReport n
      nsq := ((((s.enforceIdle n).stopBus n).freezeMonitor n).lpcDeparts n).nsq
      mem := ((s.enforceIdle n).stopBus n).mem } := by
  rw [lpcDeparts_eq, freezeMonitor_eq, stopBus_eq, enforceIdle_eq]

/-! ### The converter -/

theorem keepMeasurement_eq (m : NestId) (s : Part) :
    s.keepMeasurement m = { s with nsq := (s.keepMeasurement m).nsq } := by
  unfold keepMeasurement
  split <;> rfl

theorem grantConverter_eq (m : NestId) (q : W16) (s : Part) :
    s.grantConverter m q = { s with pcv := (s.grantConverter m q).pcv } := by
  unfold grantConverter
  split <;> rfl

theorem holdEnd_same (n : NestId) (s : Part) :
    s.holdEnd n = { s with nsq := (s.holdEnd n).nsq, mem := (s.holdEnd n).mem } := by
  obtain ⟨-, -, -, -, h⟩ := holdEnd_ends s n
  exact h

/-- The converter passed on reaches sequencers, memory and its own state. -/
theorem grantHead_eq (q : List (NestId × W16)) (s : Part) : s.grantHead q =
    { s with nsq := (s.grantHead q).nsq, mem := (s.grantHead q).mem, pcv := (s.grantHead q).pcv } := by
  induction q generalizing s with
  | nil => rfl
  | cons e q ih =>
    unfold grantHead
    split
    · rw [holdEnd_same, grantConverter_eq]; rfl
    · rw [ih, keepMeasurement_eq]

theorem withdrawMeasurement_eq (n : NestId) (s : Part) : s.withdrawMeasurement n =
    { s with
      nsq := (s.withdrawMeasurement n).nsq, pcv := { s.pcv with queue := s.pcv.queue.filter fun e => e.1 ≠ n } } := by
  unfold withdrawMeasurement
  split
  · rw [keepMeasurement_eq]; rfl
  · next h =>
    have : s.pcv.queue.filter (fun e => e.1 ≠ n) = s.pcv.queue := List.filter_eq_self.2 fun e he => by
      simpa using fun hn => h (List.any_eq_true.2 ⟨e, he, by simpa using hn⟩)
    rw [this]

theorem endMeasurement_eq (n : NestId) (s : Part) : s.endMeasurement n =
    { s with nsq := (s.endMeasurement n).nsq, mem := (s.endMeasurement n).mem, pcv := (s.endMeasurement n).pcv } := by
  unfold endMeasurement
  split
  · unfold releaseConverter
    rw [grantHead_eq, keepMeasurement_eq]
    rfl
  · rfl

theorem stopMeasurement_eq (n : NestId) (s : Part) : s.stopMeasurement n =
    { s with nsq := (s.stopMeasurement n).nsq, mem := (s.stopMeasurement n).mem, pcv := (s.stopMeasurement n).pcv } := by
  rw [stopMeasurement, endMeasurement_eq, withdrawMeasurement_eq]

/-- The converter passes on to nests of the queue alone (R148). -/
theorem grantHead_grant {q : List (NestId × W16)} {x : Grant} (hs : s.pcv.grant = none)
    (h : (s.grantHead q).pcv.grant = some x) : ∃ e ∈ q, e.1 = x.nest := by
  induction q generalizing s with
  | nil => simp [grantHead, hs] at h
  | cons e q ih =>
    unfold grantHead at h
    split at h
    · refine ⟨e, .head _, ?_⟩
      rw [holdEnd_pcv] at h
      unfold grantConverter at h
      split at h
      · simp [beginPoint, closePoint] at h
        rw [← h]
      · simp [hs] at h
    · obtain ⟨y, hy, e⟩ := ih (by rw [keepMeasurement_eq, hs]) h
      exact ⟨y, .tail _ hy, e⟩

/-- After its departure the converter is not granted to the nest (R155). -/
theorem stopMeasurement_releases {x : Grant} (h : (s.stopMeasurement n).pcv.grant = some x) : x.nest ≠ n := by
  unfold stopMeasurement endMeasurement at h
  split at h
  · unfold releaseConverter at h
    obtain ⟨e, he, hx⟩ := grantHead_grant (by simp) h
    have hq : ∀ e ∈ (s.withdrawMeasurement n).pcv.queue, e.1 ≠ n := fun e he => by
      rw [withdrawMeasurement_eq] at he
      simpa using (List.mem_filter.1 he).2
    rw [← hx]
    refine hq e ?_
    rw [keepMeasurement_eq] at he
    simpa [setMeasurement, openRoute] using he
  · next hno =>
    intro hn
    exact hno (by simp [holdsConverter, h, hn])

/-- A nest without the grant is withdrawn from the converter's queue, and nothing passes on (R153). -/
theorem stopMeasurement_ungranted (h : ∀ x, s.pcv.grant = some x → x.nest ≠ n) : s.stopMeasurement n =
    { s with
      nsq := (s.withdrawMeasurement n).nsq, pcv := { s.pcv with queue := s.pcv.queue.filter fun e => e.1 ≠ n } } := by
  have hno : (s.withdrawMeasurement n).holdsConverter n = false := by
    rw [withdrawMeasurement_eq, holdsConverter]
    cases hg : s.pcv.grant with
    | none => rfl
    | some x => simpa using h x hg
  rw [stopMeasurement, endMeasurement, hno]
  exact withdrawMeasurement_eq n s

/-! ### The whole departure -/

/-- What a departure makes of the blocks (R54). -/
theorem leavePowered_eq (n : NestId) (s : Part) : s.leavePowered n =
    { s with
      stu := s.stu.modify n Stimulus.idled, buc := s.buc.modify n Bus.stopped, gmn := s.gmn.modify n Gauges.frozen
      lpc := s.lpc.modify n Watcher.departed, sent := s.sent ++ (s.stu.get n).cutReport n
      nsq := (s.leavePowered n).nsq, mem := (s.leavePowered n).mem, pcv := (s.leavePowered n).pcv } := by
  rw [leavePowered, stopMeasurement_eq, departs_eq]

theorem leavePowered_stu (n : NestId) (s : Part) : (s.leavePowered n).stu = s.stu.modify n Stimulus.idled := by
  rw [leavePowered_eq]
theorem leavePowered_buc (n : NestId) (s : Part) : (s.leavePowered n).buc = s.buc.modify n Bus.stopped := by
  rw [leavePowered_eq]
theorem leavePowered_gmn (n : NestId) (s : Part) : (s.leavePowered n).gmn = s.gmn.modify n Gauges.frozen := by
  rw [leavePowered_eq]
theorem leavePowered_lpc (n : NestId) (s : Part) : (s.leavePowered n).lpc = s.lpc.modify n Watcher.departed := by
  rw [leavePowered_eq]

/-- What a departure of a nest that the converter is not granted to makes of the converter. -/
theorem leavePowered_pcv (h : ∀ x, s.pcv.grant = some x → x.nest ≠ n) :
    (s.leavePowered n).pcv = { s.pcv with queue := s.pcv.queue.filter fun e => e.1 ≠ n } := by
  rw [leavePowered, stopMeasurement_ungranted (by rw [departs_eq]; exact h), departs_eq]

theorem leavePowered_releases {x : Grant} (h : (s.leavePowered n).pcv.grant = some x) : x.nest ≠ n := by
  unfold leavePowered at h
  exact stopMeasurement_releases h

/-- Results kept for a nest's step reach no other sequencer. -/
theorem agreeBut_keepReport {r : Results} (h : Bank.AgreeBut n s.nsq t.nsq) :
    Bank.AgreeBut n s.nsq (t.keepReport n r).nsq := by
  rw [keepReport_nsq]
  exact h.trans (.modify n _ _)

theorem agreeBut_enforceIdle (n : NestId) (s : Part) : Bank.AgreeBut n s.nsq (s.enforceIdle n).nsq := by
  have hkept (r : Results) : Bank.AgreeBut n s.nsq (s.keepReport n r).nsq := agreeBut_keepReport (.refl n _)
  unfold enforceIdle
  dsimp only
  split <;> split
  exacts [hkept _, .refl n _, hkept _, .refl n _]

theorem agreeBut_endCheckFrame (n : NestId) (s : Part) : Bank.AgreeBut n s.nsq (s.endCheckFrame n).nsq := by
  unfold endCheckFrame
  split
  exacts [.refl n _, agreeBut_keepReport (.refl n _)]

theorem agreeBut_stopBus (n : NestId) (s : Part) : Bank.AgreeBut n s.nsq (s.stopBus n).nsq := by
  have hwrites (l : List (Fin 16)) (t : Part) :
      (l.foldl (fun s k => (s.writeSlotStatus n k).writeSlotNacks n k) t).nsq = t.nsq := by
    induction l generalizing t with
    | nil => rfl
    | cons k l ih => rw [List.foldl_cons, ih]; rfl
  unfold stopBus
  dsimp only
  rw [hwrites, track_nsq, modBuc_nsq]
  split
  · exact (agreeBut_keepReport (.refl n _)).trans (agreeBut_endCheckFrame n _)
  · exact agreeBut_endCheckFrame n s

theorem agreeBut_freezeMonitor (n : NestId) (s : Part) : Bank.AgreeBut n s.nsq (s.freezeMonitor n).nsq := by
  unfold freezeMonitor endGaugeCheck
  split
  exacts [.refl n _, agreeBut_keepReport (.refl n _)]

theorem agreeBut_lpcDeparts (n : NestId) (s : Part) : Bank.AgreeBut n s.nsq (s.lpcDeparts n).nsq := by
  have hwatch : Bank.AgreeBut n s.nsq (s.endLampWatch n).nsq := by
    unfold endLampWatch
    split
    exacts [.refl n _, agreeBut_keepReport (.refl n _)]
  unfold lpcDeparts endCapture
  split
  exacts [hwatch, agreeBut_keepReport hwatch]

theorem agreeBut_withdrawMeasurement (n : NestId) (s : Part) : Bank.AgreeBut n s.nsq (s.withdrawMeasurement n).nsq := by
  have hkept (r : Results) : Bank.AgreeBut n s.nsq (s.keepReport n r).nsq := agreeBut_keepReport (.refl n _)
  unfold withdrawMeasurement keepMeasurement
  split
  · split
    exacts [hkept _, .refl n _]
  · exact .refl n _

/-- A departure of a nest that the converter is not granted to reaches no other sequencer. -/
theorem leavePowered_nsq (h : ∀ x, s.pcv.grant = some x → x.nest ≠ n) :
    Bank.AgreeBut n s.nsq (s.leavePowered n).nsq := by
  have hpcv : ((((s.enforceIdle n).stopBus n).freezeMonitor n).lpcDeparts n).pcv = s.pcv := by rw [departs_eq]
  have hdeparts := (((agreeBut_enforceIdle n s).trans (agreeBut_stopBus n (s.enforceIdle n))).trans
    (agreeBut_freezeMonitor n ((s.enforceIdle n).stopBus n))).trans
    (agreeBut_lpcDeparts n (((s.enforceIdle n).stopBus n).freezeMonitor n))
  unfold leavePowered
  generalize (((s.enforceIdle n).stopBus n).freezeMonitor n).lpcDeparts n = t at hpcv hdeparts ⊢
  rw [stopMeasurement_ungranted (by rwa [hpcv])]
  exact hdeparts.trans (agreeBut_withdrawMeasurement n t)

theorem StoresOnly.track {words : List Nat} {f : Part → Part} (h : s.StoresOnly words t) (hf : (f t).mem = t.mem)
    (hi : nestAt n 7 ∈ words) : s.StoresOnly words (t.track n f) := by
  rcases t.track_eq n f with ⟨e, -⟩ | ⟨e, -⟩ <;> rw [e]
  exacts [h.of_mem hf, (h.of_mem hf).putNest hi]

theorem mem_departureWords (n : NestId) (k : Fin 16) :
    frameAt n k 6 ∈ departureWords n ∧ frameAt n k 7 ∈ departureWords n := by
  constructor <;> exact List.mem_cons_of_mem _ (List.mem_flatMap.2 ⟨k, List.mem_finRange k, by simp⟩)

theorem stopBus_stores (n : NestId) (s : Part) : s.StoresOnly (departureWords n) (s.stopBus n) := by
  have hwrites (l : List (Fin 16)) (t : Part) (h : s.StoresOnly (departureWords n) t) :
      s.StoresOnly (departureWords n) (l.foldl (fun s k => (s.writeSlotStatus n k).writeSlotNacks n k) t) := by
    induction l generalizing t with
    | nil => exact h
    | cons k l ih => exact ih _ ((h.put (mem_departureWords n k).1).put (mem_departureWords n k).2)
  unfold stopBus
  refine hwrites _ _ (StoresOnly.track ?_ rfl (.head _))
  refine StoresOnly.refl.of_mem ?_
  rw [endCheckFrame_eq]
  split <;> rfl

/-- A departure of a nest that the converter is not granted to writes the nest's own words. -/
theorem leavePowered_stores (h : ∀ x, s.pcv.grant = some x → x.nest ≠ n) :
    s.StoresOnly (departureWords n) (s.leavePowered n) := by
  rw [leavePowered, stopMeasurement_ungranted (by rw [departs_eq]; exact h), departs_eq]
  have hidle : s.StoresOnly (departureWords n) (s.enforceIdle n) := StoresOnly.refl.of_mem (by rw [enforceIdle_eq])
  exact (hidle.trans (stopBus_stores n _)).of_mem rfl

end Part

end Sys2Proof.Machine
end

section
/-! A nest's supply cut off: the discharge begun, its end, and the power queue. -/

namespace Sys2Proof.Machine

namespace Part

variable {s t u : Part} {n m : NestId}

/-! ### A discharge begun -/

theorem grantPower_empty (h : s.powerQueue = []) : s.grantPower = s := by simp [grantPower, h]

/-- A discharge that frees no budget, or frees it for none (R60, R63). -/
theorem beginDischarge_eq (h : (s.fxc.get n).state ≠ .powering ∨ s.powerQueue = []) :
    s.beginDischarge n = (s.showing n (Fixture.cut (s.now + 20000) (s.fxc.get n))).leavePowered n := by
  have hleft := (BlocksAct.refl (s.showing n (Fixture.cut (s.now + 20000) (s.fxc.get n)))).leavePowered (n := n)
  unfold beginDischarge
  dsimp only
  rw [openSwitch_eq]
  split
  · next hp => exact grantPower_empty (by rw [hleft.powerQueue, showing_powerQueue, h.resolve_left (not_not.2 hp)])
  · rfl

/-- A discharge begun by an event that has changed an image of the fixture. -/
theorem modFxc_beginDischarge {f : Fixture → Fixture} (hf : (f (s.fxc.get n)).state = (s.fxc.get n).state)
    (h : (s.fxc.get n).state ≠ .powering ∨ s.powerQueue = []) : (s.modFxc n f).beginDischarge n =
      (s.showing n (Fixture.cut (s.now + 20000) (f (s.fxc.get n)))).leavePowered n := by
  have hget : (s.modFxc n f).fxc.get n = f (s.fxc.get n) := by simp
  rw [beginDischarge_eq (by rw [hget, hf]; exact h), hget, showing_modFxc s hf]
  rfl

/-- A nest shown in DISCHARGING whose departure the blocks have taken (R54, R60). -/
theorem leavePowered_cut {g : Fixture} (hg : g.state = .discharging) (hs : (s.fxc.get n).state ≠ .discharging)
    (hu : (s.showing n g).leavePowered n = u) :
    u.fxc = s.fxc.put n g ∧ u.Shows n ∧ u.powered n = false ∧ (u.buc.get n).on = false ∧
      (u.gmn.get n).running = false ∧ (∀ i, (u.channel n i).wire = none) ∧
      (∀ i, (u.stu.get n).lines.get i = .released) ∧ ∀ x, u.pcv.grant = some x → x.nest ≠ n := by
  have hleft : (s.showing n g).BlocksAct u := hu ▸ (BlocksAct.refl _).leavePowered
  have hfxc : u.fxc = s.fxc.put n g := hleft.fxc.trans (showing_fxc n g s)
  have hstu : u.stu.get n = (s.stu.get n).idled := by rw [← hu, leavePowered_stu]; simp
  have hbuc : u.buc.get n = (s.buc.get n).stopped := by rw [← hu, leavePowered_buc]; simp
  have hgmn : u.gmn.get n = (s.gmn.get n).frozen := by rw [← hu, leavePowered_gmn]; simp
  refine ⟨hfxc, hleft.shown n (showing_word_nestState (by rw [hg]; exact hs.symm)), ?_, ?_, ?_, fun i => ?_, fun i => ?_,
    fun x hx => leavePowered_releases (hu ▸ hx)⟩
  · simp [powered, hfxc, hg]
  · rw [hbuc]; rfl
  · rw [hgmn]; rfl
  · rw [channel, hstu]; simp [Stimulus.idled, Channel.idle, Reset.channel]
  · rw [hstu]; simp [Stimulus.idled]

/-- A lid opening on a nest with supply (R60). -/
theorem lidOpens_supplied (h : (s.fxc.get n).state.supplied = true) :
    s.lidOpens n = ((s.modFxc n fun f => { f with lidClosed := false }).beginDischarge n).send (.lidAbort n) := by
  have hstate : (s.fxc.get n).state = .powering ∨ (s.fxc.get n).state = .powered := by
    revert h
    cases (s.fxc.get n).state <;> simp [FixtureState.supplied]
  unfold lidOpens
  rcases hstate with h | h <;> simp [h]

/-- A fuse that trips in POWERED (R70). -/
theorem fuseTrips_powered (h : (s.fxc.get n).state = .powered) :
    s.fuseTrips n = ((s.modFxc n fun f => { f with fuseTripped := true }).beginDischarge n).send (.supplyTrip n) := by
  simp [fuseTrips, powered, h, tripSupply]

theorem fuseTrips_image (h : (s.fxc.get n).state ≠ .powered) :
    s.fuseTrips n = s.modFxc n fun f => { f with fuseTripped := true } := by
  simp [fuseTrips, powered, h]

/-! ### POWER_OFF at its hand-off (R67) -/

theorem handPowerOff_powered (h : (s.fxc.get n).state = .powered) :
    s.handPowerOff n = (s.beginDischarge n, .started) := by simp [handPowerOff, h]

theorem handPowerOff_contactOk (h : (s.fxc.get n).state = .contactOk) : s.handPowerOff n = (s, .pass .zero) := by
  simp [handPowerOff, h]

theorem handPowerOff_discharging (h : (s.fxc.get n).state = .discharging) : s.handPowerOff n = s.holdFixture n := by
  simp [handPowerOff, h]

theorem handPowerOff_refused (h : (s.fxc.get n).state ∉ [.powered, .contactOk, .discharging]) :
    s.handPowerOff n = (s, .refuse .badState) := by
  unfold handPowerOff
  split
  case h_4 => rfl
  all_goals next hs => simp [hs] at h

end Part

/-- An event that cuts a nest's supply and sends `notice`, as the claims state it. -/
theorem cuts_supply {n : NestId} {c : Instr} {lid fuse : Bool} {notice : List Notice} {s : State} {f : Part → Part}
    (hc : exec c s = s.act f) (hs : (s.part.fxc.get n).state.supplied = true)
    (hf : f s.part =
      let u := (s.part.showing n { (s.part.fxc.get n).cut (s.part.now + 20000) with
        lidClosed := lid, fuseTripped := fuse }).leavePowered n
      { u with sent := u.sent ++ notice }) :
    Answers c s fun p =>
      let g := { (s.part.fxc.get n).cut (s.part.now + 20000) with lidClosed := lid, fuseTripped := fuse }
      let u := (s.part.showing n g).runs (leaving n)
      p = { u with sent := u.sent ++ notice } ∧ p.fxc = s.part.fxc.put n g ∧
        p.word (nestAt n 7) = p.nestStateWord n ∧ p.powered n = false ∧ (p.buc.get n).on = false ∧
        (p.gmn.get n).running = false ∧ (∀ i, (p.channel n i).wire = none) ∧
        (∀ i, (p.stu.get n).lines.get i = .released) ∧ ∀ x, p.pcv.grant = some x → x.nest ≠ n := by
  refine answers_of_act hc ?_
  dsimp only at hf ⊢
  rw [hf, runs_leaving]
  generalize hu : (s.part.showing n { (s.part.fxc.get n).cut (s.part.now + 20000) with
    lidClosed := lid, fuseTripped := fuse }).leavePowered n = u
  obtain ⟨hfxc, hshown, hcut⟩ := Part.leavePowered_cut rfl (fun e => by rw [e] at hs; cases hs) hu
  exact ⟨rfl, hfxc, hshown, hcut⟩

/-- Settles O22, by the event, its image and its notice. -/
theorem supplyCutBeginsADischarge : Obligations.SupplyCutBeginsADischarge := by
  refine ⟨fun n c lid fuse notice s => ?_, fun n st s => ?_, fun n s => ?_⟩
  · intro f hc hq
    have hnotice (u : Part) : u = { u with sent := u.sent ++ [] } := by rw [List.append_nil]
    have hfree : (s.part.fxc.get n).state ≠ .powering ∨ s.part.powerQueue = [] :=
      hq.imp_left fun e he => by simp [f, he] at e
    rcases hc with ⟨rfl, hs, rfl, rfl, rfl⟩ | ⟨rfl, hs, rfl, rfl, rfl⟩ | ⟨rfl, hs, rfl, rfl, rfl⟩ | ⟨rfl, hs, rfl, rfl, rfl⟩
    · refine cuts_supply (f := (·.requestPowerOff n)) rfl hs ?_
      exact (if_pos hs).trans ((Part.beginDischarge_eq hfree).trans (hnotice _))
    · refine cuts_supply (f := (·.endPowering n)) rfl (by rw [hs]; rfl) ?_
      exact (if_pos hs).trans ((Part.beginDischarge_eq hfree).trans (hnotice _))
    · refine cuts_supply (f := (·.lidOpens n)) rfl hs ?_
      exact (Part.lidOpens_supplied hs).trans (congrArg _ (Part.modFxc_beginDischarge rfl hfree))
    · refine cuts_supply (f := (·.fuseTrips n)) rfl (by rw [hs]; rfl) ?_
      exact (Part.fuseTrips_powered hs).trans (congrArg _ (Part.modFxc_beginDischarge rfl hfree))
  · refine ⟨fun hf => ?_, fun hf => ?_, fun hf => ?_, fun hf => ?_⟩
    · rw [runs_leaving]
      exact (Part.handPowerOff_powered hf).trans (by rw [Part.beginDischarge_eq (.inl (by simp [hf]))])
    · exact Part.handPowerOff_contactOk hf
    · exact Part.handPowerOff_discharging hf
    · exact Part.handPowerOff_refused hf
  · refine ⟨fun hf => ?_, fun hf => ?_, fun hf => ?_⟩
    · change s.act (·.requestPowerOff n) = _
      simp [State.act, Part.requestPowerOff, hf]
    · change s.act (·.endPowering n) = _
      simp [State.act, Part.endPowering, hf]
    · exact answers_of_act (f := (·.fuseTrips n)) rfl (Part.fuseTrips_image hf)

/-! ### The power queue -/

namespace Part

variable {s t u : Part} {n : NestId}

/-- A waiting POWER_ON withdrawn (R61, R64). -/
theorem endPowerOn_waiting {e : PowerEntry} {x : PowerOnRecord} (cause : EndCause) (he : s.powerEntry n = some e)
    (hx : (s.fxc.get n).powerOn = some x) (hf : (s.fxc.get n).state = .contactOk) :
    s.endPowerOn n cause = (s.withdrawPower n).keepReport n ((s.withdrawPower n).powerOnResults n) := by
  have hstate : ((s.withdrawPower n).fxc.get n).state = .contactOk := by rw [withdrawPower_entry he]; simp [hf]
  have hsome : ((s.withdrawPower n).fxc.get n).powerOn.isSome = true := by rw [withdrawPower_entry he]; simp [hx]
  have hend : (if cause = .deadline then (s.withdrawPower n).endPowering n else s.withdrawPower n) =
      s.withdrawPower n := by simp [endPowering, hstate]
  unfold endPowerOn
  dsimp only
  rw [hend, if_pos hsome]

/-- Without an entry in the power queue, and without a power-up to end, nothing is withdrawn (R64). -/
theorem endPowerOn_nothing {cause : EndCause} (he : s.powerEntry n = none) (hx : (s.fxc.get n).powerOn = none)
    (h : (s.fxc.get n).state ≠ .powering ∨ cause = .stop) : s.endPowerOn n cause = s := by
  unfold endPowerOn
  rcases h with h | rfl <;> simp [withdrawPower_none he, endPowering, *]

/-- A power-up ended at its deadline (R66). -/
theorem endPowerOn_powering (he : s.powerEntry n = none) (hq : s.powerQueue = [])
    (hf : (s.fxc.get n).state = .powering)
    (hu : (s.showing n (Fixture.cut (s.now + 20000) (s.fxc.get n))).leavePowered n = u) :
    s.endPowerOn n .deadline =
      if (s.fxc.get n).powerOn.isSome then u.keepReport n (s.powerOnResults n) else u := by
  have hcut : s.beginDischarge n = u := (beginDischarge_eq (.inr hq)).trans hu
  obtain ⟨hfxc, -⟩ := leavePowered_cut rfl (by rw [hf]; decide) hu
  have hon : (u.fxc.get n).powerOn = (s.fxc.get n).powerOn := by rw [hfxc, Bank.get_put_same]; rfl
  have hres : u.powerOnResults n = s.powerOnResults n := by rw [powerOnResults, hon, powerOnResults]
  unfold endPowerOn
  simp only [withdrawPower_none he, endPowering, hf, if_true, hcut, hon, hres]

end Part

/-- Settles O26, by the nest's entry and its power-up. -/
theorem powerQueueWithdrawal : Obligations.PowerQueueWithdrawal := by
  intro n cause s
  refine ⟨fun e x he hx hf => ?_, fun he hx hf => ?_, fun he hq hf => ?_⟩
  · refine answers_of_act (f := (·.endPowerOn n cause)) rfl ?_
    dsimp only
    rw [Part.endPowerOn_waiting cause he hx hf, Part.withdrawPower_entry he]
    refine ⟨rfl, by simp [hx], by simp [Part.powerOnResults, hx], ?_, rfl⟩
    exact ⟨.modify n _ _, .modify n _ _, .refl n _, .refl n _, .refl n _, .refl n _⟩
  · change s.act (·.endPowerOn n cause) = _
    simp [State.act, Part.endPowerOn_nothing he hx hf]
  · refine answers_of_act (f := (·.endPowerOn n .deadline)) rfl ?_
    dsimp only
    rw [runs_leaving]
    generalize hu : (s.part.showing n ((s.part.fxc.get n).cut (s.part.now + 20000))).leavePowered n = u
    obtain ⟨hfxc, hshown, -⟩ := Part.leavePowered_cut rfl (by rw [hf]; decide) hu
    rw [Part.endPowerOn_powering he hq hf hu]
    split
    · refine ⟨rfl, hfxc, hshown.trans ?_, ?_, .modify n _ _, by simp⟩
      · exact (Part.keepReport_nestStateWord n n _ u).symm
      · simp [Part.SequencerKept]
    · exact ⟨rfl, hfxc, hshown, rfl, .refl n _, rfl⟩

/-! ### POWER_ON at its hand-off (R61, R62) -/

namespace Part

variable {s : Part} {n : NestId} {st : Step}

/-- The entry of a POWER_ON in the power queue (R61). -/
def powerOnEntry (n : NestId) (st : Step) : PowerEntry :=
  ⟨n, st.sequence, st.inrushWindow.1, st.criteria, BitVec.ofNat 16 st.fuseLimit.1, st.accepted⟩

/-- What the fixture keeps of a POWER_ON that it takes (R61). -/
def powerOnTaken (st : Step) : PowerOnRecord := ⟨st.inrushWindow.2, st.fuseLimit.2, none⟩

/-- Part `s` once nest `n` has taken a POWER_ON (R61). -/
def powerOnMarked (n : NestId) (st : Step) (s : Part) : Part :=
  s.modFxc n fun f => { f with powerOn := some (powerOnTaken st) }

/-- Part `s` once nest `n`'s POWER_ON waits at the tail of the power queue (R62). -/
def powerOnWaits (n : NestId) (st : Step) (s : Part) : Part :=
  { s.powerOnMarked n st with powerQueue := s.powerQueue ++ [powerOnEntry n st] }

theorem powerOnMarked_poweringCount (n : NestId) (st : Step) (s : Part) :
    (s.powerOnMarked n st).poweringCount = s.poweringCount := poweringCount_congr fun m => by
  simp only [powerOnMarked, modFxc_fxc, Bank.get_modify]
  split <;> rfl

theorem handPowerOn_badState (hc : st.criteria.toNat ≤ 15) (hd : (s.fxc.get n).state ≠ .discharging)
    (h : (s.fxc.get n).state ≠ .contactOk ∨ (s.fxc.get n).lidClosed = false) :
    s.handPowerOn n st = (s, .refuse .badState) := by
  unfold handPowerOn
  dsimp only
  rw [if_neg (by omega), if_neg hd, if_pos h]

theorem handPowerOn_badOperand (hc : ¬ st.criteria.toNat ≤ 15) : s.handPowerOn n st = (s, .refuse .badOperand) := by
  unfold handPowerOn
  dsimp only
  rw [if_pos (by omega)]

theorem handPowerOn_discharging (hc : st.criteria.toNat ≤ 15) (hd : (s.fxc.get n).state = .discharging) :
    s.handPowerOn n st = (s.modFxc n fun f => { f with powerOn := none }).holdFixture n := by
  unfold handPowerOn
  dsimp only
  rw [if_neg (by omega), if_pos hd]

/-- A POWER_ON taken: it closes the switch on a free budget, and waits otherwise (R62). -/
theorem handPowerOn_contactOk (hc : st.criteria.toNat ≤ 15) (hf : (s.fxc.get n).state = .contactOk)
    (hl : (s.fxc.get n).lidClosed = true) :
    s.handPowerOn n st =
      if s.poweringCount < 2 then ((s.powerOnMarked n st).closeSwitch (powerOnEntry n st), .started)
      else (s.powerOnWaits n st, .held .power) := by
  rw [← powerOnMarked_poweringCount n st s]
  unfold handPowerOn
  dsimp only
  rw [if_neg (by omega), if_neg (by simp [hf]), if_neg (by simp [hf, hl])]
  rfl

end Part

/-! ### The end of a discharge -/

/-- The fixture of a nest whose discharge has ended (R68). -/
def Fixture.discharged (f : Fixture) : Fixture := { f with state := .contactOk, dischargeTimer := none }

namespace Part

variable {s t u : Part} {n : NestId} {st : Step} {k : Kind} {v : Verdict} {d : Detail}

theorem FixtureActs.modFxc {f : Fixture → Fixture} (h : FixtureActs n s t) (hf : ∀ x, (f x).state = x.state) :
    FixtureActs n s (t.modFxc n f) where
  same := h.withFixtures t.powerQueue _
  others := h.others.trans (.modify n _ _)
  shown := h.shown.trans (by simp [nestStateWord, hf])
  stores := h.stores.of_mem rfl

/-- The nest's entry of the power queue changed. -/
theorem FixtureActs.withPowerQueue (h : FixtureActs n s t) (q : List PowerEntry) :
    FixtureActs n s { t with powerQueue := q } where
  same := h.withFixtures q t.fxc
  others := h.others
  shown := h.shown
  stores := h.stores

/-- A HELD step of a nest goes on and is completed at once, after the fixture controller has acted (R27, R69). -/
theorem FixtureActs.endsHeld (h : FixtureActs n s t) (hq : (s.nsq.get n).state = .held)
    (hst : (s.nsq.get n).step = some st) (hp : (t.holdEnd n).sendOutcome n v d .zero = u) :
    u.fxc = t.fxc ∧
      u.nsq.get n = { s.nsq.get n with state := .running, hold := .none, report := some .zero } ∧
      u.sent = s.sent ++ [.ownerOutcome ⟨n, st.sequence, v, d, .zero⟩] ∧
      u.word (nestAt n 7) = u.nestStateWord n ∧ s.StoresOnly [nestAt n 7] u ∧ s.NestOnly n u ∧
      u = { s with fxc := u.fxc, nsq := u.nsq, mem := u.mem, sent := u.sent, powerQueue := t.powerQueue } := by
  obtain ⟨hheld, -, hothers, hstores, hsame⟩ := holdEnd_ends t n
  obtain ⟨hget, hshown⟩ := hheld (by rw [h.nsq]; exact hq)
  have hstep : ((t.holdEnd n).nsq.get n).step = some st := by rw [hget, h.nsq]; exact hst
  have hsend : u = ((t.holdEnd n).keepReport n .zero).send (.ownerOutcome ⟨n, st.sequence, v, d, .zero⟩) := by
    rw [← hp, sendOutcome, hstep]
  have hsent : (t.holdEnd n).sent = s.sent := by rw [hsame]; exact h.sent
  have hmem : u.mem = (t.holdEnd n).mem := by rw [hsend]; rfl
  have hfxc : u.fxc = t.fxc := by rw [hsend]; simp
  have hnsq : u.nsq = (t.holdEnd n).nsq.modify n fun q => { q with report := some .zero } := by rw [hsend]; rfl
  have hframe : u = { s with fxc := u.fxc, nsq := u.nsq, mem := u.mem, sent := u.sent, powerQueue := t.powerQueue } := by
    have hlast : u = { t.holdEnd n with nsq := u.nsq, mem := u.mem, sent := u.sent } := by rw [hsend]; rfl
    rw [hfxc]
    exact (hlast.trans (congrArg (fun x : Part => { x with nsq := u.nsq, mem := u.mem, sent := u.sent }) hsame)).trans
      (congrArg (fun x : Part => { x with nsq := u.nsq, mem := u.mem, sent := u.sent }) h.same)
  refine ⟨hfxc, ?_, ?_, ?_, (h.stores.trans hstores).of_mem hmem, ?_, hframe⟩
  · rw [hnsq, Bank.get_modify_same, hget, h.nsq]
  · rw [hsend, send_sent, keepReport_sent, hsent]
  · rw [hsend, send_nestStateWord, keepReport_nestStateWord, ← hshown]; rfl
  · rw [hframe]
    refine ⟨?_, ?_, .refl n _, .refl n _, .refl n _, .refl n _⟩
    · rw [hnsq]
      exact (h.nsq ▸ hothers : Bank.AgreeBut n s.nsq _).trans (.modify n _ _)
    · rw [hfxc]; exact h.others

/-- Part `s` once nest `n` is shown in CONTACT_OK at the end of its discharge, and a RUNNING POWER_OFF has passed. -/
def dischargeEnded (n : NestId) (s : Part) : Part :=
  let t := s.showing n (s.fxc.get n).discharged
  if (s.nsq.get n).state = .running then t.completeStep n .powerOff .pass .none .zero else t

theorem dischargeExpires_undue (h : ¬ s.Due (s.fxc.get n).dischargeTimer) : s.dischargeExpires n = s := by
  simp [dischargeExpires, mt (expired_iff s _).1 h]

theorem dischargeEnded_fxc (n : NestId) (s : Part) :
    (s.dischargeEnded n).fxc = s.fxc.put n (s.fxc.get n).discharged := by
  unfold dischargeEnded
  dsimp only
  split <;> simp

/-- The discharge timer's expiry (R68, R69). -/
theorem dischargeExpires_due (hf : (s.fxc.get n).state = .discharging) (hd : s.Due (s.fxc.get n).dischargeTimer) :
    s.dischargeExpires n =
      if (s.fxc.get n).heldStep && !(s.dischargeEnded n).underStop n then (s.dischargeEnded n).reexamine n
      else s.dischargeEnded n := by
  have hshown : (s.modFxc n fun f => { f with dischargeTimer := none }).publish n .contactOk =
      s.showing n (s.fxc.get n).discharged := publish_modFxc s
  have hheld : ((s.dischargeEnded n).fxc.get n).heldStep = (s.fxc.get n).heldStep := by
    rw [dischargeEnded_fxc, Bank.get_put_same]; rfl
  unfold dischargeExpires
  rw [if_neg (by simp [(expired_iff s _).2 hd])]
  dsimp only
  rw [if_neg (by simp [hf]), hshown, showing_nsq, ← hheld]
  rfl

theorem dischargeEnded_underStop (n : NestId) (s : Part) : (s.dischargeEnded n).underStop n = s.underStop n := by
  unfold dischargeEnded
  dsimp only
  split
  · rcases completeStep_cases n .powerOff .pass .none .zero (s.showing n (s.fxc.get n).discharged) with
      ⟨e, -⟩ | ⟨st, -, -, -, e⟩ <;> rw [e] <;> simp [underStop]
  · simp [underStop]

theorem fixtureActs_discharged (hf : (s.fxc.get n).state = .discharging) :
    FixtureActs n s (s.showing n (s.fxc.get n).discharged) := fixtureActs_showing (by simp [Fixture.discharged, hf])

/-- A nest shown in CONTACT_OK again, with its RUNNING POWER_OFF passed (R68). -/
theorem dischargeEnded_completes (hf : (s.fxc.get n).state = .discharging) (hp : s.dischargeEnded n = u) :
    u.fxc.get n = (s.fxc.get n).discharged ∧ s.SequencerKept n u ∧
      ((s.nsq.get n).state = .running → s.Completes n .powerOff .pass .none .zero [] [] u) ∧
      ((s.nsq.get n).state ≠ .running → u.sent = s.sent) ∧ u.word (nestAt n 7) = u.nestStateWord n ∧
      s.StoresOnly [nestAt n 7] u ∧ s.NestOnly n u ∧
      u = { s with fxc := u.fxc, nsq := u.nsq, mem := u.mem, sent := u.sent } := by
  have hacts := fixtureActs_discharged hf
  have hfxc : u.fxc = s.fxc.put n (s.fxc.get n).discharged := by rw [← hp, dischargeEnded_fxc]
  refine ⟨by rw [hfxc, Bank.get_put_same], ?_⟩
  unfold dischargeEnded at hp
  by_cases hr : (s.nsq.get n).state = .running
  · obtain ⟨hc, hk, hw, hst, hn, hframe⟩ := hacts.completeStep .powerOff .pass .none .zero
    dsimp only at hp
    rw [if_pos hr] at hp
    rw [hp] at hc hk hw hst hn hframe
    refine ⟨hk, fun _ => hc, fun h => absurd hr h, hw, hst, hn, hframe.trans ?_⟩
    rw [hfxc, showing_fxc, showing_powerQueue]
  · dsimp only at hp
    rw [if_neg hr] at hp
    subst hp
    refine ⟨?_, fun h => absurd h hr, fun _ => hacts.sent, hacts.shown, hacts.stores, hacts.nestOnly,
      hacts.same.trans ?_⟩
    · rw [SequencerKept, hacts.nsq]
    · rw [showing_powerQueue, hacts.nsq, hacts.sent]

/-- The part in which a step HELD FIXTURE is taken again. -/
def retaken (n : NestId) (s : Part) : Part :=
  (s.showing n (s.fxc.get n).discharged).modFxc n fun f => { f with heldStep := false }

theorem fixtureActs_retaken (hf : (s.fxc.get n).state = .discharging) : FixtureActs n s (s.retaken n) :=
  (fixtureActs_discharged hf).modFxc fun _ => rfl

theorem retaken_fxc (n : NestId) (s : Part) :
    (s.retaken n).fxc.get n = { (s.fxc.get n).discharged with heldStep := false } := by simp [retaken]

theorem reexamine_done {r : Results} (hst : (t.nsq.get n).step = some st) (hk : st.kind = some k)
    (h : (t.modFxc n fun f => { f with heldStep := false }).handFixture n k st = (u, .done v d r)) :
    t.reexamine n = (u.holdEnd n).sendOutcome n v d r := by
  unfold reexamine
  dsimp only
  rw [modFxc_nsq, hst]
  dsimp only
  rw [hk]
  dsimp only
  rw [h]

theorem reexamine_held {why : HoldReason} (hst : (t.nsq.get n).step = some st) (hk : st.kind = some k)
    (h : (t.modFxc n fun f => { f with heldStep := false }).handFixture n k st = (u, .held why)) :
    t.reexamine n = u.holdFor n why := by
  unfold reexamine
  dsimp only
  rw [modFxc_nsq, hst]
  dsimp only
  rw [hk]
  dsimp only
  rw [h]

/-- A step HELD FIXTURE is taken again, where station STOP does not stand against it (R69). -/
theorem dischargeExpires_retakes (hf : (s.fxc.get n).state = .discharging) (hd : s.Due (s.fxc.get n).dischargeTimer)
    (hh : (s.fxc.get n).heldStep = true) (hu : ¬ (s.station = .stopped ∨ .stationStop n ∈ s.sent))
    (hq : (s.nsq.get n).state = .held) :
    s.dischargeExpires n = (s.showing n (s.fxc.get n).discharged).reexamine n := by
  have hended : s.dischargeEnded n = s.showing n (s.fxc.get n).discharged := by simp [dischargeEnded, hq]
  have hunder : s.underStop n = false := Bool.eq_false_iff.2 (mt (underStop_iff s n).1 hu)
  rw [dischargeExpires_due hf hd, dischargeEnded_underStop, hh, hunder, hended]
  rfl

/-- A step HELD FIXTURE that its new hand-off ends at once with results 0, as the claims state it (R69). -/
theorem retakenStep_ends (hf : (s.fxc.get n).state = .discharging) (hq : (s.nsq.get n).state = .held)
    (hst : (s.nsq.get n).step = some st) (hk : st.kind = some k)
    (hhand : (s.retaken n).handFixture n k st = (s.retaken n, .done v d .zero))
    (hp : (s.showing n (s.fxc.get n).discharged).reexamine n = u) :
    u.fxc.get n = { s.fxc.get n with state := .contactOk, dischargeTimer := none, heldStep := false } ∧
      u.nsq.get n = { s.nsq.get n with state := .running, hold := .none, report := some .zero } ∧
      u.sent = s.sent ++ [.ownerOutcome ⟨n, st.sequence, v, d, .zero⟩] ∧
      u.word (nestAt n 7) = u.nestStateWord n ∧ s.StoresOnly [nestAt n 7] u ∧ s.NestOnly n u ∧
      u = { s with fxc := u.fxc, nsq := u.nsq, mem := u.mem, sent := u.sent } := by
  rw [reexamine_done (by simpa using hst) hk hhand] at hp
  obtain ⟨hfxc, hget, hsent, hw, hstores, hn, hframe⟩ := (fixtureActs_retaken hf).endsHeld hq hst hp
  refine ⟨by rw [hfxc, retaken_fxc]; rfl, hget, hsent, hw, hstores, hn, hframe.trans ?_⟩
  rw [show (s.retaken n).powerQueue = s.powerQueue from showing_powerQueue ..]

theorem retaken_poweringCount (hf : (s.fxc.get n).state = .discharging) :
    (s.retaken n).poweringCount = s.poweringCount := by
  have hat := poweringCount_at (s := s) (t := s.retaken n) (n := n) fun m hm => by simp [retaken, hm.symm]
  rwa [powers_other (by rw [hf]; decide), powers_other (by rw [retaken_fxc]; exact nofun)] at hat

/-- A POWER_ON taken again that goes on to wait HELD POWER, as the claims state it (R62, R69). -/
theorem retakenPowerOn_waits (hf : (s.fxc.get n).state = .discharging)
    (hp : ((s.retaken n).powerOnWaits n st).holdFor n .power = u) :
    (u.fxc.get n).state = .contactOk ∧ (u.fxc.get n).switchClosed = (s.fxc.get n).switchClosed ∧
      (u.nsq.get n).state = .held ∧ (u.nsq.get n).hold = .power ∧ u.sent = s.sent ∧
      u.powerQueue = s.powerQueue ++ [powerOnEntry n st] ∧ u.word (nestAt n 7) = u.nestStateWord n ∧
      s.StoresOnly [nestAt n 7] u ∧ s.NestOnly n u := by
  have hwaits : FixtureActs n s ((s.retaken n).powerOnWaits n st) :=
    ((fixtureActs_retaken hf).modFxc (f := fun f => { f with powerOn := some (powerOnTaken st) })
      fun _ => rfl).withPowerQueue _
  generalize ht : (s.retaken n).powerOnWaits n st = t at hp hwaits
  have hheld := atNest_holdFor n .power t
  have hacts : t.BlocksAct (t.holdFor n .power) :=
    (BlocksAct.refl t).track rfl fun m hm => by simp [nestStateWord, Ne.symm hm]
  have hfxc : u.fxc.get n = { (s.fxc.get n).discharged with heldStep := false, powerOn := some (powerOnTaken st) } := by
    rw [← hp, hacts.fxc, ← ht]
    simp [powerOnWaits, powerOnMarked, retaken_fxc]
  rw [hp] at hheld hacts
  refine ⟨by rw [hfxc]; rfl, by rw [hfxc]; rfl, by simp [← hp], by simp [← hp], ?_, ?_, hacts.shown n hwaits.shown,
    hwaits.stores.trans hheld.stores, hwaits.nestOnly.trans hheld.nestOnly⟩
  · rw [← hwaits.sent, hheld.same]
  · rw [hacts.powerQueue, ← ht]
    simp [powerOnWaits, retaken]

end Part

/-- Settles O27, by the timer, the step HELD FIXTURE and station STOP. -/
theorem dischargeEndsInContactOk : Obligations.DischargeEndsInContactOk := by
  refine ⟨fun n s hd => ?_, fun n s => ?_⟩
  · change s.act (·.dischargeExpires n) = _
    simp [State.act, Part.dischargeExpires_undue hd]
  · intro f q hf hd stopped
    refine ⟨fun h => ?_, fun st k hh hu hq hst hk => ?_⟩
    · refine answers_of_act (f := (·.dischargeExpires n)) rfl ?_
      have hstays : s.part.dischargeExpires n = s.part.dischargeEnded n := by
        rw [Part.dischargeExpires_due hf hd, Part.dischargeEnded_underStop]
        refine if_neg fun hc => ?_
        obtain ⟨hh, hu⟩ : (s.part.fxc.get n).heldStep = true ∧ s.part.underStop n = false := by simpa using hc
        rcases h with h | h
        · exact absurd (hh.symm.trans h) (by decide)
        · exact absurd ((Part.underStop_iff s.part n).2 h) (by simp [hu])
      exact Part.dischargeEnded_completes hf hstays.symm
    · have hanswers {post : Part → Prop}
          (h : post ((s.part.showing n (s.part.fxc.get n).discharged).reexamine n)) :
          Answers (.dischargeTimerExpiry n) s post :=
        answers_of_act (f := (·.dischargeExpires n)) rfl (by rwa [Part.dischargeExpires_retakes hf hd hh hu hq])
      have hstate : ((s.part.retaken n).fxc.get n).state = .contactOk := by rw [Part.retaken_fxc]; rfl
      have hlid : ((s.part.retaken n).fxc.get n).lidClosed = f.lidClosed := by rw [Part.retaken_fxc]; rfl
      refine ⟨?_, ?_, ?_, ?_⟩
      · rintro rfl
        exact hanswers (Part.retakenStep_ends hf hq hst hk (Part.handPowerOff_contactOk hstate) rfl)
      · rintro rfl
        refine hanswers (Part.retakenStep_ends hf hq hst hk ?_ rfl)
        exact Part.handClamp_refused (by simp [hstate]) (.inl (by simp [hstate]))
      · rintro rfl hcrit hopen
        refine hanswers (Part.retakenStep_ends hf hq hst hk ?_ rfl)
        exact Part.handPowerOn_badState hcrit (by simp [hstate]) (.inr (hlid.trans hopen))
      · rintro rfl hcrit hclosed hcount
        refine hanswers ?_
        have hcount' : (s.part.retaken n).poweringCount = 2 := by
          rw [← hcount]
          exact Part.retaken_poweringCount hf
        have hhand : (s.part.retaken n).handFixture n .powerOn st = _ :=
          (Part.handPowerOn_contactOk hcrit hstate (hlid.trans hclosed)).trans (if_neg (by omega))
        rw [Part.reexamine_held (by simpa using hst) hk hhand]
        exact Part.retakenPowerOn_waits hf rfl

end Sys2Proof.Machine
end

section
/-! The supply check at the inrush timer's expiry. -/

namespace Sys2Proof.Machine

/-- The fixture of a nest whose supply has come up (R65). -/
def Fixture.poweredUp (f : Fixture) : Fixture := { f with state := .powered, inrushTimer := none, tripArmed := true }

namespace Part

variable {s t u : Part} {n : NestId} {k : Kind} {v : Verdict} {d : Detail} {r : Results}

/-- Part `s` once nest `n` is POWERED, the blocks have taken it, and its POWER_ON has passed (R65). -/
def poweredUp (n : NestId) (s : Part) : Part :=
  ((s.showing n (s.fxc.get n).poweredUp).enterPowered n).completeStep n .powerOn .pass .none (s.powerOnResults n)

theorem inrushExpires_undue (h : ¬ s.Due (s.fxc.get n).inrushTimer) : s.inrushExpires n = s := by
  simp [inrushExpires, mt (expired_iff s _).1 h]

/-- The supply check with the supply above its threshold (R65, R70). -/
theorem inrushExpires_above (hf : (s.fxc.get n).state = .powering) (hd : s.Due (s.fxc.get n).inrushTimer)
    (ha : (s.fxc.get n).supplyAbove = true) : s.inrushExpires n =
      if (s.fxc.get n).fuseTripped then (s.poweredUp n).grantPower.tripSupply n else (s.poweredUp n).grantPower := by
  have hshown : ((s.modFxc n fun f => { f with inrushTimer := none }).modFxc n fun f =>
      { f with tripArmed := true }).publish n .powered = s.showing n (s.fxc.get n).poweredUp := publish_modFxc_modFxc s
  have hres : ((s.showing n (s.fxc.get n).poweredUp).enterPowered n).powerOnResults n = s.powerOnResults n := by
    rw [powerOnResults, ((BlocksAct.refl _).enterPowered).fxc, showing_fxc, Bank.get_put_same, powerOnResults]
    rfl
  unfold inrushExpires
  dsimp only
  rw [if_neg (by simp [(expired_iff s _).2 hd]), if_neg (by simp [hf]), if_pos ha, hshown, hres]
  rfl

/-- The supply check with the supply below its threshold (R65). -/
theorem inrushExpires_below (hf : (s.fxc.get n).state = .powering) (hd : s.Due (s.fxc.get n).inrushTimer)
    (ha : (s.fxc.get n).supplyAbove = false) : s.inrushExpires n =
      ((s.modFxc n fun f => { f with inrushTimer := none }).beginDischarge n).completeStep n .powerOn .fail .supplyLow
        (s.powerOnResults n) := by
  have hres : (s.modFxc n fun f => { f with inrushTimer := none }).powerOnResults n = s.powerOnResults n := by
    simp [powerOnResults]
  unfold inrushExpires
  dsimp only
  rw [if_neg (by simp [(expired_iff s _).2 hd]), if_neg (by simp [hf]), if_neg (by simp [ha]), hres]

/-- A completion on a part in which NEST_STATE of the nest is shown. -/
theorem completeStep_shown (h : u.Shows n) (hp : u.completeStep n k v d r = t) :
    t.fxc = u.fxc ∧ u.Completes n k v d r [] [] t ∧ u.SequencerKept n t ∧ t.word (nestAt n 7) = t.nestStateWord n ∧
      Bank.AgreeBut n u.nsq t.nsq ∧ t = { u with nsq := t.nsq, sent := t.sent } := by
  obtain ⟨hc, hk, hn, hf⟩ := completeStep_completes u u n k v d r [] rfl (List.append_nil _).symm
  have hw : (u.completeStep n k v d r).word (nestAt n 7) = (u.completeStep n k v d r).nestStateWord n := by
    rw [completeStep_word, completeStep_nestStateWord]; exact h
  rw [hp] at hc hk hn hf hw
  exact ⟨by rw [hf], hc, hk, hw, hn, hf⟩

/-! ### An image of the fixture that the blocks do not read -/

theorem modFxc_showing {g : Fixture} {f : Fixture → Fixture} (hf : (f g).state = g.state) (s : Part) :
    (s.showing n g).modFxc n f = s.showing n (f g) := by
  have hword : ({ s with fxc := s.fxc.put n (f g) } : Part).nestStateWord n =
      ({ s with fxc := s.fxc.put n g } : Part).nestStateWord n := by simp [nestStateWord, hf]
  have hput : (s.fxc.put n g).modify n f = s.fxc.put n (f g) := Bank.ext_get fun m => by
    simp only [Bank.get_modify, Bank.get_put]
    split <;> rfl
  unfold showing
  dsimp only
  rw [hword]
  split <;> simp only [modFxc, hput]

theorem enterPowered_modFxc {f : Fixture → Fixture} (hf : ∀ x, (f x).state = x.state) (t : Part) :
    (t.modFxc n f).enterPowered n = (t.enterPowered n).modFxc n f := by
  have hword (p : Part) : (p.modFxc n f).nestStateWord n = p.nestStateWord n := by simp [nestStateWord, hf]
  have htrack (g : Bus → Bus) : (t.modFxc n f).track n (fun s => s.modBuc n g) =
      (t.track n fun s => s.modBuc n g).modFxc n f := by
    unfold track
    dsimp only
    rw [hword, show (t.modFxc n f).modBuc n g = (t.modBuc n g).modFxc n f from rfl, hword]
    split <;> rfl
  unfold enterPowered startBus
  dsimp only
  rw [show (t.modFxc n f).word (nestAt n 3) = t.word (nestAt n 3) from rfl, htrack]
  rfl

theorem completeStep_modFxc {f : Fixture → Fixture} (t : Part) :
    (t.modFxc n f).completeStep n k v d r = (t.completeStep n k v d r).modFxc n f := by
  have hsend : (t.modFxc n f).sendOutcome n v d r = (t.sendOutcome n v d r).modFxc n f := by
    unfold sendOutcome
    rw [modFxc_nsq]
    split <;> rfl
  have hif : (t.modFxc n f).completeStep n k v d r =
      if t.executing n k && !t.keptBack n k then (t.sendOutcome n v d r).modFxc n f else t.modFxc n f := by
    rw [← hsend]
    rfl
  rw [hif]
  unfold completeStep
  split <;> rfl

/-- A fuse image, set before the supply check or after it (R53, R65). -/
theorem poweredUp_fuse (b : Bool) (s : Part) :
    (s.modFxc n fun f => { f with fuseTripped := b }).poweredUp n =
      (s.poweredUp n).modFxc n fun f => { f with fuseTripped := b } := by
  have hres : (s.modFxc n fun f => { f with fuseTripped := b }).powerOnResults n = s.powerOnResults n := by
    simp [powerOnResults]
  have hget : ((s.modFxc n fun f => { f with fuseTripped := b }).fxc.get n).poweredUp =
      { (s.fxc.get n).poweredUp with fuseTripped := b } := by simp [Fixture.poweredUp]
  unfold poweredUp
  rw [hres, hget, showing_modFxc s, ← completeStep_modFxc,
    ← enterPowered_modFxc (f := fun f => { f with fuseTripped := b }) fun _ => rfl,
    modFxc_showing (f := fun f => { f with fuseTripped := b }) rfl]

theorem poweredUp_fxc (n : NestId) (s : Part) : (s.poweredUp n).fxc = s.fxc.put n (s.fxc.get n).poweredUp := by
  rw [poweredUp, completeStep_fxc, ((BlocksAct.refl _).enterPowered).fxc, showing_fxc]

theorem poweredUp_powerQueue (n : NestId) (s : Part) : (s.poweredUp n).powerQueue = s.powerQueue := by
  rw [poweredUp, completeStep_powerQueue, ((BlocksAct.refl _).enterPowered).powerQueue, showing_powerQueue]

theorem poweredUp_now (n : NestId) (s : Part) : (s.poweredUp n).now = s.now := by
  rw [poweredUp, now, completeStep_ticks, ← now, ((BlocksAct.refl _).enterPowered).now, showing_now]

/-- A fuse that already reads tripped at the supply check trips the supply as the trip itself would (R65, R70). -/
theorem inrushExpires_tripped (hf : (s.fxc.get n).state = .powering) (hd : s.Due (s.fxc.get n).inrushTimer)
    (ha : (s.fxc.get n).supplyAbove = true) (hfuse : (s.fxc.get n).fuseTripped = true) (hq : s.powerQueue = []) :
    s.inrushExpires n = ((s.modFxc n fun f => { f with fuseTripped := false }).inrushExpires n).fuseTrips n ∧
      (s.inrushExpires n).fxc = s.fxc.put n ((s.fxc.get n).cut (s.now + 20000)) := by
  have hqueue : (s.poweredUp n).powerQueue = [] := (poweredUp_powerQueue n s).trans hq
  have htrip : s.inrushExpires n = (s.poweredUp n).tripSupply n := by
    rw [inrushExpires_above hf hd ha, if_pos hfuse, grantPower_empty hqueue]
  have hclear : (s.modFxc n fun f => { f with fuseTripped := false }).inrushExpires n =
      (s.poweredUp n).modFxc n fun f => { f with fuseTripped := false } := by
    rw [inrushExpires_above (by simpa using hf) (by simpa [Due, now] using hd) (by simpa using ha), if_neg (by simp),
      poweredUp_fuse, grantPower_empty (by exact hqueue)]
  have hon : (s.poweredUp n).fxc.get n = (s.fxc.get n).poweredUp := by simp [poweredUp_fxc]
  have hstate : ((s.poweredUp n).fxc.get n).state = .powered := by rw [hon]; rfl
  have hback : ((s.poweredUp n).modFxc n fun f => { f with fuseTripped := false }).modFxc n
      (fun f => { f with fuseTripped := true }) = s.poweredUp n := by
    simp only [modFxc, Bank.modify_modify]
    rw [Bank.modify_self (by rw [hon]; simp [Fixture.poweredUp, hfuse])]
  refine ⟨?_, ?_⟩
  · rw [htrip, hclear, fuseTrips_powered (by simpa using hstate), hback]
    rfl
  · generalize hu : ((s.poweredUp n).showing n (((s.poweredUp n).fxc.get n).cut (s.now + 20000))).leavePowered n = u
    have hcut : (s.poweredUp n).beginDischarge n = u := by
      rw [beginDischarge_eq (.inl (by simp [hstate])), poweredUp_now, hu]
    rw [htrip, tripSupply, hcut, send_fxc, (leavePowered_cut rfl (by simp [hstate]) hu).1, hon, poweredUp_fxc, Bank.put_put]
    rfl

end Part

/-- Settles O24, by the supply image and the fuse image. -/
theorem inrushExpirySamplesTheSupply : Obligations.InrushExpirySamplesTheSupply := by
  intro n s
  refine ⟨fun hf hd hq => ⟨fun ha hfuse => ?_, fun ha hfuse => ?_, fun ha => ?_⟩, fun hd => ?_⟩
  · have hshown : (s.part.showing n (s.part.fxc.get n).poweredUp).BlocksAct
        ((s.part.showing n (s.part.fxc.get n).poweredUp).enterPowered n) := (Part.BlocksAct.refl _).enterPowered
    have hexp : s.part.inrushExpires n = s.part.poweredUp n := by
      rw [Part.inrushExpires_above hf hd ha, hfuse,
        Part.grantPower_empty ((Part.poweredUp_powerQueue n s.part).trans hq)]
      rfl
    dsimp only
    rw [runs_entering]
    refine ⟨answers_of_act (f := (·.inrushExpires n)) rfl ?_, hshown.fxc.trans (Part.showing_fxc ..)⟩
    exact Part.completeStep_shown (hshown.shown n (Part.showing_word_nestState (by rw [hf]; exact nofun))) hexp.symm
  · obtain ⟨htrip, hfxc⟩ := Part.inrushExpires_tripped hf hd ha hfuse hq
    refine answers_of_act (f := (·.inrushExpires n)) rfl ⟨?_, hfxc⟩
    rw [runs_cons (f := (·.inrushExpires n)) fun _ => rfl, runs_cons (f := (·.fuseTrips n)) fun _ => rfl]
    exact htrip
  · dsimp only
    rw [runs_leaving]
    generalize hu : (s.part.showing n ((s.part.fxc.get n).cut (s.part.now + 20000))).leavePowered n = u
    obtain ⟨hfxc, hshown, -⟩ := Part.leavePowered_cut rfl (by rw [hf]; decide) hu
    refine ⟨answers_of_act (f := (·.inrushExpires n)) rfl ?_, hfxc⟩
    refine Part.completeStep_shown hshown ?_
    rw [Part.inrushExpires_below hf hd ha, Part.modFxc_beginDischarge rfl (.inr hq), ← hu]
    rfl
  · change s.act (·.inrushExpires n) = _
    simp [State.act, Part.inrushExpires_undue hd]

end Sys2Proof.Machine
end

section
/-! The power budget freed by a departure from POWERING, and what it grants. -/

namespace Sys2Proof.Machine

namespace Part

variable {s t u p : Part} {n m : NestId} {st : Step}

/-! ### POWER_ON at its hand-off, as the claims state it -/

theorem clampTo_eq {lo hi : Nat} (h : lo ≤ hi) (x : Nat) :
    clampTo lo hi x = (max lo (min x hi), decide (max lo (min x hi) ≠ x)) := by
  unfold clampTo
  split
  · next hx => rw [show max lo (min x hi) = lo by omega, decide_eq_true (by omega)]
  · split
    · next hx => rw [show max lo (min x hi) = hi by omega, decide_eq_true (by omega)]
    · next hx => simp [show max lo (min x hi) = x by omega]

theorem powerOnEntry_eq (n : NestId) (st : Step) : powerOnEntry n st =
    ⟨n, st.sequence, max 10 (min (field (st.w 2) 0 16 : W16).toNat 500), field (st.w 2) 16 8,
      BitVec.ofNat 16 (max 100 (min (field (st.w 3) 0 16 : W16).toNat 5000)), st.accepted⟩ := by
  rw [powerOnEntry, Step.inrushWindow, Step.fuseLimit, clampTo_eq (by decide), clampTo_eq (by decide)]
  rfl

theorem powerOnTaken_eq (st : Step) : powerOnTaken st =
    ⟨decide (max 10 (min (field (st.w 2) 0 16 : W16).toNat 500) ≠ (field (st.w 2) 0 16 : W16).toNat),
      decide (max 100 (min (field (st.w 3) 0 16 : W16).toNat 5000) ≠ (field (st.w 3) 0 16 : W16).toNat), none⟩ := by
  rw [powerOnTaken, Step.inrushWindow, Step.fuseLimit, clampTo_eq (by decide), clampTo_eq (by decide)]

/-- A POWER_ON that finds the budget free closes its switch at once (R62). -/
theorem handPowerOn_closes (hc : st.criteria.toNat ≤ 15) (hf : (s.fxc.get n).state = .contactOk)
    (hl : (s.fxc.get n).lidClosed = true) (hb : s.poweringCount < 2) :
    s.handPowerOn n st =
      (s.showing n (Fixture.powersUp s.now (msBetween st.accepted s.timebase) (s.word (criteriaAt st.criteria.toNat))
        (powerOnEntry n st) { s.fxc.get n with powerOn := some (powerOnTaken st) }), .started) := by
  rw [handPowerOn_contactOk hc hf hl, if_pos hb, closeSwitch_eq, powerOnMarked]
  simp only [powerOnEntry, modFxc_fxc, Bank.get_modify_same, modFxc_now, modFxc_timebase]
  rw [showing_modFxc s]
  rfl

/-- A POWER_ON that finds two nests POWERING waits (R62). -/
theorem handPowerOn_waits (hc : st.criteria.toNat ≤ 15) (hf : (s.fxc.get n).state = .contactOk)
    (hl : (s.fxc.get n).lidClosed = true) (hb : 2 ≤ s.poweringCount) :
    s.handPowerOn n st =
      ({ s with
          fxc := s.fxc.put n { s.fxc.get n with powerOn := some (powerOnTaken st) }
          powerQueue := s.powerQueue ++ [powerOnEntry n st] }, .held .power) := by
  rw [handPowerOn_contactOk hc hf hl, if_neg (by omega)]
  rfl

/-! ### What a nest's departure reaches -/

/-- From part `s` to part `t` nest `n`'s fixture, sequencer and blocks have changed, with the words of nest `n` that its
departure writes. -/
structure ActsAt (n : NestId) (s t : Part) : Prop where
  same : t = { s with fxc := t.fxc, nsq := t.nsq, mem := t.mem, sent := t.sent, stu := t.stu, buc := t.buc, gmn := t.gmn
                      lpc := t.lpc, pcv := t.pcv }
  fixtures : Bank.AgreeBut n s.fxc t.fxc
  sequencers : Bank.AgreeBut n s.nsq t.nsq
  stores : s.StoresOnly (departureWords n) t
  shown : ∀ m, m ≠ n → s.Shows m → t.Shows m

namespace ActsAt

theorem refl (n : NestId) (s : Part) : s.ActsAt n s := ⟨rfl, .refl n _, .refl n _, .refl, fun _ _ => id⟩

theorem trans (h : ActsAt n s t) (g : ActsAt n t u) : ActsAt n s u :=
  ⟨by rw [g.same, h.same], h.fixtures.trans g.fixtures, h.sequencers.trans g.sequencers, h.stores.trans g.stores,
    fun m hm => g.shown m hm ∘ h.shown m hm⟩

theorem showing (n : NestId) (f : Fixture) (s : Part) : ActsAt n s (s.showing n f) where
  same := by rw [showing_eq]
  fixtures := by rw [showing_fxc]; exact .put n _ _
  sequencers := by rw [showing_nsq]; exact .refl n _
  stores := StoresOnly.refl.showing (.head _)
  shown m hm h := by
    have hword : (s.showing n f).nestStateWord m = s.nestStateWord m := by
      simp [nestStateWord, Ne.symm hm]
    have hout : nestAt m 7 ∉ [nestAt n 7] := by
      simpa using fun e => hm ((nestAt_eq_iff (by decide) (by decide)).1 e).1
    exact ((StoresOnly.refl.showing (.head _)).word hout).trans (h.trans hword.symm)

theorem leavePowered (h : ∀ x, s.pcv.grant = some x → x.nest ≠ n) : ActsAt n s (s.leavePowered n) where
  same := by
    have hact := ((BlocksAct.refl s).leavePowered (n := n)).same
    exact hact.trans (by rw [((BlocksAct.refl s).leavePowered (n := n)).fxc])
  fixtures := by rw [((BlocksAct.refl s).leavePowered).fxc]; exact .refl n _
  sequencers := leavePowered_nsq h
  stores := leavePowered_stores h
  shown m _ := ((BlocksAct.refl s).leavePowered).shown m

theorem enterPowered (n : NestId) (s : Part) : ActsAt n s (s.enterPowered n) where
  same := by
    have hact := ((BlocksAct.refl s).enterPowered (n := n)).same
    exact hact.trans (by rw [((BlocksAct.refl s).enterPowered (n := n)).fxc])
  fixtures := by rw [((BlocksAct.refl s).enterPowered).fxc]; exact .refl n _
  sequencers := by
    have hnsq : (s.enterPowered n).nsq = s.nsq := track_nsq ..
    rw [hnsq]
    exact .refl n _
  stores := (StoresOnly.track .refl rfl (.head _)).of_mem rfl
  shown m _ := ((BlocksAct.refl s).enterPowered).shown m

theorem completeStep (n : NestId) (k : Kind) (v : Verdict) (d : Detail) (r : Results) (s : Part) :
    ActsAt n s (s.completeStep n k v d r) := by
  obtain ⟨-, -, hn, hframe⟩ := completeStep_completes s s n k v d r [] rfl (List.append_nil _).symm
  refine ⟨hframe.trans (by rw [hframe]), by rw [completeStep_fxc]; exact .refl n _, hn,
    .of_mem .refl (completeStep_mem ..), fun m _ h => ?_⟩
  unfold Shows
  rw [completeStep_word, completeStep_nestStateWord, h]

theorem send (n : NestId) (x : Notice) (s : Part) : ActsAt n s (s.send x) :=
  ⟨rfl, .refl n _, .refl n _, .refl, fun _ _ h => h⟩

end ActsAt

/-! ### The grant of the power queue's head -/

/-- The state of the blocks that take a nest's entry into POWERED and its departure (R54). -/
def blocks (s : Part) : Bank 8 Stimulus × Bank 8 Bus × Bank 8 Gauges × Bank 8 Watcher × Converter :=
  (s.stu, s.buc, s.gmn, s.lpc, s.pcv)

theorem showing_blocks (n : NestId) (f : Fixture) (s : Part) : (s.showing n f).blocks = s.blocks := by simp [blocks]

theorem completeStep_blocks (n : NestId) (k : Kind) (v : Verdict) (d : Detail) (r : Results) (s : Part) :
    (s.completeStep n k v d r).blocks = s.blocks := by simp [blocks]

theorem leavePowered_blocks (hb : t.blocks = s.blocks) (h : ∀ x, s.pcv.grant = some x → x.nest ≠ n) :
    (t.leavePowered n).blocks = (s.leavePowered n).blocks := by
  simp only [blocks, Prod.mk.injEq] at hb
  obtain ⟨hstu, hbuc, hgmn, hlpc, hpcv⟩ := hb
  simp only [blocks, leavePowered_stu, leavePowered_buc, leavePowered_gmn, leavePowered_lpc, leavePowered_pcv h,
    leavePowered_pcv (s := t) (by rwa [hpcv]), hstu, hbuc, hgmn, hlpc, hpcv]

theorem enterPowered_blocks (hb : t.blocks = s.blocks) (hw : t.word (nestAt n 3) = s.word (nestAt n 3))
    (hnow : t.timebase = s.timebase) : (t.enterPowered n).blocks = (s.enterPowered n).blocks := by
  simp only [blocks, Prod.mk.injEq] at hb
  obtain ⟨hstu, hbuc, hgmn, hlpc, hpcv⟩ := hb
  simp [blocks, enterPowered, startBus, startMonitor, hw, hnow, hstu, hbuc, hgmn, hlpc, hpcv]

/-- The head granted: its switch closes and its hold ends (R27, R63). -/
theorem grantPower_head {e : PowerEntry} {q : List PowerEntry} (hq : t.powerQueue = e :: q)
    (hg : (t.fxc.get e.nest).state = .contactOk) (hu : t.grantPower = u) :
    u.powerQueue = q ∧
      u.fxc = t.fxc.put e.nest ((t.fxc.get e.nest).powersUp t.now (msBetween e.accepted t.timebase)
        (t.word (criteriaAt e.criteria.toNat)) e) ∧
      u.nsq.get e.nest =
        (if (t.nsq.get e.nest).state = .held then { t.nsq.get e.nest with state := .running, hold := .none }
        else t.nsq.get e.nest) ∧
      Bank.AgreeBut e.nest t.nsq u.nsq ∧ u.Shows e.nest ∧ t.StoresOnly [nestAt e.nest 7] u ∧
      u = { t with fxc := u.fxc, nsq := u.nsq, mem := u.mem, powerQueue := u.powerQueue } := by
  let g := (t.fxc.get e.nest).powersUp t.now (msBetween e.accepted t.timebase) (t.word (criteriaAt e.criteria.toNat)) e
  let v : Part := Part.showing e.nest g { t with powerQueue := q }
  have heq : v.holdEnd e.nest = u := by
    rw [← hu, grantPower, hq]
    dsimp only
    rw [closeSwitch_eq]
    rfl
  obtain ⟨hheld, hother, hnsq, hstores, hsame⟩ := holdEnd_ends v e.nest
  rw [heq] at hheld hother hnsq hstores hsame
  have hvnsq : v.nsq = t.nsq := showing_nsq ..
  rw [hvnsq] at hheld hother hnsq
  have hshown : v.Shows e.nest := showing_word_nestState (by
    change FixtureState.powering ≠ (t.fxc.get e.nest).state
    rw [hg]
    exact nofun)
  have hfxc : u.fxc = t.fxc.put e.nest g := (congrArg (·.fxc) hsame).trans (showing_fxc ..)
  refine ⟨(congrArg (·.powerQueue) hsame).trans (showing_powerQueue ..), hfxc, ?_, hnsq, ?_, ?_, ?_⟩
  · split
    · next h => exact (hheld h).1
    · next h => exact (hother h).1
  · rw [← heq]
    exact ((BlocksAct.refl v).holdEnd).shown _ hshown
  · have hv : t.StoresOnly [nestAt e.nest 7] v :=
      (StoresOnly.refl (s := { t with powerQueue := q })).showing (.head _)
    exact hv.trans hstores
  · refine hsame.trans ?_
    rw [hsame]
    simp only [v]
    rw [showing_eq]

/-- From part `s` to part `p` nest `n` departs from POWERING, with the grant of the power queue's head among its changes,
and leaves the blocks as part `u` has them (R63). -/
def FreesBudget (n : NestId) (s u p : Part) : Prop :=
  ∃ t, s.ActsAt n t ∧ t.grantPower.ActsAt n p ∧ (p.fxc.get n).state ≠ .powering ∧ p.blocks = u.blocks

/-- Nest `n` goes on after its departure. -/
theorem FreesBudget.acts (h : FreesBudget n s u t) (hp : t.ActsAt n p) (hf : p.fxc = t.fxc) (hb : p.blocks = t.blocks) :
    FreesBudget n s u p := by
  obtain ⟨v, hsv, hvt, hstate, hblocks⟩ := h
  exact ⟨v, hsv, hvt.trans hp, by rwa [hf], hb.trans hblocks⟩

theorem FreesBudget.sends (h : FreesBudget n s u t) (x : Notice) : FreesBudget n s u (t.send x) :=
  h.acts (.send n x t) rfl rfl

section
variable {e : PowerEntry} {q : List PowerEntry} (hq : s.powerQueue = e :: q) (hne : e.nest ≠ n)
  (hg : (s.fxc.get e.nest).state = .contactOk)
include hq hne hg

/-- The grant after nest `n` has acted. -/
theorem ActsAt.grants (h : s.ActsAt n t) : t.grantPower.fxc.get n = t.fxc.get n ∧ t.grantPower.blocks = t.blocks := by
  have hqueue : t.powerQueue = e :: q := (congrArg (·.powerQueue) h.same).trans hq
  obtain ⟨-, hfxc, -, -, -, -, hsame⟩ := grantPower_head hqueue (by rw [← h.fixtures _ hne, hg]) rfl
  refine ⟨by rw [hfxc, Bank.get_put_other _ _ hne], ?_⟩
  rw [hsame]
  rfl

/-- A discharge begun in POWERING (R63). -/
theorem freesBudget_beginDischarge {f : Fixture → Fixture} (hf : (s.fxc.get n).state = .powering)
    (hfs : ∀ x, (f x).state = x.state) (hgrant : ∀ x, s.pcv.grant = some x → x.nest ≠ n) :
    FreesBudget n s (s.leavePowered n) ((s.modFxc n f).beginDischarge n) := by
  have hget : (s.modFxc n f).fxc.get n = f (s.fxc.get n) := by simp
  have hbegin : (s.modFxc n f).beginDischarge n =
      ((s.showing n (Fixture.cut (s.now + 20000) (f (s.fxc.get n)))).leavePowered n).grantPower := by
    unfold beginDischarge
    dsimp only
    rw [hget, hfs, if_pos hf, openSwitch_eq, hget, showing_modFxc s (hfs _)]
    rfl
  have hgrant' : ∀ x, (s.showing n (Fixture.cut (s.now + 20000) (f (s.fxc.get n)))).pcv.grant = some x → x.nest ≠ n := by
    rwa [showing_pcv]
  have hacts := (ActsAt.showing n (Fixture.cut (s.now + 20000) (f (s.fxc.get n))) s).trans (ActsAt.leavePowered hgrant')
  obtain ⟨hfxc, hblocks⟩ := hacts.grants hq hne hg
  rw [hbegin]
  refine ⟨_, hacts, .refl n _, ?_, hblocks.trans (leavePowered_blocks (showing_blocks ..) hgrant)⟩
  rw [hfxc, ((BlocksAct.refl _).leavePowered).fxc, showing_fxc, Bank.get_put_same]
  exact nofun

/-- A supply that has come up (R65). -/
theorem freesBudget_poweredUp : FreesBudget n s (s.enterPowered n) (s.poweredUp n).grantPower := by
  have hacts : s.ActsAt n (s.poweredUp n) :=
    ((ActsAt.showing n (s.fxc.get n).poweredUp s).trans (.enterPowered n _)).trans (.completeStep n _ _ _ _ _)
  obtain ⟨hfxc, hblocks⟩ := hacts.grants hq hne hg
  refine ⟨_, hacts, .refl n _, ?_, ?_⟩
  · rw [hfxc, poweredUp_fxc, Bank.get_put_same]
    exact nofun
  · have hword : (s.showing n (s.fxc.get n).poweredUp).word (nestAt n 3) = s.word (nestAt n 3) :=
      (StoresOnly.refl.showing (words := [nestAt n 7]) (.head _)).word (by simp)
    rw [hblocks, poweredUp, completeStep_blocks]
    exact enterPowered_blocks (showing_blocks ..) hword (showing_timebase ..)

end

/-- The freed nest's supply cut (R70). -/
theorem FreesBudget.discharges (h : FreesBudget n s u t) (hgrant : ∀ x, u.pcv.grant = some x → x.nest ≠ n) :
    FreesBudget n s (u.leavePowered n) (t.beginDischarge n) := by
  obtain ⟨v, hsv, hvt, hstate, hblocks⟩ := h
  have hpcv : t.pcv = u.pcv := congrArg (·.2.2.2.2) hblocks
  have hgrant' : ∀ x, (t.showing n (Fixture.cut (t.now + 20000) (t.fxc.get n))).pcv.grant = some x → x.nest ≠ n := by
    rwa [showing_pcv, hpcv]
  rw [beginDischarge_eq (.inl hstate)]
  refine ⟨v, hsv, (hvt.trans (.showing n _ t)).trans (.leavePowered hgrant'), ?_,
    leavePowered_blocks ((showing_blocks ..).trans hblocks) hgrant⟩
  rw [((BlocksAct.refl _).leavePowered).fxc, showing_fxc, Bank.get_put_same]
  exact nofun

/-! ### What the freed budget comes to -/

theorem criteria_not_departureWord {c : Nat} (h : c < 256) (n : NestId) : criteriaAt c ∉ departureWords n := by
  simp only [departureWords, List.mem_cons, List.mem_flatMap, List.mem_finRange, true_and, not_or, not_exists,
    List.not_mem_nil, not_false_eq_true, and_true]
  have hn := n.isLt
  refine ⟨?_, fun k => ?_⟩
  · unfold criteriaAt nestAt; omega
  · have hk := k.isLt
    unfold criteriaAt frameAt; omega

/-- One nest leaves POWERING and one enters it (R62). -/
theorem poweringCount_swap {k : NestId} (hk : k ≠ n) (hs : (s.fxc.get n).state = .powering)
    (hp : (p.fxc.get n).state ≠ .powering) (hsk : (s.fxc.get k).state ≠ .powering)
    (hpk : (p.fxc.get k).state = .powering) (h : ∀ m, m ≠ n → m ≠ k → p.fxc.get m = s.fxc.get m) :
    p.poweringCount = s.poweringCount := by
  let t : Part := { s with fxc := s.fxc.put n (p.fxc.get n) }
  have hst := poweringCount_at (s := s) (t := t) (n := n) fun m hm => by simp [t, Ne.symm hm]
  have htp := poweringCount_at (s := t) (t := p) (n := k) fun m hm => by
    by_cases hmn : m = n
    · simp [t, hmn]
    · simp [t, Ne.symm hmn, h m hmn hm]
  rw [powers_powering hs, powers_other (s := t) (by simpa [t] using hp)] at hst
  rw [powers_powering hpk, powers_other (s := t) (by simpa [t, hk.symm] using hsk)] at htp
  omega

section
variable {e : PowerEntry} {q : List PowerEntry} (hq : s.powerQueue = e :: q) (hne : e.nest ≠ n)
  (hg : (s.fxc.get e.nest).state = .contactOk) (hf : (s.fxc.get n).state = .powering)
  (hgrant : ∀ x, s.pcv.grant = some x → x.nest ≠ n)
include hq hne hg hf hgrant

theorem freesBudget_cut : FreesBudget n s (s.leavePowered n) (s.beginDischarge n) := by
  have hid : s.modFxc n id = s := congrArg (fun b => { s with fxc := b }) (Bank.modify_self rfl)
  have hfrees := freesBudget_beginDischarge hq hne hg (f := id) hf (fun _ => rfl) hgrant
  rwa [hid] at hfrees

theorem freesBudget_lidOpens : FreesBudget n s (s.leavePowered n) (s.lidOpens n) := by
  have hcut := freesBudget_beginDischarge hq hne hg (f := fun f => { f with lidClosed := false }) hf (fun _ => rfl) hgrant
  rw [lidOpens_supplied (by rw [hf]; rfl)]
  exact hcut.sends _

/-- The supply check below the threshold (R65). -/
theorem freesBudget_below (hd : s.Due (s.fxc.get n).inrushTimer) (ha : (s.fxc.get n).supplyAbove = false) :
    FreesBudget n s (s.leavePowered n) (s.inrushExpires n) := by
  have hcut := freesBudget_beginDischarge hq hne hg (f := fun f => { f with inrushTimer := none }) hf (fun _ => rfl) hgrant
  rw [inrushExpires_below hf hd ha]
  exact hcut.acts (.completeStep n _ _ _ _ _) (completeStep_fxc ..) (completeStep_blocks ..)

/-- The supply check above the threshold (R65, R70). -/
theorem freesBudget_above (hd : s.Due (s.fxc.get n).inrushTimer) (ha : (s.fxc.get n).supplyAbove = true) :
    FreesBudget n s (s.runs (if (s.fxc.get n).fuseTripped then entering n ++ leaving n else entering n))
      (s.inrushExpires n) := by
  have hup := freesBudget_poweredUp hq hne hg
  have hpcv : (s.enterPowered n).pcv = s.pcv := by simp [enterPowered, startBus, startMonitor]
  rw [inrushExpires_above hf hd ha]
  split
  · rw [runs_append, runs_entering, runs_leaving, tripSupply]
    exact (hup.discharges (by rwa [hpcv])).sends _
  · rw [runs_entering]
    exact hup

end

/-- What the claims state of a departure from POWERING with a power queue `e :: q` (R27, R63). -/
def HeadGranted (n : NestId) (e : PowerEntry) (q : List PowerEntry) (s u p : Part) : Prop :=
  p.powerQueue = q ∧
    p.fxc.get e.nest = (s.fxc.get e.nest).powersUp s.now (msBetween e.accepted s.timebase)
      (s.word (criteriaAt e.criteria.toNat)) e ∧
    p.nsq.get e.nest =
      (if (s.nsq.get e.nest).state = .held then { s.nsq.get e.nest with state := .running, hold := .none }
      else s.nsq.get e.nest) ∧
    p.word (nestAt e.nest 7) = p.nestStateWord e.nest ∧ (p.fxc.get n).state ≠ .powering ∧
    p.poweringCount = s.poweringCount ∧
    s.StoresOnly ([nestAt n 7, nestAt e.nest 7] ++
      (List.finRange 16).flatMap fun k => [frameAt n k 6, frameAt n k 7]) p ∧
    (∀ m, m ≠ n → m ≠ e.nest → p.fxc.get m = s.fxc.get m ∧ p.nsq.get m = s.nsq.get m) ∧
    p = { s with
          fxc := p.fxc, nsq := p.nsq, mem := p.mem, sent := p.sent, powerQueue := p.powerQueue, stu := u.stu
          buc := u.buc, gmn := u.gmn, lpc := u.lpc, pcv := u.pcv }

theorem FreesBudget.headGranted {e : PowerEntry} {q : List PowerEntry} (h : FreesBudget n s u p)
    (hf : (s.fxc.get n).state = .powering) (hq : s.powerQueue = e :: q) (hne : e.nest ≠ n)
    (hg : (s.fxc.get e.nest).state = .contactOk) : HeadGranted n e q s u p := by
  obtain ⟨t, hst, hvp, hstate, hblocks⟩ := h
  generalize hv : t.grantPower = v at hvp
  have htf : t.fxc.get e.nest = s.fxc.get e.nest := (hst.fixtures _ hne).symm
  have htn : t.nsq.get e.nest = s.nsq.get e.nest := (hst.sequencers _ hne).symm
  have hticks : t.ticks = s.ticks := congrArg (·.ticks) hst.same
  have hnow : t.now = s.now := by rw [now, hticks, now]
  have hword := hst.stores.word (criteria_not_departureWord e.criteria.isLt n)
  obtain ⟨hvq, hvfxc, hvn, hvothers, hvshown, hvstores, hvsame⟩ :=
    grantPower_head ((congrArg (·.powerQueue) hst.same).trans hq) (by rw [htf, hg]) hv
  have hfxc : p.fxc.get e.nest = (s.fxc.get e.nest).powersUp s.now (msBetween e.accepted s.timebase)
      (s.word (criteriaAt e.criteria.toNat)) e := by
    rw [← hvp.fixtures _ hne, hvfxc, Bank.get_put_same, htf, timebase, hnow, hword]
    rfl
  have hothers (m : NestId) (hm : m ≠ n) (hme : m ≠ e.nest) :
      p.fxc.get m = s.fxc.get m ∧ p.nsq.get m = s.nsq.get m := by
    rw [← hvp.fixtures m hm, hvfxc, Bank.get_put_other _ _ hme.symm, ← hst.fixtures m hm, ← hvp.sequencers m hm,
      ← hvothers m hme, ← hst.sequencers m hm]
    exact ⟨rfl, rfl⟩
  simp only [blocks, Prod.mk.injEq] at hblocks
  obtain ⟨hstu, hbuc, hgmn, hlpc, hpcv⟩ := hblocks
  refine ⟨(congrArg (·.powerQueue) hvp.same).trans hvq, hfxc, ?_, hvp.shown _ hne hvshown, hstate, ?_, ?_, hothers, ?_⟩
  · rw [← hvp.sequencers _ hne, hvn, htn]
  · exact poweringCount_swap hne hf hstate (by rw [hg]; exact nofun) (by rw [hfxc]; rfl) fun m hm hme =>
      (hothers m hm hme).1
  · have hdeparts : ∀ i ∈ departureWords n, i ∈ [nestAt n 7, nestAt e.nest 7] ++
        (List.finRange 16).flatMap fun k => [frameAt n k 6, frameAt n k 7] := fun i hi => by
      rcases List.mem_cons.1 hi with rfl | hi
      · simp
      · exact List.mem_append_right _ hi
    exact ((hst.stores.mono hdeparts).trans (hvstores.mono (by simp))).trans (hvp.stores.mono hdeparts)
  · rw [← hstu, ← hbuc, ← hgmn, ← hlpc, ← hpcv]
    refine hvp.same.trans ?_
    rw [show p.powerQueue = v.powerQueue from congrArg (·.powerQueue) hvp.same, hvsame, hst.same]

end Part

/-- Settles O25, by the budget at the hand-off, and by the command that takes the nest out of POWERING. -/
theorem freedBudgetGrantsTheHead : Obligations.FreedBudgetGrantsTheHead := by
  refine ⟨fun n st s => ?_, fun n c e q s => ?_⟩
  · refine ⟨fun hc hf hl hb => ?_, fun hc hf hl hb => ?_, fun hc hf => ?_, fun hc hd hf => ?_, fun hc => ?_⟩
    · rw [← Part.powerOnEntry_eq, ← Part.powerOnTaken_eq]
      exact Part.handPowerOn_closes hc hf hl hb
    · rw [← Part.powerOnEntry_eq, ← Part.powerOnTaken_eq]
      exact Part.handPowerOn_waits hc hf hl hb
    · refine (Part.handPowerOn_discharging hc hf).trans ?_
      simp only [Part.holdFixture, Part.modFxc, Bank.modify_modify]
      rfl
    · exact Part.handPowerOn_badState hc hd hf
    · exact Part.handPowerOn_badOperand hc
  · intro f g enters u hc hf hq hne hg hgrant
    have hleaves (h : ¬ enters) : u = s.part.leavePowered n := (congrArg s.part.runs (if_neg h)).trans (runs_leaving ..)
    suffices h : Answers c s (Part.FreesBudget n s.part u) by
      obtain ⟨p, hact, hfrees⟩ := h
      exact ⟨p, hact, hfrees.headGranted hf hq hne hg⟩
    rcases hc with rfl | rfl | rfl | ⟨rfl, hd⟩
    · refine ⟨s.part.requestPowerOff n, rfl, ?_⟩
      rw [Part.requestPowerOff, if_pos (by rw [hf]; rfl), hleaves (by simp [enters])]
      exact Part.freesBudget_cut hq hne hg hf hgrant
    · refine ⟨s.part.endPowering n, rfl, ?_⟩
      rw [Part.endPowering, if_pos hf, hleaves (by simp [enters])]
      exact Part.freesBudget_cut hq hne hg hf hgrant
    · refine ⟨s.part.lidOpens n, rfl, ?_⟩
      rw [hleaves (by simp [enters])]
      exact Part.freesBudget_lidOpens hq hne hg hf hgrant
    · refine ⟨s.part.inrushExpires n, rfl, ?_⟩
      cases ha : (s.part.fxc.get n).supplyAbove with
      | false =>
        rw [hleaves (by simp [enters, f, ha])]
        exact Part.freesBudget_below hq hne hg hf hgrant hd ha
      | true =>
        have hu : u = s.part.runs (if f.fuseTripped then entering n ++ leaving n else entering n) :=
          congrArg s.part.runs (if_pos ⟨rfl, ha⟩)
        rw [hu]
        exact Part.freesBudget_above hq hne hg hf hgrant hd ha

end Sys2Proof.Machine
end

section
/-! Station STOP, stage by stage (R71), and the STOP input that reads pressed after a reset (R73). -/

namespace Sys2Proof.Machine

namespace Part

variable {s t u : Part} {n m : NestId}

/-! ### The stages of a station STOP -/

/-- Part `s` with station STOP taken and shown. -/
def stopShown (s : Part) : Part :=
  let t := { s with station := .stopped, stopPressed := true }
  (t.put stationAt t.stationWord).setFactor factorStop

theorem stopShown_eq (s : Part) : s.stopShown =
    { s with
      station := .stopped, stopPressed := true, mem := s.mem.setWord stationAt 3
      factor := s.factor ||| 1#19 <<< factorStop } := by
  simp [stopShown, stationWord, put, setFactor, flag]

/-- Part `s` with the switches of its supplied nests open. -/
def suppliesOpened (s : Part) : Part := s.suppliedNests.foldl (fun s n => s.openSwitch n) s

/-- Part `s` with the departures of the nests in a list taken by the blocks. -/
def departures (l : List NestId) (s : Part) : Part := l.foldl (fun s n => s.leavePowered n) s

/-- Part `s` with every closing clamp reversed (R71). -/
def clampsReversed (s : Part) : Part :=
  (List.finRange 8).foldl (fun s n => if (s.fxc.get n).state = .clamping then s.reverseClamp n else s) s

/-- Part `s` before station STOP is offered to the first-fault record. -/
def stopReleased (s : Part) : Part :=
  let t := s.stopShown.emptyPowerQueue
  (t.suppliesOpened.departures t.suppliedNests).clampsReversed

/-- The notices of a station STOP, in the model's order (log entry 17). -/
def stopNotices : List Notice := (List.finRange 8).map Notice.stationStop ++ [.panelStop]

theorem takeStop_eq (s : Part) : s.takeStop =
    { s.stopReleased.offerFault 8 .stationStop none with sent := s.stopReleased.sent ++ stopNotices } := by
  have hsends (l : List NestId) (t : Part) :
      l.foldl (fun s n => s.send (.stationStop n)) t = { t with sent := t.sent ++ l.map Notice.stationStop } := by
    induction l generalizing t with
    | nil => simp
    | cons n l ih => rw [List.foldl_cons, ih]; simp [send]
  have hstages : s.takeStop = ((List.finRange 8).foldl (fun s n => s.send (.stationStop n))
      (s.stopReleased.offerFault 8 .stationStop none)).send .panelStop := by
    unfold takeStop
    rfl
  rw [hstages, hsends, send, offerFault_sent]
  simp only [stopNotices, List.append_assoc]

/-- With no nest in CLAMPING no clamp is reversed. -/
theorem clampsReversed_still (h : ∀ n, (s.fxc.get n).state ≠ .clamping) : s.clampsReversed = s := by
  have hstill (l : List NestId) :
      l.foldl (fun s n => if (s.fxc.get n).state = .clamping then s.reverseClamp n else s) s = s := by
    induction l with
    | nil => rfl
    | cons n l ih => rw [List.foldl_cons, if_neg (h n), ih]
  exact hstill _

/-- A station STOP that finds no nest with supply, none that waits for it and none CLAMPING cuts and reverses nothing. -/
theorem stopReleased_unsupplied (hq : s.powerQueue = [])
    (hf : ∀ n, (s.fxc.get n).state.supplied = false ∧ (s.fxc.get n).state ≠ .clamping) : s.stopReleased = s.stopShown := by
  have hempty : s.stopShown.emptyPowerQueue = s.stopShown := by
    simp [emptyPowerQueue, stopShown_eq, hq]
  have hnests : s.stopShown.suppliedNests = [] :=
    List.filter_eq_nil_iff.2 fun n _ => by simpa [stopShown] using (hf n).1
  have hstill : s.stopShown.clampsReversed = s.stopShown := clampsReversed_still fun n => by
    simpa [stopShown_eq] using (hf n).2
  simp only [stopReleased, hempty, hnests, suppliesOpened, departures, List.foldl_nil, hstill]

theorem word_withSent (l : List Notice) (s : Part) : ({ s with sent := l } : Part).word = s.word := rfl

/-- A station STOP that captures the first fault, in a part without any fault and any supply (R71, R73). -/
theorem takeStop_first (hff : s.firstFault = none) (hfac : s.factor = 0#19) (hr : s.stopReleased = s.stopShown)
    (hu : s.takeStop = u) :
    u.station = .stopped ∧ u.word stationAt = 3 ∧ u.factor = 1#19 <<< factorStop ||| 1#19 <<< factorFirstFault ∧
      u.firstFault = some ⟨8, .stationStop, none, s.timebase⟩ ∧ u.word ffStepAt = 0xFFFFFFFF#32 ∧
      u.word ffTimeAt = s.timebase ∧ u.nsq = s.nsq := by
  have hnone : s.stopShown.firstFault = none := by rw [stopShown_eq, hff]
  have hmem : s.stopShown.mem = s.mem.setWord stationAt 3 := by rw [stopShown_eq]
  have hfactor : s.stopShown.factor = s.factor ||| 1#19 <<< factorStop := by rw [stopShown_eq]
  have htime : s.stopShown.timebase = s.timebase := by rw [stopShown_eq]; rfl
  obtain ⟨-, hstep, htimeword, hflags⟩ := offerFault_words 8 .stationStop none hnone
  have hstores : s.stopShown.StoresOnly [ffStateAt, ffStepAt, ffTimeAt] (s.stopShown.offerFault 8 .stationStop none) :=
    StoresOnly.refl.offerFault fun _ => id
  rw [takeStop_eq, hr] at hu
  subst hu
  rw [word_withSent]
  refine ⟨?_, ?_, ?_, ?_, hstep, htimeword.trans htime, ?_⟩
  · rw [offerFault_station, stopShown_eq]
  · rw [hstores.word (by decide), word, hmem, Memory.word_setWord_same]
  · rw [hflags, hfactor, hfac, BitVec.zero_or]
  · rw [offerFault_invalid _ _ _ _ hnone, htime]
  · rw [offerFault_nsq, stopShown_eq]

/-- A reset with the STOP input pressed (R73). -/
theorem atReset_pressed (m : Memory) (opc : Panel) (sent : List Notice) (hs : s.stopPressed = true) :
    (s.atReset m opc sent).stopIfPressed = (s.atReset m opc sent).takeStop ∧
      (s.atReset m opc sent).stopReleased = (s.atReset m opc sent).stopShown := by
  refine ⟨if_pos hs, stopReleased_unsupplied rfl fun n => ?_⟩
  rw [atReset_fxc, Bank.get_build]
  exact recover_unsupplied _

theorem atReset_timebase (m : Memory) (opc : Panel) (sent : List Notice) (s : Part) :
    (s.atReset m opc sent).timebase = 0 := by
  have hticks : (s.atReset m opc sent).ticks = 0 := rfl
  rw [timebase, now, hticks, Nat.zero_div]
  rfl

end Part

/-- Settles O7, by the reset state, in which no nest has supply. -/
theorem stopPressedAtResetIsStationStop : Obligations.StopPressedAtResetIsStationStop := by
  intro c s hc hs
  suffices h : ∀ (m : Memory) (opc : Panel) (sent : List Notice) (p : Part),
      (s.part.atReset m opc sent).stopIfPressed = p →
        p.station = .stopped ∧ p.word stationAt = 3 ∧
          p.factor = 1#19 <<< factorStop ||| 1#19 <<< factorFirstFault ∧
          p.firstFault = some ⟨8, .stationStop, none, 0⟩ ∧ p.word ffStepAt = 0xFFFFFFFF#32 ∧ p.word ffTimeAt = 0 ∧
          ∀ n, (p.nsq.get n).state = .stopped ∧ (p.nsq.get n).fault = .none by
    rcases hc with rfl | rfl
    · exact answers_of_act (f := (·.powerOn)) rfl (h _ _ _ _ rfl)
    · exact answers_of_act (f := (·.deviceReset)) rfl (h _ _ _ _ rfl)
  intro m opc sent p hp
  obtain ⟨hstop, hreleased⟩ := Part.atReset_pressed m opc sent hs
  obtain ⟨hstation, hword, hfactor, hff, hstep, htime, hnsq⟩ :=
    Part.takeStop_first rfl rfl hreleased (hstop.symm.trans hp)
  rw [Part.atReset_timebase] at hff htime
  refine ⟨hstation, hword, hfactor, hff, hstep, htime, fun n => ?_⟩
  simp [hnsq, Reset.nsq]

end Sys2Proof.Machine
end

section
/-! Two runs of the blocks on parts whose fixtures are in the same states: the blocks do in both the same (R54). -/

namespace Sys2Proof.Machine

namespace Part

/-- The blocks read in part `t` what they read in part `s`: the parts differ at the station, the faults and the power
queue, in what the fixtures hold besides their states, and in the words `words`. -/
structure ReadsAs (words : List Nat) (s t : Part) : Prop where
  same : t = { s with mem := t.mem, factor := t.factor, firstFault := t.firstFault, station := t.station
                      stopPressed := t.stopPressed, powerQueue := t.powerQueue, fxc := t.fxc }
  states : ∀ m, (t.fxc.get m).state = (s.fxc.get m).state
  stores : s.StoresOnly words t

namespace ReadsAs

variable {words : List Nat} {s t : Part} {n m : NestId}

theorem ite {c : Prop} [Decidable c] {a b a' b' : Part} (ha : ReadsAs words a a') (hb : ReadsAs words b b') :
    ReadsAs words (if c then a else b) (if c then a' else b') := by split <;> assumption

variable (h : ReadsAs words s t)
include h

/-! ### What both runs read alike -/

theorem ticks : t.ticks = s.ticks := congrArg (·.ticks) h.same
theorem nsq : t.nsq = s.nsq := congrArg (·.nsq) h.same
theorem stu : t.stu = s.stu := congrArg (·.stu) h.same
theorem buc : t.buc = s.buc := congrArg (·.buc) h.same
theorem gmn : t.gmn = s.gmn := congrArg (·.gmn) h.same
theorem lpc : t.lpc = s.lpc := congrArg (·.lpc) h.same
theorem pcv : t.pcv = s.pcv := congrArg (·.pcv) h.same
theorem powered : t.powered m = s.powered m := by rw [Part.powered, h.states, Part.powered]

theorem nestStateWord : t.nestStateWord m = s.nestStateWord m := by
  rw [Part.nestStateWord, h.nsq, h.states, h.buc, Part.nestStateWord]

/-! ### Changes made in both runs -/

theorem put {i : Nat} {v : W32} : ReadsAs words (s.put i v) (t.put i v) :=
  { h with same := congrArg (Part.put i v) h.same, stores := h.stores.put_both }
theorem modNsq {f : Nsq → Nsq} : ReadsAs words (s.modNsq m f) (t.modNsq m f) :=
  { h with same := congrArg (Part.modNsq m f) h.same }
theorem modStu {f : Stimulus → Stimulus} : ReadsAs words (s.modStu m f) (t.modStu m f) :=
  { h with same := congrArg (Part.modStu m f) h.same }
theorem modBuc {f : Bus → Bus} : ReadsAs words (s.modBuc m f) (t.modBuc m f) :=
  { h with same := congrArg (Part.modBuc m f) h.same }
theorem modGmn {f : Gauges → Gauges} : ReadsAs words (s.modGmn m f) (t.modGmn m f) :=
  { h with same := congrArg (Part.modGmn m f) h.same }
theorem modLpc {f : Watcher → Watcher} : ReadsAs words (s.modLpc m f) (t.modLpc m f) :=
  { h with same := congrArg (Part.modLpc m f) h.same }
theorem modPcv {f : Converter → Converter} : ReadsAs words (s.modPcv f) (t.modPcv f) :=
  { h with same := congrArg (Part.modPcv f) h.same }
theorem send {x : Notice} : ReadsAs words (s.send x) (t.send x) := { h with same := congrArg (Part.send x) h.same }
theorem keepReport {r : Results} : ReadsAs words (s.keepReport m r) (t.keepReport m r) := h.modNsq

/-- NEST_STATE changes in both runs, or in neither. -/
theorem track {f : Part → Part} (hf : ReadsAs words (f s) (f t)) : ReadsAs words (s.track m f) (t.track m f) := by
  unfold Part.track
  dsimp only
  rw [h.nestStateWord, hf.nestStateWord]
  exact ite hf hf.put

theorem foldl {α : Type} {f : Part → α → Part} {l : List α}
    (hf : ∀ {s t : Part} (x : α), ReadsAs words s t → ReadsAs words (f s x) (f t x)) :
    ReadsAs words (l.foldl f s) (l.foldl f t) := by
  induction l generalizing s t with
  | nil => exact h
  | cons x l ih => exact ih (hf x h)

/-! ### The blocks -/

theorem enforceIdle : ReadsAs words (s.enforceIdle m) (t.enforceIdle m) := by
  unfold Part.enforceIdle
  dsimp only
  rw [h.stu]
  cases (s.stu.get m).heldResults with
  | none => exact ite h.modStu h.modStu.send
  | some r => exact ite h.keepReport.modStu h.keepReport.modStu.send

theorem writeSlot (k : Fin 16) : ReadsAs words ((s.writeSlotStatus m k).writeSlotNacks m k)
    ((t.writeSlotStatus m k).writeSlotNacks m k) := by
  have hslot : t.slot m k = s.slot m k := by rw [slot, h.buc, slot]
  have hstatus : ReadsAs words (s.writeSlotStatus m k) (t.writeSlotStatus m k) := by
    rw [writeSlotStatus, writeSlotStatus, hslot]
    exact h.put
  have hslot' : (t.writeSlotStatus m k).slot m k = (s.writeSlotStatus m k).slot m k := hslot
  rw [writeSlotNacks, writeSlotNacks, hslot']
  exact hstatus.put

theorem endCheckFrame : ReadsAs words (s.endCheckFrame m) (t.endCheckFrame m) := by
  unfold Part.endCheckFrame
  rw [h.buc]
  split
  exacts [h, h.modBuc.keepReport]

theorem stopBus : ReadsAs words (s.stopBus m) (t.stopBus m) := by
  have hstopped {a b : Part} (hab : ReadsAs words a b) (f : Bus → Bus) (l : List (Fin 16)) :
      ReadsAs words
        (l.foldl (fun s k => (s.writeSlotStatus m k).writeSlotNacks m k) (a.track m fun s => s.modBuc m f))
        (l.foldl (fun s k => (s.writeSlotStatus m k).writeSlotNacks m k) (b.track m fun s => s.modBuc m f)) :=
    (hab.track hab.modBuc).foldl fun k h => h.writeSlot k
  unfold Part.stopBus
  dsimp only
  rw [h.buc]
  cases (s.buc.get m).loadWait with
  | none => exact hstopped h.endCheckFrame _ _
  | some w => exact hstopped h.keepReport.endCheckFrame _ _

theorem endGaugeCheck : ReadsAs words (s.endGaugeCheck m) (t.endGaugeCheck m) := by
  unfold Part.endGaugeCheck
  simp only [gauge, h.gmn]
  split
  exacts [h, h.modGmn.keepReport]

theorem freezeMonitor : ReadsAs words (s.freezeMonitor m) (t.freezeMonitor m) := h.modGmn.endGaugeCheck

theorem lpcDeparts : ReadsAs words (s.lpcDeparts m) (t.lpcDeparts m) := by
  have hwatch : ReadsAs words (s.endLampWatch m) (t.endLampWatch m) := by
    unfold endLampWatch
    rw [h.lpc]
    split
    exacts [h, h.modLpc.keepReport]
  unfold Part.lpcDeparts endCapture
  simp only [input, hwatch.lpc]
  split
  exacts [hwatch, hwatch.modLpc.keepReport]

theorem holdEnd : ReadsAs words (s.holdEnd m) (t.holdEnd m) := by
  unfold Part.holdEnd
  rw [h.nsq]
  exact ite (h.track h.modNsq) h

theorem keepMeasurement : ReadsAs words (s.keepMeasurement m) (t.keepMeasurement m) := by
  unfold Part.keepMeasurement
  simp only [measurement, h.pcv]
  split
  exacts [h.keepReport, h]

theorem grantConverter {q : W16} : ReadsAs words (s.grantConverter m q) (t.grantConverter m q) := by
  unfold Part.grantConverter
  simp only [measurement, h.pcv]
  split
  · unfold beginPoint closePoint
    dsimp only
    rw [dueIn, dueIn, now, now, h.ticks]
    exact h.modPcv.modPcv
  · exact h

theorem grantHead {q : List (NestId × W16)} : ReadsAs words (s.grantHead q) (t.grantHead q) := by
  induction q generalizing s t with
  | nil => exact h.modPcv
  | cons e q ih =>
    unfold Part.grantHead
    rw [h.powered]
    exact ite h.modPcv.grantConverter.holdEnd (ih h.keepMeasurement)

theorem stopMeasurement : ReadsAs words (s.stopMeasurement m) (t.stopMeasurement m) := by
  have hqueue : ReadsAs words (s.withdrawMeasurement m) (t.withdrawMeasurement m) := by
    unfold withdrawMeasurement
    rw [h.pcv]
    exact ite h.keepMeasurement.modPcv h
  unfold Part.stopMeasurement endMeasurement holdsConverter
  rw [hqueue.pcv]
  have hopen {a b : Part} (hab : ReadsAs words a b) : ReadsAs words a.releaseConverter b.releaseConverter := by
    unfold releaseConverter openRoute
    simp only [modPcv_pcv, hab.pcv]
    exact hab.modPcv.modPcv.grantHead
  exact ite (hopen hqueue.keepMeasurement.modPcv) hqueue

theorem leavePowered : ReadsAs words (s.leavePowered m) (t.leavePowered m) :=
  h.enforceIdle.stopBus.freezeMonitor.lpcDeparts.stopMeasurement

theorem departures (l : List NestId) : ReadsAs words (s.departures l) (t.departures l) :=
  h.foldl fun _ h => h.leavePowered

end ReadsAs

end Part

end Sys2Proof.Machine
end

section
/-! Station STOP: the supplies cut, the clamps reversed, and the claim (R71, R72). -/

namespace Sys2Proof.Machine

namespace Part

variable {s t u : Part} {n m : NestId}

/-! ### Fixtures changed and shown, one nest after the other -/

/-- NEST_STATE of every nest. -/
def nestStates : List Nat := (List.finRange 8).map fun n => nestAt n 7

theorem mem_nestStates (n : NestId) : nestAt n 7 ∈ nestStates := List.mem_map.2 ⟨n, List.mem_finRange n, rfl⟩

/-- A NEST_STATE that is shown stays so where a fixture is changed and shown. -/
theorem Shows.showing {f : Fixture} (h : s.Shows m) : (s.showing n f).Shows m := by
  have hshown : s.Shows m → Part.Shows m (s.track n fun s => s.modFxc n fun _ => f) := by
    unfold Shows
    by_cases hm : m = n
    · subst hm
      intro h
      rcases s.track_eq m (fun s => s.modFxc m fun _ => f) with ⟨e, he⟩ | ⟨e, -⟩ <;> rw [e]
      · exact h.trans he.symm
      · simp
    · have hne : nestAt n 7 ≠ nestAt m 7 := fun e => hm ((nestAt_eq_iff (by decide) (by decide)).1 e).1.symm
      have hword : (s.modFxc n fun _ => f).nestStateWord m = s.nestStateWord m := by
        simp [nestStateWord, Ne.symm hm]
      intro h
      rcases s.track_eq n (fun s => s.modFxc n fun _ => f) with ⟨e, -⟩ | ⟨e, -⟩ <;> rw [e]
      · exact h.trans hword.symm
      · rw [putNest_nestStateWord, hword, ← h]
        exact Memory.word_setWord_other _ _ hne
  rw [← track_modFxc n (fun _ => f)]
  exact hshown h

/-- An operation on a nest that changes its fixture by `f`, and shows it, where `c` holds of the fixture. -/
def ShowsEach (now : Nat) (c : Fixture → Prop) (f : Fixture → Fixture) (step : Part → NestId → Part) : Prop :=
  (∀ t n, t.now = now → c (t.fxc.get n) → step t n = t.showing n (f (t.fxc.get n))) ∧
    ∀ t n, ¬ c (t.fxc.get n) → step t n = t

namespace ShowsEach

variable {c : Fixture → Prop} {f : Fixture → Fixture} {step : Part → NestId → Part} {l : List NestId}
  (h : ShowsEach s.now c f step)
include h

/-- What a change of one fixture keeps, the changes of them all keep. -/
theorem foldl_keeps {P : Part → Prop} (hP : ∀ t n g, P t → P (t.showing n g)) (hs : P s) : P (l.foldl step s) := by
  induction l generalizing s with
  | nil => exact hs
  | cons n l ih =>
    by_cases hc : c (s.fxc.get n)
    · have hnext : ShowsEach (s.showing n (f (s.fxc.get n))).now c f step := by rwa [showing_now]
      rw [List.foldl_cons, h.1 s n rfl hc]
      exact ih hnext (hP _ _ _ hs)
    · rw [List.foldl_cons, h.2 s n hc]
      exact ih h hs

theorem foldl_eq : l.foldl step s = { s with fxc := (l.foldl step s).fxc, mem := (l.foldl step s).mem } :=
  h.foldl_keeps (P := fun t => t = { s with fxc := t.fxc, mem := t.mem }) (fun t n g ht => by
    rw [showing_eq, ht]) rfl

theorem foldl_stores : s.StoresOnly nestStates (l.foldl step s) :=
  h.foldl_keeps (fun _ n _ ht => ht.trans (StoresOnly.refl.showing (mem_nestStates n))) .refl

theorem foldl_keepsShown (hm : s.Shows m) : (l.foldl step s).Shows m := h.foldl_keeps (fun _ _ _ ht => ht.showing) hm

/-- The fixture of a nest outside the list, or one that is not changed, stays. -/
theorem foldl_leaves (hm : m ∈ l → ¬ c (s.fxc.get m)) : (l.foldl step s).fxc.get m = s.fxc.get m := by
  induction l generalizing s with
  | nil => rfl
  | cons n l ih =>
    by_cases hc : c (s.fxc.get n)
    · have hnext : ShowsEach (s.showing n (f (s.fxc.get n))).now c f step := by rwa [showing_now]
      have hnm : n ≠ m := fun e => hm (e ▸ .head _) (e ▸ hc)
      have hget : (s.showing n (f (s.fxc.get n))).fxc.get m = s.fxc.get m := by
        rw [showing_fxc, Bank.get_put_other _ _ hnm]
      rw [List.foldl_cons, h.1 s n rfl hc, ih hnext (by rw [hget]; exact fun hx => hm (.tail _ hx)), hget]
    · rw [List.foldl_cons, h.2 s n hc]
      exact ih h fun hx => hm (.tail _ hx)

/-- A nest of the list has its fixture changed once. -/
theorem foldl_changes (hl : l.Nodup) (hm : m ∈ l) (hc : c (s.fxc.get m)) :
    (l.foldl step s).fxc.get m = f (s.fxc.get m) ∧
      ((f (s.fxc.get m)).state ≠ (s.fxc.get m).state → (l.foldl step s).Shows m) := by
  induction l generalizing s with
  | nil => cases hm
  | cons n l ih =>
    obtain ⟨hn, hl⟩ := List.nodup_cons.1 hl
    have hnext (g : Fixture) : ShowsEach (s.showing n g).now c f step := by rwa [showing_now]
    rw [List.foldl_cons]
    by_cases hnm : n = m
    · subst hnm
      rw [h.1 s n rfl hc]
      refine ⟨?_, fun hf => (hnext _).foldl_keepsShown (showing_word_nestState hf)⟩
      rw [(hnext _).foldl_leaves fun hx => absurd hx hn, showing_fxc, Bank.get_put_same]
    · have hm : m ∈ l := (List.mem_cons.1 hm).resolve_left (Ne.symm hnm)
      by_cases hcn : c (s.fxc.get n)
      · have hget : (s.showing n (f (s.fxc.get n))).fxc.get m = s.fxc.get m := by
          rw [showing_fxc, Bank.get_put_other _ _ hnm]
        rw [h.1 s n rfl hcn, ← hget]
        exact ih (hnext _) hl hm (by rwa [hget])
      · rw [h.2 s n hcn]
        exact ih h hl hm hc

end ShowsEach

/-! ### The stages of a station STOP -/

theorem showsEach_openSwitch (now : Nat) :
    ShowsEach now (fun _ => True) (Fixture.cut (now + 20000)) fun s n => s.openSwitch n :=
  ⟨fun t n ht _ => ht ▸ openSwitch_eq n t, fun _ _ h => absurd trivial h⟩

/-- The fixture of a nest whose closing clamp has been reversed (R71). -/
def clampReversed (f : Fixture) : Fixture := { f with state := .unclamping, drive := .opening, motionTimer := none }

/-- A fixture once a station STOP has cut its supply or reversed its closing clamp (R71). -/
def stoppedFixture (due : Nat) (f : Fixture) : Fixture :=
  if f.state.supplied then f.cut due else if f.state = .clamping then clampReversed f else f

/-- First the supplies are cut, then the clamps reverse. -/
theorem stoppedFixture_eq (due : Nat) (f : Fixture) : stoppedFixture due f =
    if (if f.state.supplied then f.cut due else f).state = .clamping
    then clampReversed (if f.state.supplied then f.cut due else f)
    else if f.state.supplied then f.cut due else f := by
  unfold stoppedFixture
  split
  · exact (if_neg nofun).symm
  · rfl

theorem stoppedFixture_powerOn (due : Nat) (x : Option PowerOnRecord) (f : Fixture) :
    stoppedFixture due { f with powerOn := x } = { stoppedFixture due f with powerOn := x } := by
  unfold stoppedFixture
  dsimp only
  split
  · rfl
  · split <;> rfl

theorem reverseClamp_eq_clampReversed (n : NestId) (s : Part) :
    s.reverseClamp n = s.showing n (clampReversed (s.fxc.get n)) :=
  publish_modFxc (h := fun f => { f with drive := .opening, motionTimer := none }) s

theorem showsEach_reverseClamp (now : Nat) : ShowsEach now (·.state = .clamping) clampReversed
    fun s n => if (s.fxc.get n).state = .clamping then s.reverseClamp n else s :=
  ⟨fun t n _ hc => (if_pos hc).trans (reverseClamp_eq_clampReversed n t), fun _ _ hc => if_neg hc⟩

/-- What emptying the power queue changes of a fixture (R64). -/
theorem emptyPowerQueue_get (m : NestId) (s : Part) : s.emptyPowerQueue.fxc.get m =
    { s.fxc.get m with powerOn := (s.emptyPowerQueue.fxc.get m).powerOn } := by
  have hfold (l : List PowerEntry) (t : Part) : (l.foldl (fun s e => s.fixHeldTime e) t).fxc.get m =
      { t.fxc.get m with powerOn := ((l.foldl (fun s e => s.fixHeldTime e) t).fxc.get m).powerOn } := by
    induction l generalizing t with
    | nil => rfl
    | cons e l ih =>
      rw [List.foldl_cons, ih]
      simp only [fixHeldTime, modFxc_fxc, Bank.get_modify]
      split <;> rfl
  exact hfold s.powerQueue { s with powerQueue := [] }

/-- Departures write neither a directory word nor a word of the records (R54). -/
theorem departures_word {i : Nat} (hi : Spare i) (l : List NestId) (s : Part) : (s.departures l).word i = s.word i := by
  unfold departures
  induction l generalizing s with
  | nil => rfl
  | cons n l ih =>
    have hone : (s.leavePowered n).word i = s.word i :=
      ((Beside.refl (words := [nestAt n 7]) s (.head _) (by unfold nestAt; simp; omega)).leavePowered).spare i hi
    rw [List.foldl_cons, ih, hone]

theorem departures_act (l : List NestId) (s : Part) : s.BlocksAct (s.departures l) :=
  (BlocksAct.refl s).foldl fun t _ => (BlocksAct.refl t).leavePowered

/-- The departures of a list of nests, as the claims state them. -/
theorem runs_departures (l : List NestId) (s : Part) : s.runs (l.flatMap leaving) = s.departures l := by
  induction l generalizing s with
  | nil => rfl
  | cons n l ih => rw [List.flatMap_cons, runs_append, runs_leaving, ih, departures, departures, List.foldl_cons]

/-- Station STOP shown, and the power queue emptied. -/
theorem stopEmptied (ht : s.stopShown.emptyPowerQueue = t) :
    t = { s with
      station := .stopped, stopPressed := true, mem := s.mem.setWord stationAt 3
      factor := s.factor ||| 1#19 <<< factorStop, powerQueue := [], fxc := t.fxc } ∧
    ∀ m, t.fxc.get m = { s.fxc.get m with powerOn := (t.fxc.get m).powerOn } := by
  have hfxc : s.stopShown.fxc = s.fxc := by rw [stopShown_eq]
  refine ⟨?_, fun m => ?_⟩
  · rw [← ht, emptyPowerQueue_eq, stopShown_eq]
  · rw [← ht, ← hfxc]
    exact emptyPowerQueue_get m _

/-- The switches of the supplied nests open (R71). -/
theorem suppliesOpened_cuts (ht : s.suppliesOpened = t) :
    t = { s with fxc := t.fxc, mem := t.mem } ∧ s.StoresOnly nestStates t ∧
      ∀ m, t.fxc.get m =
        (if (s.fxc.get m).state.supplied then (s.fxc.get m).cut (s.now + 20000) else s.fxc.get m) ∧
        ((s.fxc.get m).state.supplied = true → t.Shows m) := by
  have h := showsEach_openSwitch s.now
  subst ht
  refine ⟨h.foldl_eq, h.foldl_stores, fun m => ?_⟩
  split
  · next hm =>
    obtain ⟨hget, hshown⟩ := h.foldl_changes ((List.nodup_finRange 8).filter _) (mem_suppliedNests.2 hm) trivial
    refine ⟨hget, fun _ => hshown fun e => ?_⟩
    rw [← e] at hm
    cases hm
  · next hm => exact ⟨h.foldl_leaves fun hx => absurd (mem_suppliedNests.1 hx) hm, fun hx => absurd hx hm⟩

/-- The closing clamps reverse (R71). -/
theorem clampsReversed_reverses (ht : s.clampsReversed = t) :
    t = { s with fxc := t.fxc, mem := t.mem } ∧ s.StoresOnly nestStates t ∧
      ∀ m, t.fxc.get m = (if (s.fxc.get m).state = .clamping then clampReversed (s.fxc.get m) else s.fxc.get m) ∧
        ((s.fxc.get m).state = .clamping ∨ s.Shows m → t.Shows m) := by
  have h := showsEach_reverseClamp s.now
  subst ht
  refine ⟨h.foldl_eq, h.foldl_stores, fun m => ?_⟩
  split
  · next hm =>
    obtain ⟨hget, hshown⟩ := h.foldl_changes (List.nodup_finRange 8) (List.mem_finRange m) hm
    exact ⟨hget, fun _ => hshown (by rw [hm]; exact nofun)⟩
  · next hm => exact ⟨h.foldl_leaves fun _ => hm, fun hx => h.foldl_keepsShown (hx.resolve_left hm)⟩

/-- The supplies as a station STOP leaves them, before any block has taken a departure. -/
def supplyCut (s : Part) : Part :=
  { s with
    fxc := Bank.build fun n =>
      if (s.fxc.get n).state.supplied then (s.fxc.get n).cut (s.now + 20000) else s.fxc.get n }

/-- What a station STOP has done before it is offered to the first-fault record, in part `t`, with the blocks as part
`u` has them (R71). -/
structure Stopped (s u t : Part) : Prop where
  blocks : t = { u with mem := t.mem, factor := t.factor, firstFault := t.firstFault, station := t.station
                        stopPressed := t.stopPressed, powerQueue := t.powerQueue, fxc := t.fxc }
  stores : u.StoresOnly (stationAt :: nestStates) t
  station : t.station = .stopped ∧ t.stopPressed = true ∧ t.word stationAt = 3
  faults : t.factor = s.factor ||| 1#19 <<< factorStop ∧ t.firstFault = s.firstFault ∧ t.timebase = s.timebase
  powerQueue : t.powerQueue = []
  fixture : ∀ m, t.fxc.get m =
    { stoppedFixture (s.now + 20000) (s.fxc.get m) with powerOn := (t.fxc.get m).powerOn }
  shown : ∀ m, (s.fxc.get m).state.supplied = true ∨ (s.fxc.get m).state = .clamping → t.Shows m

theorem stopReleased_stopped (s : Part) :
    Stopped s (s.supplyCut.departures s.suppliedNests) s.stopReleased := by
  obtain ⟨e, he⟩ : ∃ e, s.stopShown.emptyPowerQueue = e := ⟨_, rfl⟩
  obtain ⟨o, ho⟩ : ∃ o, e.suppliesOpened = o := ⟨_, rfl⟩
  obtain ⟨d, hd⟩ : ∃ d, o.departures s.suppliedNests = d := ⟨_, rfl⟩
  obtain ⟨t, ht⟩ : ∃ t, d.clampsReversed = t := ⟨_, rfl⟩
  obtain ⟨hesame, hefxc⟩ := stopEmptied he
  obtain ⟨hosame, hostores, hofxc⟩ := suppliesOpened_cuts ho
  obtain ⟨htsame, htstores, htfxc⟩ := clampsReversed_reverses ht
  have hemem : e.mem = s.mem.setWord stationAt 3 := by rw [hesame]
  have hact : o.BlocksAct d := hd ▸ departures_act _ o
  have hestate (m : NestId) : (e.fxc.get m).state = (s.fxc.get m).state := by rw [hefxc]
  have hsupplied : e.suppliedNests = s.suppliedNests := by simp only [suppliedNests, hestate]
  have hreleased : s.stopReleased = t := by
    rw [stopReleased, he, ho, hsupplied, hd, ht]
  have hreads : ReadsAs (stationAt :: nestStates) s.supplyCut o := {
    same := by rw [hosame, hesame]; rfl
    states := fun m => by
      have hcut : s.supplyCut.fxc.get m =
          if (s.fxc.get m).state.supplied then (s.fxc.get m).cut (s.now + 20000) else s.fxc.get m := Bank.get_build ..
      rw [(hofxc m).1, hcut, hestate]
      split
      exacts [rfl, hestate m]
    stores := by
      have hword : s.supplyCut.StoresOnly (stationAt :: nestStates) (s.supplyCut.put stationAt 3) := .put .refl (.head _)
      exact (hword.of_mem hemem).trans (hostores.mono fun _ => List.mem_cons_of_mem _) }
  have hblocks : ReadsAs (stationAt :: nestStates) (s.supplyCut.departures s.suppliedNests) d :=
    hd ▸ hreads.departures _
  have hstation : o.station = .stopped ∧ o.stopPressed = true := by rw [hosame, hesame]; exact ⟨rfl, rfl⟩
  have hfaults : o.factor = s.factor ||| 1#19 <<< factorStop ∧ o.firstFault = s.firstFault ∧ o.ticks = s.ticks := by
    rw [hosame, hesame]; exact ⟨rfl, rfl, rfl⟩
  have hqueue : o.powerQueue = [] := by rw [hosame, hesame]
  have hnow : e.now = s.now := by rw [hesame]; rfl
  have htimebase : t.timebase = s.timebase := by
    have hticks : t.ticks = s.ticks := (congrArg (·.ticks) htsame).trans (hact.ticks.trans hfaults.2.2)
    rw [timebase, now, hticks, timebase, now]
  have hword : t.word stationAt = 3 := by
    have hout : stationAt ∉ nestStates := by decide
    have hspare : Spare stationAt := ⟨by decide, by decide⟩
    rw [htstores.word hout, ← hd, departures_word hspare, hostores.word hout, word, hemem, Memory.word_setWord_same]
  rw [hreleased]
  refine ⟨by rw [htsame, hblocks.same], hblocks.stores.trans (htstores.mono fun _ => List.mem_cons_of_mem _),
    ⟨?_, ?_, hword⟩, ⟨?_, ?_, htimebase⟩, ?_, fun m => ?_, fun m hm => ?_⟩
  · exact (congrArg (·.station) htsame).trans (hact.station.trans hstation.1)
  · exact (congrArg (·.stopPressed) htsame).trans (hact.stopPressed.trans hstation.2)
  · exact (congrArg (·.factor) htsame).trans (hact.factor.trans hfaults.1)
  · exact (congrArg (·.firstFault) htsame).trans (hact.firstFault.trans hfaults.2.1)
  · exact (congrArg (·.powerQueue) htsame).trans (hact.powerQueue.trans hqueue)
  · have hget : t.fxc.get m =
        { stoppedFixture (s.now + 20000) (s.fxc.get m) with powerOn := (e.fxc.get m).powerOn } := by
      rw [(htfxc m).1, hact.fxc, (hofxc m).1, hnow, ← stoppedFixture_eq, ← stoppedFixture_powerOn, ← hefxc]
    have hpower : (t.fxc.get m).powerOn = (e.fxc.get m).powerOn := by rw [hget]
    rw [hpower]
    exact hget
  · refine (htfxc m).2 ?_
    rw [hact.fxc, (hofxc m).1, hestate]
    rcases hm with hs | hclamping
    · exact .inr (hact.shown m ((hofxc m).2 (by rwa [hestate])))
    · refine .inl ?_
      rw [if_neg (by rw [hclamping]; decide), hestate, hclamping]

end Part

end Sys2Proof.Machine
end

section
/-! The STOP input (R71, R72). -/

namespace Sys2Proof.Machine

namespace Part

variable {s t u p : Part}

/-- Station STOP offered to the first-fault record (R23, R71). -/
theorem offerFault_offers (hu : t.offerFault 8 .stationStop none = u) :
    u = { t with mem := u.mem, factor := u.factor, firstFault := u.firstFault } ∧
      t.StoresOnly [ffStateAt, ffStepAt, ffTimeAt] u ∧
      (t.firstFault = none → u.firstFault = some ⟨8, .stationStop, none, t.timebase⟩ ∧
        u.factor = t.factor ||| 1#19 <<< factorFirstFault) ∧
      (t.firstFault.isSome → u.firstFault = t.firstFault ∧ u.factor = t.factor) := by
  have hstores : t.StoresOnly [ffStateAt, ffStepAt, ffTimeAt] u := hu ▸ StoresOnly.refl.offerFault fun _ => id
  refine ⟨?_, hstores, fun h => ?_, fun h => ?_⟩
  · rw [← hu]
    apply Part.eq_of_fields <;> simp
  · rw [← hu]
    exact ⟨offerFault_invalid _ _ _ _ h, (offerFault_words _ _ _ h).2.2.2⟩
  · obtain ⟨f, hf⟩ := Option.isSome_iff_exists.1 h
    rw [← hu, offerFault_valid _ _ _ _ hf]
    exact ⟨rfl, rfl⟩

/-- The flags after a station STOP (R19, R23). -/
theorem Stopped.flags (h : Stopped s u t) (hp : t.offerFault 8 .stationStop none = p) :
    p.factor.getLsbD factorStop = true ∧ s.SetsOnly [factorStop, factorFirstFault] p ∧
      (s.firstFault = none → p.firstFault = some ⟨8, .stationStop, none, s.timebase⟩ ∧
        p.factor.getLsbD factorFirstFault = true) ∧
      (s.firstFault.isSome → p.firstFault = s.firstFault) := by
  obtain ⟨hfactor, hfirst, htime⟩ := h.faults
  obtain ⟨-, -, hnone, hsome⟩ := offerFault_offers hp
  rw [hfirst, htime, hfactor] at hnone
  rw [hfirst, hfactor] at hsome
  have hout {i : Nat} (hi : i ∉ [factorStop, factorFirstFault]) : factorStop ≠ i ∧ factorFirstFault ≠ i := by
    simp only [List.mem_cons, List.not_mem_nil, or_false, not_or] at hi
    exact ⟨Ne.symm hi.1, Ne.symm hi.2⟩
  cases hs : s.firstFault with
  | none =>
    obtain ⟨hff, hflags⟩ := hnone hs
    refine ⟨?_, fun i hi => ?_, fun _ => ⟨hff, ?_⟩, nofun⟩
    · simp [hflags, factorStop]
    · simp only [hflags, getLsbD_setFlag, (hout hi).1, (hout hi).2, decide_false, Bool.and_false, Bool.or_false]
    · simp [hflags, factorFirstFault]
  | some f =>
    obtain ⟨hff, hflags⟩ := hsome (by simp [hs])
    refine ⟨?_, fun i hi => ?_, nofun, fun _ => hff.trans hs⟩
    · simp [hflags, factorStop]
    · simp only [hflags, getLsbD_setFlag, (hout hi).1, decide_false, Bool.and_false, Bool.or_false]

/-- A station STOP as a whole, with the blocks as part `u` has them once they have taken the departures (R71). -/
theorem takeStop_cuts (hu : s.supplyCut.departures s.suppliedNests = u) (hp : s.takeStop = p) :
    ∃ t, Stopped s u t ∧ p = { t with
      mem := p.mem, factor := p.factor, firstFault := p.firstFault, sent := u.sent ++ stopNotices } ∧
      t.StoresOnly [ffStateAt, ffStepAt, ffTimeAt] p ∧
      p.factor.getLsbD factorStop = true ∧ s.SetsOnly [factorStop, factorFirstFault] p ∧
      (s.firstFault = none → p.firstFault = some ⟨8, .stationStop, none, s.timebase⟩ ∧
        p.factor.getLsbD factorFirstFault = true) ∧
      (s.firstFault.isSome → p.firstFault = s.firstFault) := by
  have hstopped : Stopped s u s.stopReleased := hu ▸ stopReleased_stopped s
  rw [takeStop_eq] at hp
  obtain ⟨t, ht⟩ : ∃ t, s.stopReleased = t := ⟨_, rfl⟩
  obtain ⟨x, hx⟩ : ∃ x, t.offerFault 8 .stationStop none = x := ⟨_, rfl⟩
  rw [ht] at hstopped
  rw [ht, hx] at hp
  have hsent : t.sent = u.sent := congrArg (·.sent) hstopped.blocks
  obtain ⟨hsame, hstores, -⟩ := offerFault_offers hx
  have hflags := hstopped.flags hx
  subst hp
  exact ⟨t, hstopped, by rw [hsame, hsent], hstores.of_mem rfl, hflags⟩

/-- What the claims state of a station STOP that leads from part `s` to part `p`, with the blocks as part `u` has them
(R71). -/
def StopTaken (s u p : Part) : Prop :=
  p.station = .stopped ∧ p.stopPressed = true ∧ p.word stationAt = 3 ∧ p.factor.getLsbD factorStop = true ∧
    p.powerQueue = [] ∧
    (∀ n,
      p.fxc.get n =
        { stoppedFixture (s.now + 20000) (s.fxc.get n) with powerOn := (p.fxc.get n).powerOn } ∧
      ((s.fxc.get n).state.supplied = true ∨ (s.fxc.get n).state = .clamping →
        p.word (nestAt n 7) = p.nestStateWord n)) ∧
    (s.firstFault = none → p.firstFault = some ⟨8, .stationStop, none, s.timebase⟩ ∧
      p.factor.getLsbD factorFirstFault = true) ∧
    (s.firstFault.isSome → p.firstFault = s.firstFault) ∧
    p.sent = u.sent ++ (List.finRange 8).map Notice.stationStop ++ [.panelStop] ∧
    s.SetsOnly [factorStop, factorFirstFault] p ∧
    u.StoresOnly ([stationAt, ffStateAt, ffStepAt, ffTimeAt] ++ (List.finRange 8).map fun n => nestAt n 7) p ∧
    p = { u with station := p.station, stopPressed := p.stopPressed, mem := p.mem, factor := p.factor
                 powerQueue := p.powerQueue, fxc := p.fxc, firstFault := p.firstFault, sent := p.sent }

theorem takeStop_taken (hu : s.supplyCut.departures s.suppliedNests = u) (hp : s.takeStop = p) : StopTaken s u p := by
  obtain ⟨t, hstopped, hsame, hstores, hstop, hsets, hnone, hsome⟩ := takeStop_cuts hu hp
  obtain ⟨hstation, hpressed, hword⟩ := hstopped.station
  have hfxc : p.fxc = t.fxc := congrArg (·.fxc) hsame
  have hwords : p.word stationAt = t.word stationAt := hstores.word (by decide)
  refine ⟨(congrArg (·.station) hsame).trans hstation, (congrArg (·.stopPressed) hsame).trans hpressed,
    hwords.trans hword, hstop, (congrArg (·.powerQueue) hsame).trans hstopped.powerQueue, fun n => ⟨?_, fun hn => ?_⟩,
    hnone, hsome, ?_, hsets, ?_, ?_⟩
  · rw [hfxc]
    exact hstopped.fixture n
  · have hstate : p.nestStateWord n = t.nestStateWord n := by
      rw [nestStateWord, hfxc, congrArg (·.nsq) hsame, congrArg (·.buc) hsame, nestStateWord]
    rw [hstores.word (nestAt_not_firstFault n 7), hstate]
    exact hstopped.shown n hn
  · rw [List.append_assoc]
    exact congrArg (·.sent) hsame
  · have hfirst : ∀ i ∈ stationAt :: nestStates, i ∈ [stationAt, ffStateAt, ffStepAt, ffTimeAt] ++ nestStates :=
      fun i hi => by
        rcases List.mem_cons.1 hi with rfl | hi
        · exact .head _
        · exact List.mem_append_right _ hi
    exact (hstopped.stores.mono hfirst).trans (hstores.mono fun i hi => List.mem_append_left _ (.tail _ hi))
  · have hlast : p = { t with mem := p.mem, factor := p.factor, firstFault := p.firstFault, sent := p.sent } := by
      rw [hsame]
    refine hlast.trans ?_
    rw [hstopped.blocks, hsame]

/-- STATION shows the level of the STOP input. -/
theorem level_shown_iff : ∀ x y z : Bool, ((flag x 0 ||| flag y 1 : W32) = flag x 0 ||| flag z 1) ↔ z = y := by decide

/-- A change of the STOP input that is no station STOP (R72). -/
theorem takeStopInput_level {pressed : Bool} (h : s.station = .stopped ∨ pressed = false) :
    s.takeStopInput pressed =
      if s.stopPressed = pressed then s
      else ({ s with stopPressed := pressed } : Part).put stationAt
        (flag (decide (s.station = .stopped)) 0 ||| flag pressed 1) := by
  have hno : ¬ (pressed && decide (s.station = .run)) = true := by
    rcases h with h | h <;> simp [h]
  have hword : (({ s with stopPressed := pressed } : Part).stationWord = s.stationWord) ↔ s.stopPressed = pressed :=
    level_shown_iff ..
  unfold takeStopInput
  rw [if_neg hno]
  dsimp only
  split
  · next hw =>
    have hp := hword.1 hw
    rw [if_pos hp, ← hp]
  · next hw => rw [if_neg (mt hword.2 hw)]; rfl

end Part

/-- Settles O28, by the stages of a station STOP and by the level of the STOP input. -/
theorem stationStopCutsEverySupply : Obligations.StationStopCutsEverySupply := by
  refine ⟨fun c s hc hs => ?_, fun pressed s hs => ?_⟩
  · have hin : s.part.takeStopInput true = s.part.takeStop := by simp [Part.takeStopInput, hs]
    have hexec : exec c s = s.act (·.takeStopInput true) := by rcases hc with rfl | rfl <;> rfl
    exact ⟨s.part.takeStop, hexec.trans (by rw [State.act, hin]),
      Part.takeStop_taken (Part.runs_departures s.part.suppliedNests s.part.supplyCut).symm rfl⟩
  · refine answers_of_act (f := (·.takeStopInput pressed)) rfl ?_
    dsimp only
    rw [Part.takeStopInput_level hs]
    split
    · next h => exact ⟨by rw [← h], fun hne => absurd h hne, .refl⟩
    · exact ⟨rfl, fun _ => Part.put_word_same .., Part.StoresOnly.put .refl (.head _)⟩

end Sys2Proof.Machine
end

section
/-! The stimulus unit: what reaches one nest alone, and idle enforcement. -/

namespace Sys2Proof.Machine

/-- A command that finds nothing to act on answers the state as it was (log entry 10). -/
theorem exec_eq_next {c : Instr} {s : State} {f : Part → Part} (h : exec c s = s.act f) (hf : f s.part = s.part) :
    exec c s = .next s := by rw [h, State.act, hf]

namespace Part

variable {n : NestId} {s t : Part}

/-! ### Changes of one nest's stimulus -/

/-- A change of one nest's stimulus, sequencer and messages reaches no other nest. -/
theorem nestOnly_stimulus (hnsq : Bank.AgreeBut n s.nsq t.nsq) (hstu : Bank.AgreeBut n s.stu t.stu)
    (h : t = { s with stu := t.stu, nsq := t.nsq, sent := t.sent }) : s.NestOnly n t := by
  rw [h]
  exact ⟨hnsq, .refl n _, hstu, .refl n _, .refl n _, .refl n _⟩

/-- The stimulus of a nest changed, and then its step completed (R28). -/
theorem modStu_completes (n : NestId) (f : Stimulus → Stimulus) (k : Kind) (r : Results) (s : Part) :
    let p := (s.modStu n f).completeStep n k .pass .none r
    s.Completes n k .pass .none r [] [] p ∧ s.SequencerKept n p ∧ s.NestOnly n p ∧
      p = { s with stu := s.stu.modify n f, nsq := p.nsq, sent := p.sent } := by
  intro p
  obtain ⟨hdone, hkept, hothers, hsame⟩ :=
    completeStep_completes s (s.modStu n f) n k .pass .none r [] rfl (List.append_nil _).symm
  have hstu : p.stu = s.stu.modify n f := by simp [p]
  exact ⟨hdone, hkept, nestOnly_stimulus hothers (hstu ▸ .modify n _ _) (hsame.trans (by rw [hstu]; rfl)), hsame⟩

/-! ### Idle enforcement -/

/-- The one thing that a search finds is what it finds first. -/
theorem findSome?_unique {k : Nat} {α : Type} {f : Fin k → Option α} {i : Fin k} {a : α} (hi : f i = some a)
    (hj : ∀ j, j ≠ i → f j = none) : (List.finRange k).findSome? f = some a := by
  cases h : (List.finRange k).findSome? f with
  | none => rw [List.findSome?_eq_none_iff.1 h i (List.mem_finRange i)] at hi; cases hi
  | some b =>
    obtain ⟨j, -, hb⟩ := List.exists_of_findSome?_eq_some h
    by_cases e : j = i
    · rw [← hb, e, hi]
    · rw [hj j e] at hb; cases hb

/-- The results of the one burst on the nest are held (R80). -/
theorem heldResults_burst {u : Stimulus} {i : Fin 4} {b : Burst} (hb : (u.channels.get i).burst = some b)
    (hj : ∀ j, j ≠ i → (u.channels.get j).burst = none) : u.heldResults = some b.results := by
  simp only [Stimulus.heldResults, findSome?_unique hb hj]

/-- With no burst, the results of the one settle on the nest are held (R82). -/
theorem heldResults_settle {u : Stimulus} {e : Fin 2} {t : SenderSettle} (hb : ∀ i, (u.channels.get i).burst = none)
    (ht : (u.senders.get e).settle = some t) (hj : ∀ j, j ≠ e → (u.senders.get j).settle = none) :
    u.heldResults = some ⟨t.w11, 0, 0, 0, 0⟩ := by
  have hnone : (List.finRange 4).findSome? (fun i => (u.channels.get i).burst) = none :=
    List.findSome?_eq_none_iff.2 fun i _ => hb i
  simp only [Stimulus.heldResults, hnone, findSome?_unique ht hj]
  rfl

/-- Idle enforcement keeps the results held for the step, if there are any (R45, R86). -/
theorem enforceIdle_sequencer (n : NestId) (s : Part) : (s.enforceIdle n).nsq.get n =
    { s.nsq.get n with report := (s.stu.get n).heldResults.or (s.nsq.get n).report } := by
  unfold enforceIdle
  dsimp only
  cases (s.stu.get n).heldResults <;> split <;> simp

theorem enforceIdle_report {r : Results} (h : (s.stu.get n).heldResults = some r) :
    ((s.enforceIdle n).nsq.get n).report = some r := by
  rw [enforceIdle_sequencer, h, Option.some_or]

end Part

/-- Settles O29, by what idle enforcement makes of the nest's stimulus and by the results it holds. -/
theorem idleEnforcementRestsTheStimulus : Obligations.IdleEnforcementRestsTheStimulus := by
  refine fun n s => answers_of_act (f := (·.enforceIdle n)) rfl ?_
  have hsame := Part.enforceIdle_eq n s.part
  have hstu : (s.part.enforceIdle n).stu = s.part.stu.modify n Stimulus.idled := congrArg (·.stu) hsame
  have hidle : (s.part.enforceIdle n).stu.get n = (s.part.stu.get n).idled := by rw [hstu, Bank.get_modify_same]
  have hsent : (s.part.enforceIdle n).sent = s.part.sent ++ (s.part.stu.get n).cutReport n := congrArg (·.sent) hsame
  have hframe : s.part.enforceIdle n =
      { s.part with
        stu := (s.part.enforceIdle n).stu, nsq := (s.part.enforceIdle n).nsq, sent := (s.part.enforceIdle n).sent } := by
    rw [hsent, hstu]; exact hsame
  refine ⟨fun i => ?_, fun e => ?_, fun i => ?_, ?_, hsent, fun i b hb hj => ?_, fun e t ht hj hb => ?_,
    by rw [Part.SequencerKept, Part.enforceIdle_sequencer],
    Part.nestOnly_stimulus (Part.agreeBut_enforceIdle n s.part) (hstu ▸ .modify n _ _) hframe, hframe⟩
  · simp [Part.channel, hidle, Stimulus.idled, Channel.idle, Reset.channel, Reset.setting]
  · simp [Part.sender, hidle, Stimulus.idled, Reset.sender]
  · simp [hidle, Stimulus.idled]
  · rw [hidle]; rfl
  · exact Part.enforceIdle_report (Part.heldResults_burst hb hj)
  · exact Part.enforceIdle_report (Part.heldResults_settle hb ht hj)

end Sys2Proof.Machine
end

section
/-! The course of a pulse channel and of a COUNT burst. -/

namespace Sys2Proof.Machine

/-- The rest of a nest whose channel `i` has become `x`. -/
def Part.withChannel (n : NestId) (i : Fin 4) (x : Channel) (s : Part) : Part :=
  { s with stu := s.stu.put n { s.stu.get n with channels := (s.stu.get n).channels.put i x } }

namespace Part

variable {n : NestId} {i : Fin 4} {s t : Part} {w : Wire} {b : Burst}

/-! ### The course of a pulse channel -/

theorem modChannel_eq (n : NestId) (i : Fin 4) (f : Channel → Channel) (s : Part) :
    s.modChannel n i f = s.withChannel n i (f (s.channel n i)) := rfl

/-- A channel that a change leaves as it was. -/
theorem withChannel_self (n : NestId) (i : Fin 4) (s : Part) : s.withChannel n i (s.channel n i) = s := by
  unfold withChannel channel
  rw [Bank.put_get, Bank.put_get]

/-- The end of an active phase whose ticks have run (R75, R79). -/
theorem endActive_run {c : Channel} {t : Nat} (hw : c.wire = some w) (hi : w.inactive = false)
    (ht : w.start + w.active ≤ t) : c.endActive t =
      { c with
        wire := some { w with inactive := true }
        burst := if w.mode = .count then
            c.burst.map fun b => { b with emitted := b.emitted + 1, left := b.left - 1 }
          else c.burst } := by
  simp [Channel.endActive, hw, Wire.activeRun, hi, ht]

/-- No active phase ends on a channel without a period, past its active phase, or before its ticks have run (R75; log
entry 10). -/
theorem endActive_idle {c : Channel} {t : Nat}
    (h : ∀ w, c.wire = some w → w.inactive = true ∨ t < w.start + w.active) : c.endActive t = c := by
  unfold Channel.endActive
  split
  · rfl
  · next w hw => rcases h w hw with h | h <;> simp [Wire.activeRun, h]

/-- No period ends on a channel without one, in its active phase, or before its ticks have run (R76; log entry 10). -/
theorem endPeriod_idle (h : ∀ w, (s.channel n i).wire = some w → w.inactive = false ∨ s.ticks < w.start + w.period) :
    s.endPeriod n i = s := by
  unfold endPeriod
  dsimp only
  split
  · rfl
  · next w hw => rcases h w hw with h | h <;> simp [Wire.periodRun, h]

section

variable (hw : (s.channel n i).wire = some w) (hi : w.inactive = true) (ht : w.start + w.period ≤ s.ticks)
include hw hi ht

/-- At the boundary of a channel with no burst on the wire the pending setting reaches the wire (R76). -/
theorem endPeriod_reaches {x : PulseSetting} (hb : w.mode ≠ .count ∨ (s.channel n i).burst = none)
    (hp : (s.channel n i).pending = some x) : s.endPeriod n i = s.modChannel n i (·.reach x s.ticks) := by
  have hrun : w.periodRun s.ticks = true := by simp [Wire.periodRun, hi, ht]
  simp only [endPeriod, hw, hrun, Bool.not_true, Bool.false_eq_true, if_false, hp]
  split
  · next hm hburst => simp [hm, hburst] at hb
  · rfl

/-- With no setting pending the next period begins (R76). -/
theorem endPeriod_renews (hb : w.mode ≠ .count ∨ (s.channel n i).burst = none) (hp : (s.channel n i).pending = none) :
    s.endPeriod n i =
      s.modChannel n i fun c => { c with wire := some { w with start := s.ticks, inactive := false } } := by
  have hrun : w.periodRun s.ticks = true := by simp [Wire.periodRun, hi, ht]
  simp only [endPeriod, hw, hrun, Bool.not_true, Bool.false_eq_true, if_false, hp]
  split
  · next hm hburst => simp [hm, hburst] at hb
  · rfl

/-- A boundary within a burst begins the next period (R79). -/
theorem endPeriod_bursting (hm : w.mode = .count) (hb : (s.channel n i).burst = some b) (hl : b.left ≠ 0) :
    s.endPeriod n i =
      s.modChannel n i fun c => { c with wire := some { w with start := s.ticks, inactive := false } } := by
  have hrun : w.periodRun s.ticks = true := by simp [Wire.periodRun, hi, ht]
  simp [endPeriod, hw, hrun, hm, hb, hl]

/-- The boundary after a burst's last pulse (R79). -/
theorem endPeriod_lastPulse (hm : w.mode = .count) (hb : (s.channel n i).burst = some b) (hl : b.left = 0) :
    s.endPeriod n i = (s.modChannel n i Channel.endBurst).completeStep n .setPulse .pass .none b.results := by
  have hrun : w.periodRun s.ticks = true := by simp [Wire.periodRun, hi, ht]
  simp [endPeriod, hw, hrun, hm, hb, hl]

end

/-- A burst stopped for the NSQ turns the channel OFF and keeps its results (R80). -/
theorem stopBurst_running (hb : (s.channel n i).burst = some b) :
    s.stopBurst n i = (s.modChannel n i Channel.endBurst).keepReport n b.results := by
  simp [stopBurst, hb]

/-- A stop request finds no burst (log entry 10). -/
theorem stopBurst_idle (hb : (s.channel n i).burst = none) : s.stopBurst n i = s := by simp [stopBurst, hb]

end Part

/-- Settles O30, by the cases of an active phase's end, of a boundary, and of a stop request. -/
theorem pulsePeriods : Obligations.PulsePeriods := by
  intro n i s u c becomes off results
  have hactive {x : Channel} (h : c.endActive s.part.ticks = x) : becomes (.activePhaseEnd n i) x :=
    answers_of_act (f := fun s => s.modChannel n i (·.endActive s.ticks)) rfl (by rw [Part.modChannel_eq, ← h]; rfl)
  have hphase (h : ∀ w, c.wire = some w → w.inactive = true ∨ s.part.ticks < w.start + w.active) :
      exec (.activePhaseEnd n i) s = .next s :=
    exec_eq_next (f := fun s => s.modChannel n i (·.endActive s.ticks)) rfl (by
      rw [Part.modChannel_eq, Part.endActive_idle h, Part.withChannel_self])
  have hboundary (h : ∀ w, c.wire = some w → w.inactive = false ∨ s.part.ticks < w.start + w.period) :
      exec (.periodBoundary n i) s = .next s :=
    exec_eq_next (f := (·.endPeriod n i)) rfl (Part.endPeriod_idle h)
  have hperiod {p : Part} (h : s.part.endPeriod n i = p) : Answers (.periodBoundary n i) s fun q => q = p :=
    answers_of_act (f := (·.endPeriod n i)) rfl h
  refine ⟨fun w hw => ⟨fun h => hphase fun v hv => ?_, fun h => hboundary fun v hv => ?_, fun hi ht => ?_,
    fun hi ht => ⟨fun x hb hp => ?_, fun hb hp => ?_, fun b hm hb => ⟨fun hl => ?_, fun hl => ?_⟩⟩⟩,
    fun hw => ⟨hphase fun v hv => ?_, hboundary fun v hv => ?_⟩, fun b hb => ?_, fun hb => ?_⟩
  · cases hw.symm.trans hv; exact h
  · cases hw.symm.trans hv; exact h
  · exact hactive (Part.endActive_run hw hi ht)
  · exact hperiod (Part.endPeriod_reaches hw hi ht hb hp)
  · exact hperiod (Part.endPeriod_renews hw hi ht hb hp)
  · exact hperiod (Part.endPeriod_bursting hw hi ht hm hb hl)
  · refine answers_of_act (f := (·.endPeriod n i)) rfl ?_
    dsimp only
    rw [Part.endPeriod_lastPulse hw hi ht hm hb hl]
    exact Part.modStu_completes n _ .setPulse b.results s.part
  · cases hw.symm.trans hv
  · cases hw.symm.trans hv
  · exact answers_of_act (f := (·.stopBurst n i)) rfl (Part.stopBurst_running hb)
  · exact exec_eq_next (f := (·.stopBurst n i)) rfl (Part.stopBurst_idle hb)

end Sys2Proof.Machine
end

section
/-! SET_PULSE: the period, the width and the effective input that it forms. -/

namespace Sys2Proof.Machine

/-! ### SET_PULSE -/

/-- A target and a gain demand a period of 9 ticks or more, so the period is never held to the shortest one (R158,
R159). -/
theorem nine_le_formPeriod {target : W16} {gain : BitVec 24} (ht : target ≠ 0) (hg : gain ≠ 0) :
    9 ≤ formPeriod target.toNat gain.toNat := by
  have ht0 : 0 < target.toNat := by bv_omega
  have hg0 : 0 < gain.toNat := by bv_omega
  have hd : target.toNat * gain.toNat ≤ 65535 * 16777215 := Nat.mul_le_mul (by omega) (by omega)
  unfold formPeriod halfUp Config.tickMicrohertz
  rw [Nat.le_div_iff_mul_le (Nat.mul_pos ht0 hg0)]
  omega

/-- A period of 2 ticks or more is held to the longest one alone (R159). -/
theorem clampPeriod_eq {p : Nat} (h : 2 ≤ p) : clampPeriod p = (min p 16777216, decide (16777216 < p), false) := by
  unfold clampPeriod Config.maxPeriod Config.minPeriod
  by_cases hp : 16777216 < p
  · simp [hp, Nat.le_of_lt hp]
  · simp [hp, Nat.not_lt.2 h, Nat.not_lt.1 hp]

/-- The effective input of a period, in the low half of w12 (R160). -/
theorem place_effectiveInput (period gain : Nat) : place (effectiveInput period gain) 0 =
    wordOf (min ((10000000000000 + period * gain / 2) / (period * gain)) 65535) := by
  have hle : min ((10000000000000 + period * gain / 2) / (period * gain)) 65535 ≤ 65535 := Nat.min_le_right ..
  unfold place effectiveInput wordOf halfUp Config.tickMicrohertz
  generalize min ((10000000000000 + period * gain / 2) / (period * gain)) 65535 = e at hle ⊢
  apply BitVec.eq_of_toNat_eq
  simp only [BitVec.shiftLeft_zero, BitVec.toNat_setWidth, BitVec.toNat_ofNat]
  omega

/-- The width of a NARROW setting, held to 1 and to the period less 1, with its mark (R78). -/
theorem clampWidth_eq (period w : Nat) :
    let held := if w = 0 then 1 else min w (period - 1)
    clampWidth period w = (held, decide (held ≠ w)) := by
  unfold clampWidth clampTo
  dsimp only
  by_cases h0 : w = 0
  · simp [h0]
  · rw [if_neg (by omega), if_neg h0]
    split
    · next hw => rw [Nat.min_eq_right (by omega), decide_eq_true (by omega)]
    · next hw => rw [Nat.min_eq_left (by omega), decide_eq_false (by omega)]

/-- An N of 0 stands for 65,536 pulses (R77). -/
theorem burstCount_eq (n : W16) : burstCount n = if n.toNat = 0 then 65536 else n.toNat := by
  by_cases h : n = 0
  · simp [burstCount, h]
  · have hn : n.toNat ≠ 0 := fun e => h (BitVec.eq_of_toNat_eq e)
    simp only [burstCount, if_neg h, if_neg hn]

/-- A setting accepted is on the wire at once on an OFF channel, and pending on a running one (R76). -/
theorem Channel.accept_eq (x : PulseSetting) (e : W16) (t : Nat) (c : Channel) : c.accept x e t =
    { c with
      setting := x, settingE := e, e := e, pending := if c.wire.isNone then none else some x
      restHigh := if c.wire.isNone then x.activeLow else c.restHigh
      wire := if c.wire.isNone then some (x.begin t) else c.wire } := by
  unfold Channel.accept
  cases c.wire <;> simp [Channel.reach]

theorem indexBelow_eq_some {k w : Nat} {x : BitVec w} {i : Fin k} (h : x.toNat = i.val) : indexBelow k x = some i := by
  simp [indexBelow, h]

/-- The clamped period of a SET_PULSE with its marks (R158, R159). -/
def Step.pulsePeriod (st : Step) : Nat × Bool × Bool :=
  clampPeriod (formPeriod (field (st.w 3) 0 16 : W16).toNat (field (st.w 4) 0 24 : BitVec 24).toNat)

/-- The clamped width of a SET_PULSE with its mark (R78). -/
def Step.pulseWidth (st : Step) : Nat × Bool := clampWidth st.pulsePeriod.1 (field (st.w 6) 0 24 : BitVec 24).toNat

/-- The effective input of a SET_PULSE (R160). -/
def Step.pulseInput (st : Step) : W16 := effectiveInput st.pulsePeriod.1 (field (st.w 4) 0 24 : BitVec 24).toNat

/-- The setting that a SET_PULSE of a mode forms (R77 to R79; log entry 16). -/
def Step.pulseSetting (mode : PulseMode) (st : Step) : PulseSetting where
  mode := mode
  activeLow := bitAt (st.w 2) 16
  target := field (st.w 3) 0 16
  gain := field (st.w 4) 0 24
  period := st.pulsePeriod.1
  width := if mode = .narrow then st.pulseWidth.1 else 0
  count := if mode = .count then burstCount (field (st.w 5) 0 16) else 0

/-- The result words of a SET_PULSE of a mode: its period, and its effective input with the marks (R78). -/
def Step.pulseResults (mode : PulseMode) (st : Step) : Results where
  w11 := wordOf st.pulsePeriod.1
  w12 := place st.pulseInput 0 ||| flag st.pulsePeriod.2.1 16 ||| flag st.pulsePeriod.2.2 17 |||
    flag (decide (mode = .narrow) && st.pulseWidth.2) 18
  w13 := 0
  w14 := 0
  w15 := 0

/-- The burst that a SET_PULSE of mode COUNT begins (R79). -/
def Step.pulseBurst (st : Step) : Burst :=
  ⟨st.sequence, 0, burstCount (field (st.w 5) 0 16), (st.pulseResults .count).w11, (st.pulseResults .count).w12⟩

namespace Part

variable {n : NestId} {i : Fin 4} {s : Part} {st : Step} {mode : PulseMode}

/-- A SET_PULSE of mode OFF, or with a target of 0 (R76, R78). -/
theorem handSetPulse_off (hp : s.powered n = true) (hi : (field (st.w 2) 0 8 : BitVec 8).toNat = i.val)
    (hm : pulseModeOf (field (st.w 2) 8 8) = some mode) (hg : mode ≠ .off → (field (st.w 4) 0 24 : BitVec 24) ≠ 0)
    (h : mode = .off ∨ (field (st.w 3) 0 16 : W16) = 0) :
    s.handSetPulse n st = (s.modChannel n i (·.setOff (bitAt (st.w 2) 16)), .pass .zero) := by
  have hgain : ¬ (mode ≠ .off ∧ (field (st.w 4) 0 24 : BitVec 24) = 0) := fun h => hg h.1 h.2
  simp only [handSetPulse, indexBelow_eq_some hi, hm, if_neg hgain, hp, Bool.not_true, Bool.false_eq_true, if_false, if_pos h]

theorem modChannel_modChannel (f g : Channel → Channel) :
    (s.modChannel n i f).modChannel n i g = s.modChannel n i fun c => g (f c) := by
  simp only [modChannel, modStu, Bank.modify_modify]

/-- A SET_PULSE of another mode with a target: its setting is accepted, and in COUNT its burst begins (R76 to R79). -/
theorem handSetPulse_forms (hp : s.powered n = true) (hi : (field (st.w 2) 0 8 : BitVec 8).toNat = i.val)
    (hm : pulseModeOf (field (st.w 2) 8 8) = some mode) (hoff : mode ≠ .off) (ht : (field (st.w 3) 0 16 : W16) ≠ 0)
    (hg : (field (st.w 4) 0 24 : BitVec 24) ≠ 0) :
    let c := (s.channel n i).accept (st.pulseSetting mode) st.pulseInput s.ticks
    s.handSetPulse n st =
      (s.withChannel n i { c with burst := if mode = .count then some st.pulseBurst else c.burst },
        if mode = .count then .started else .pass (st.pulseResults mode)) := by
  have hgain : ¬ (mode ≠ .off ∧ (field (st.w 4) 0 24 : BitVec 24) = 0) := fun h => hg h.2
  have hset : ¬ (mode = .off ∨ (field (st.w 3) 0 16 : W16) = 0) := fun h => h.elim hoff ht
  simp only [handSetPulse, indexBelow_eq_some hi, hm]
  rw [if_neg hgain, if_neg (by simp [hp]), if_neg hset]
  cases mode with
  | off => exact absurd rfl hoff
  | continuous | narrow => rfl
  | count => rw [modChannel_modChannel]; rfl

end Part

/-- A mode's code (R77). -/
theorem pulseModeOf_eq {x : BitVec 8} {mode : PulseMode}
    (h : (mode = .continuous ∧ x.toNat = 1) ∨ (mode = .narrow ∧ x.toNat = 2) ∨ (mode = .count ∧ x.toNat = 3)) :
    pulseModeOf x = some mode ∧ mode ≠ .off := by
  rcases h with ⟨rfl, h⟩ | ⟨rfl, h⟩ | ⟨rfl, h⟩ <;> simp [pulseModeOf, h]

/-- Settles O31, by the hand-off of a SET_PULSE that turns its channel OFF and of one that forms a period. -/
theorem setPulseFormsThePeriod : Obligations.SetPulseFormsThePeriod := by
  intro n i mode st s target gain count width code low d formed p e w pulses setting w12 c becomes hp hi
  refine ⟨fun h => ?_, fun hm ht hg => ?_⟩
  · have hcode : ∃ mode, pulseModeOf (field (st.w 2) 8 8) = some mode ∧ (mode ≠ .off → gain ≠ 0) ∧
        (mode = .off ∨ target = 0) := by
      rcases h with h | ⟨h, ht, hg⟩
      · exact ⟨.off, by simp [pulseModeOf, show (field (st.w 2) 8 8 : BitVec 8).toNat = 0 from h], by simp, .inl rfl⟩
      · obtain ⟨mode, hmode⟩ : ∃ mode, pulseModeOf (field (st.w 2) 8 8) = some mode := by
          have : code = 0 ∨ code = 1 ∨ code = 2 ∨ code = 3 := by omega
          simp only [code] at this
          rcases this with h | h | h | h <;> simp [pulseModeOf, h]
        exact ⟨mode, hmode, fun _ => hg, .inr ht⟩
    obtain ⟨mode, hm, hg, hoff⟩ := hcode
    exact Part.handSetPulse_off hp hi hm hg hoff
  · obtain ⟨hmode, hoff⟩ := pulseModeOf_eq hm
    have hnine : 9 ≤ formed := nine_le_formPeriod ht hg
    have hperiod : st.pulsePeriod = (p, decide (16777216 < formed), false) :=
      clampPeriod_eq (by change 2 ≤ formed; omega)
    have hset : st.pulseSetting mode = setting := by
      simp only [Step.pulseSetting, Step.pulseWidth, hperiod, clampWidth_eq, burstCount_eq]
      rfl
    have hinput : st.pulseInput = BitVec.ofNat 16 e := by
      rw [Step.pulseInput, hperiod]
      rfl
    have hresults : st.pulseResults mode = ⟨wordOf p, w12, 0, 0, 0⟩ := by
      simp only [Step.pulseResults, Step.pulseWidth, Step.pulseInput, hperiod, place_effectiveInput, clampWidth_eq]
      simp [flag, w12, e, w, width, gain]
    refine ⟨by simp only [p]; omega, ?_⟩
    rw [show s.handOff n .setPulse st = s.handSetPulse n st from rfl, Part.handSetPulse_forms hp hi hmode hoff ht hg,
      hset, hinput, hresults, Channel.accept_eq]
    have hburst : (if mode = .count then some st.pulseBurst else c.burst) =
        if mode = .count then some ⟨st.sequence, 0, pulses, wordOf p, w12⟩ else c.burst := by
      split
      · next hc =>
        subst hc
        rw [Step.pulseBurst, hresults, burstCount_eq]
      · rfl
    have hwire : setting.begin s.ticks = ⟨mode, low, p, if mode = .narrow then w else p / 2, s.ticks, false⟩ := by
      simp only [PulseSetting.begin, PulseSetting.active, setting]
      split <;> rfl
    refine ⟨rfl, ?_⟩
    dsimp only
    rw [hburst, hwire]
    rfl

end Sys2Proof.Machine
end

section
/-! SET_SENDER and its settle, and the end of a replay. -/

namespace Sys2Proof.Machine

/-! ### Senders -/

/-- An applied code with its clamp mark (R81). -/
theorem clampCode_eq (code : W16) :
    let applied : W16 := if code = 0 then 0 else if code < 200 then 200 else if 60000 < code then 60000 else code
    clampCode code = (applied, decide (applied ≠ code)) := by
  by_cases h0 : code = 0
  · simp [clampCode, h0]
  rw [clampCode, if_neg h0, if_neg h0, clampTo]
  by_cases hlow : code < 200
  · have hnat : code.toNat < 200 := hlow
    have hmark : (200 : W16) ≠ code := by bv_omega
    rw [if_pos hlow, if_pos hnat]
    exact congrArg (Prod.mk 200) (decide_eq_true hmark).symm
  · have hnat : ¬ code.toNat < 200 := hlow
    rw [if_neg hlow, if_neg hnat]
    by_cases hhigh : 60000 < code
    · have hnat : 60000 < code.toNat := hhigh
      have hmark : (60000 : W16) ≠ code := by bv_omega
      rw [if_pos hhigh, if_pos hnat]
      exact congrArg (Prod.mk 60000) (decide_eq_true hmark).symm
    · have hnat : ¬ 60000 < code.toNat := hhigh
      rw [if_neg hhigh, if_neg hnat]
      simp

namespace Part

variable {n : NestId} {e : Fin 2} {s : Part} {st : Step} {t : SenderSettle}

/-- A SET_SENDER applies its code at its hand-off and settles (R81). -/
theorem handSetSender_settles (hp : s.powered n = true) (he : (field (st.w 2) 0 8 : BitVec 8).toNat = e.val) :
    let code := clampCode (field (st.w 3) 0 16)
    s.handSetSender n st =
      (s.modSender n e fun _ => ⟨code.1, code.1, some ⟨s.now + 5000, place code.1 0 ||| flag code.2 16⟩⟩, .started) := by
  simp only [handSetSender, indexBelow_eq_some he, hp, Bool.not_true, Bool.false_eq_true, if_false]
  rfl

/-- The settle timer's expiry completes the SET_SENDER (R82). -/
theorem senderSettles_due (ht : (s.sender n e).settle = some t) (hd : t.due ≤ s.now) : s.senderSettles n e =
    (s.modSender n e fun x => { x with settle := none }).completeStep n .setSender .pass .none ⟨t.w11, 0, 0, 0, 0⟩ := by
  simp only [senderSettles, ht, (s.reached_iff t.due).2 hd]
  rfl

/-- The expiry of a settle timer that does not run or is not due is discarded (log entry 10). -/
theorem senderSettles_early (h : ∀ t, (s.sender n e).settle = some t → s.now < t.due) : s.senderSettles n e = s := by
  unfold senderSettles
  split
  · rfl
  · next t ht => simp [reached, Nat.not_le.2 (h t ht)]

/-- A stop request ends the settle and keeps its results (R82). -/
theorem stopSenderSettle_running (ht : (s.sender n e).settle = some t) : s.stopSenderSettle n e =
    (s.modSender n e fun x => { x with settle := none }).keepReport n ⟨t.w11, 0, 0, 0, 0⟩ := by
  simp only [stopSenderSettle, ht]
  rfl

/-- A stop request finds no settle (log entry 10). -/
theorem stopSenderSettle_idle (ht : (s.sender n e).settle = none) : s.stopSenderSettle n e = s := by
  simp [stopSenderSettle, ht]

end Part

/-- Settles O32, by the hand-off, and by the cases of the settle timer's expiry and of a stop request. -/
theorem senderSettles : Obligations.SenderSettles := by
  refine ⟨fun n e st s => ?_, fun n e s => ?_⟩
  · intro code applied w11 he hp
    rw [show s.handOff n .setSender st = s.handSetSender n st from rfl, Part.handSetSender_settles hp he, clampCode_eq]
    rfl
  intro u x stu
  refine ⟨fun t ht => ⟨fun hd => ?_, fun hd => ?_, ?_⟩, fun ht => ⟨?_, ?_⟩⟩
  · refine answers_of_act (f := (·.senderSettles n e)) rfl ?_
    dsimp only
    rw [Part.senderSettles_due ht hd]
    exact Part.modStu_completes n _ .setSender _ s.part
  · refine exec_eq_next (f := (·.senderSettles n e)) rfl (Part.senderSettles_early fun v hv => ?_)
    cases ht.symm.trans hv
    exact hd
  · exact answers_of_act (f := (·.stopSenderSettle n e)) rfl (Part.stopSenderSettle_running ht)
  · refine exec_eq_next (f := (·.senderSettles n e)) rfl (Part.senderSettles_early fun v hv => ?_)
    cases ht.symm.trans hv
  · exact exec_eq_next (f := (·.stopSenderSettle n e)) rfl (Part.stopSenderSettle_idle ht)

/-! ### The end of a replay -/

/-- A channel after a restore: a named one with a setting begins a fresh period (R89). -/
theorem Stimulus.restore_channel (mask : BitVec 6) (t : Nat) (u : Stimulus) (i : Fin 4) :
    (u.restore mask t).channels.get i =
      if mask.getLsbD i.val = true ∧ (u.channels.get i).setting.mode ≠ .off then
        { u.channels.get i with
          wire := some ((u.channels.get i).setting.begin t), e := (u.channels.get i).settingE }
      else u.channels.get i := Bank.get_build _ i

/-- A sender after a restore: a named one returns to its code (R89). -/
theorem Stimulus.restore_sender (mask : BitVec 6) (t : Nat) (u : Stimulus) (e : Fin 2) :
    (u.restore mask t).senders.get e =
      if mask.getLsbD (4 + e.val) = true then { u.senders.get e with e := (u.senders.get e).code }
      else u.senders.get e := Bank.get_build _ e

namespace Part

variable {n : NestId} {s : Part} {mask : BitVec 6} {due : Nat}

/-- The gap timer's expiry restores what the mask names; a named sender then settles, and with none named the replay is
reported ended (R89). -/
theorem gapExpires_due (hr : (s.stu.get n).replay = .gap mask due) (hd : due ≤ s.now) : s.gapExpires n =
    if namesSender mask then
      s.modStu n fun u => { u.restore mask s.ticks with replay := .restore mask (s.now + 5000) }
    else (s.modStu n fun u => { u.restore mask s.ticks with replay := .none }).send (.replayEnded n) := by
  simp only [gapExpires, hr, (s.reached_iff due).2 hd, Bool.not_true, Bool.false_eq_true, if_false, modStu,
    Bank.modify_modify]
  rfl

/-- The gap timer's expiry is discarded outside GAP and before it is due (log entry 10). -/
theorem gapExpires_early (h : ∀ mask due, (s.stu.get n).replay = .gap mask due → s.now < due) : s.gapExpires n = s := by
  unfold gapExpires
  split
  · next mask due hr => simp [reached, Nat.not_le.2 (h mask due hr)]
  · rfl

/-- The restore settle timer's expiry ends the replay, which is reported (R89). -/
theorem restoreSettles_due (hr : (s.stu.get n).replay = .restore mask due) (hd : due ≤ s.now) : s.restoreSettles n =
    (s.modStu n fun u => { u with replay := .none }).send (.replayEnded n) := by
  simp [restoreSettles, hr, (s.reached_iff due).2 hd]

/-- The restore settle timer's expiry is discarded outside RESTORE and before it is due (log entry 10). -/
theorem restoreSettles_early (h : ∀ mask due, (s.stu.get n).replay = .restore mask due → s.now < due) :
    s.restoreSettles n = s := by
  unfold restoreSettles
  split
  · next mask due hr => simp [reached, Nat.not_le.2 (h mask due hr)]
  · rfl

/-- An end-replay request in GAP restores what the mask names (R91). -/
theorem endReplay_gap (hp : s.powered n = true) (hr : (s.stu.get n).replay = .gap mask due) : s.endReplay n =
    s.modStu n fun u => { u.restore mask s.ticks with replay := .none } := by
  simp [endReplay, hp, hr]

/-- An end-replay request in RESTORE, whose values stand already (R91). -/
theorem endReplay_restore (hp : s.powered n = true) (hr : (s.stu.get n).replay = .restore mask due) :
    s.endReplay n = s.modStu n fun u => { u with replay := .none } := by
  simp [endReplay, hp, hr]

/-- An end-replay request finds no replay, or a nest that is not POWERED (R91; log entry 10). -/
theorem endReplay_idle (h : (s.stu.get n).replay = .none ∨ s.powered n = false) : s.endReplay n = s := by
  unfold endReplay
  rcases h with h | h
  · rw [h]; split <;> rfl
  · simp [h]

end Part

theorem namesSender_iff (mask : BitVec 6) :
    namesSender mask = true ↔ mask.getLsbD 4 = true ∨ mask.getLsbD 5 = true := by
  simp [namesSender]

/-- Settles O33, by the cases of the gap timer's expiry, of the restore settle timer's, and of an end-replay request. -/
theorem replayRestores : Obligations.ReplayRestores := by
  intro n s u restored
  have hrestored (mask : BitVec 6) (r : Replay) {p : Part} (h : p =
      { s.part with
        stu := s.part.stu.modify n fun u => { u.restore mask s.part.ticks with replay := r }, sent := p.sent }) :
      restored mask p ∧ (p.stu.get n).replay = r := by
    have hstu : p.stu.get n = { u.restore mask s.part.ticks with replay := r } := by rw [h, Bank.get_modify_same]
    refine ⟨⟨fun i => ?_, fun e => ?_, ?_, ?_, ?_⟩, ?_⟩
    · exact (congrArg (·.channels.get i) hstu).trans (u.restore_channel mask s.part.ticks i)
    · exact (congrArg (·.senders.get e) hstu).trans (u.restore_sender mask s.part.ticks e)
    · rw [hstu]; rfl
    · rw [h]; exact ⟨.refl n _, .refl n _, .modify n _ _, .refl n _, .refl n _, .refl n _⟩
    · rw [h]
    · rw [hstu]
  refine ⟨fun mask due hr => ⟨fun hd => ?_, fun hd => ?_, fun hp => ?_⟩, fun mask due hr => ⟨fun hd => ?_, fun hd => ?_,
    fun hp => ?_⟩, fun hr => ⟨?_, ?_, ?_⟩, fun hp => ?_⟩
  · refine exec_eq_next (f := (·.gapExpires n)) rfl (Part.gapExpires_early fun m d h => ?_)
    cases hr.symm.trans h
    exact hd
  · refine answers_of_act (f := (·.gapExpires n)) rfl ?_
    rw [Part.gapExpires_due hr hd]
    split
    · next hs =>
      rw [namesSender_iff] at hs
      obtain ⟨hres, hreplay⟩ := hrestored mask _ (p := s.part.modStu n fun u =>
        { u.restore mask s.part.ticks with replay := .restore mask (s.part.now + 5000) }) rfl
      exact ⟨hres, fun h4 h5 => by rw [h4, h5] at hs; simp at hs, fun _ => ⟨hreplay, rfl⟩⟩
    · next hs =>
      rw [namesSender_iff] at hs
      obtain ⟨hres, hreplay⟩ := hrestored mask _ (p := (s.part.modStu n fun u =>
        { u.restore mask s.part.ticks with replay := .none }).send (.replayEnded n)) rfl
      exact ⟨hres, fun _ _ => ⟨hreplay, rfl⟩, fun h => absurd h hs⟩
  · refine answers_of_act (f := (·.endReplay n)) rfl ?_
    rw [Part.endReplay_gap hp hr]
    obtain ⟨hres, hreplay⟩ := hrestored mask _ (p := s.part.modStu n fun u =>
      { u.restore mask s.part.ticks with replay := .none }) rfl
    exact ⟨hres, hreplay, rfl⟩
  · refine exec_eq_next (f := (·.restoreSettles n)) rfl (Part.restoreSettles_early fun m d h => ?_)
    cases hr.symm.trans h
    exact hd
  · exact answers_of_act (f := (·.restoreSettles n)) rfl (Part.restoreSettles_due hr hd)
  · exact answers_of_act (f := (·.endReplay n)) rfl (Part.endReplay_restore hp hr)
  · exact exec_eq_next (f := (·.gapExpires n)) rfl (Part.gapExpires_early fun m d h => by cases hr.symm.trans h)
  · exact exec_eq_next (f := (·.restoreSettles n)) rfl (Part.restoreSettles_early fun m d h => by cases hr.symm.trans h)
  · exact exec_eq_next (f := (·.endReplay n)) rfl (Part.endReplay_idle (.inl hr))
  · exact exec_eq_next (f := (·.endReplay n)) rfl (Part.endReplay_idle (.inr hp))

end Sys2Proof.Machine
end

section
/-! FRAME_LOAD and SET_LINES, and the bus steps that the NSQ ends early. -/

namespace Sys2Proof.Machine

/-! ### Discrete lines -/

theorem lineBit_getLsbD : ∀ i j : Fin 8, (1#8 <<< i.val).getLsbD j.val = decide (i = j) := by decide

/-- The lines that have been driven are as their value says, the others as they were (R83). -/
theorem driveLines_get (mask value : Byte) (l : Bank 8 Line) (i : Fin 8) : (driveLines mask value l).get i =
    if mask.getLsbD i.val then (if value.getLsbD i.val then .high else .low) else l.get i := Bank.get_build _ i

/-- A line's level is 1 for HIGH alone (R83). -/
theorem lineLevels_getLsbD (l : Bank 8 Line) (i : Fin 8) :
    (lineLevels l).getLsbD i.val = decide (l.get i = .high) := by
  have hfold (js : List (Fin 8)) (b : Byte) :
      (js.foldl (fun b j => if l.get j = .high then b ||| 1#8 <<< j.val else b) b).getLsbD i.val =
        (b.getLsbD i.val || (decide (i ∈ js) && decide (l.get i = .high))) := by
    induction js generalizing b with
    | nil => simp
    | cons j js ih =>
      rw [List.foldl_cons, ih]
      by_cases hj : j = i
      · subst hj
        split
        · next h => rw [BitVec.getLsbD_or, lineBit_getLsbD]; simp [h]
        · next h => simp [h]
      · have hji : i ≠ j := Ne.symm hj
        split
        · rw [BitVec.getLsbD_or, lineBit_getLsbD]; simp [hj, hji]
        · simp [hji]
  exact (hfold (List.finRange 8) 0).trans (by simp [List.mem_finRange])

namespace Part

variable {n : NestId} {k : Fin 16} {s t : Part} {st : Step}

/-- The rest of a nest whose lines of a mask are driven (R83). -/
def withLines (n : NestId) (mask value : Byte) (s : Part) : Part :=
  { s with stu := s.stu.put n { s.stu.get n with lines := driveLines mask value (s.stu.get n).lines } }

/-- A line change on a POWERED nest is applied (R83). -/
theorem applyLines_powered (hp : s.powered n = true) (mask value : Byte) :
    s.applyLines n mask value = s.withLines n mask value := by
  rw [applyLines, if_pos hp]
  rfl

/-! ### FRAME_LOAD and SET_LINES -/

/-- The rest of a nest whose frame slot `k` has become `g`. -/
def withSlot (n : NestId) (k : Fin 16) (g : FrameSlot) (s : Part) : Part :=
  { s with buc := s.buc.put n { s.buc.get n with slots := (s.buc.get n).slots.put k g } }

theorem modSlot_eq (n : NestId) (k : Fin 16) (f : FrameSlot → FrameSlot) (s : Part) :
    s.modSlot n k f = s.withSlot n k (f (s.slot n k)) := rfl

theorem withSlot_slot (n : NestId) (k : Fin 16) (g : FrameSlot) (s : Part) : (s.withSlot n k g).slot n k = g := by
  simp [withSlot, slot]

/-- A RUNNING slot with a staged change is shown so (R104). -/
theorem writeSlotStatus_staged {g : FrameSlot} (hg : t.slot n k = g) (hr : g.state = .running)
    (hs : g.stagedPayload.isSome = true ∨ g.stagedLines.isSome = true) :
    t.writeSlotStatus n k = t.put (frameAt n k 6) (1#32 ||| 0x100 ||| place g.sent 16) := by
  have hor : (g.stagedPayload.isSome || g.stagedLines.isSome) = true := by simpa using hs
  rw [writeSlotStatus, hg, FrameSlot.statusWord, hr, hor]
  rfl

/-- A FRAME_LOAD on a slot that is not RUNNING is applied at once (R106). -/
theorem preloadSlot_eq (hp : s.powered n = true) (payload : BitVec 64) (mask value : Byte) :
    s.preloadSlot n k payload mask value =
      { s.withSlot n k { s.slot n k with payload := payload, preload := true } with
        stu := if mask = 0 then s.stu else (s.withLines n mask value).stu } := by
  unfold preloadSlot
  dsimp only
  rw [modSlot_eq, applyLines_powered (by exact hp)]
  split <;> rfl

/-- A FRAME_LOAD on a RUNNING slot stages its payload, and with sync its lines; without sync they are applied at once
(R107). -/
theorem stageLoad_eq (hp : s.powered n = true) (hr : (s.slot n k).state = .running) (payload : BitVec 64)
    (mask value : Byte) (sync : Bool) :
    let f := s.slot n k
    let stages := decide (mask ≠ 0) && sync
    let g := { f with stagedPayload := some payload
                      stagedLines := if stages then some (mask, value) else f.stagedLines }
    s.stageLoad n k payload mask value sync =
      ({ s.withSlot n k g with
          mem := s.mem.setWord (frameAt n k 6) (1#32 ||| 0x100 ||| place f.sent 16)
          stu := if decide (mask ≠ 0) && !sync then (s.withLines n mask value).stu else s.stu },
        f.stagedPayload.isSome || (stages && f.stagedLines.isSome)) := by
  intro f stages g
  have hshown {t : Part} (ht : t.slot n k = g) := writeSlotStatus_staged ht hr (.inl rfl)
  have hslot : (s.withSlot n k g).slot n k = g := withSlot_slot n k g s
  unfold stageLoad
  dsimp only
  rw [modSlot_eq, applyLines_powered (by exact hp)]
  split
  · exact congrArg (·, _) (hshown (t := (s.withSlot n k g).withLines n mask value) hslot)
  · exact congrArg (·, _) (hshown hslot)

/-- A FRAME_LOAD on a slot that is not RUNNING (R106). -/
theorem handFrameLoad_preloads (hp : s.powered n = true) (hk : (field (st.w 2) 0 8 : Byte).toNat = k.val)
    (hr : (s.slot n k).state ≠ .running) : s.handFrameLoad n st =
      (s.preloadSlot n k (st.w 4 ++ st.w 3) (field (st.w 2) 8 8) (field (st.w 2) 16 8), .pass ⟨1, 0, 0, 0, 0⟩) := by
  simp only [handFrameLoad, indexBelow_eq_some hk, hp, Bool.not_true, Bool.false_eq_true, if_false, if_neg hr]
  rfl

/-- A FRAME_LOAD on a RUNNING slot stages, and with WAIT waits for the slot's start (R107). -/
theorem handFrameLoad_stages (hp : s.powered n = true) (hk : (field (st.w 2) 0 8 : Byte).toNat = k.val)
    (hr : (s.slot n k).state = .running) :
    let r := s.stageLoad n k (st.w 4 ++ st.w 3) (field (st.w 2) 8 8) (field (st.w 2) 16 8) (bitAt (st.w 2) 24)
    let w11 : W32 := 2 ||| flag r.2 2
    s.handFrameLoad n st =
      if bitAt (st.w 2) 25 then (r.1.modBuc n fun b => { b with loadWait := some ⟨k, w11⟩ }, .started)
      else (r.1, .pass ⟨w11, 0, 0, 0, 0⟩) := by
  simp only [handFrameLoad, indexBelow_eq_some hk, hp, Bool.not_true, Bool.false_eq_true, if_false, if_pos hr]
  rfl

/-- A line request is staged on a RUNNING slot (R105). -/
theorem stageLines_running (hr : (s.slot n k).state = .running) (mask value : Byte) :
    let f := s.slot n k
    s.stageLines n k mask value =
      ({ s.withSlot n k { f with stagedLines := some (mask, value) } with
          mem := s.mem.setWord (frameAt n k 6) (1#32 ||| 0x100 ||| place f.sent 16) }, some f.stagedLines.isSome) := by
  intro f
  have hshown := writeSlotStatus_staged (withSlot_slot n k { f with stagedLines := some (mask, value) } s) hr (.inr rfl)
  unfold stageLines
  dsimp only
  rw [if_pos hr]
  exact congrArg (·, _) hshown

section

variable (hp : s.powered n = true) (hk : (field (st.w 2) 24 4 : BitVec 4).toNat = k.val)
include hp hk

/-- A SET_LINES with sync and a mask on a RUNNING slot stages its lines (R84). -/
theorem handSetLines_stages (hs : bitAt (st.w 2) 16 = true ∧ (field (st.w 2) 0 8 : Byte) ≠ 0)
    (hr : (s.slot n k).state = .running) : s.handSetLines n st =
      ((s.stageLines n k (field (st.w 2) 0 8) (field (st.w 2) 8 8)).1,
        .pass ⟨place (lineLevels (s.stu.get n).lines) 0 ||| 0x10000 ||| flag (s.slot n k).stagedLines.isSome 17,
          0, 0, 0, 0⟩) := by
  have hslot : (field (st.w 2) 24 4 : BitVec 4).toFin = k := Fin.ext hk
  unfold handSetLines
  dsimp only
  rw [if_neg (by simp [hp]), if_pos hs, hslot, stageLines_running hr]
  rfl

/-- Any other SET_LINES is applied at once (R83, R84). -/
theorem handSetLines_applies
    (h : ¬ (bitAt (st.w 2) 16 = true ∧ (field (st.w 2) 0 8 : Byte) ≠ 0 ∧ (s.slot n k).state = .running)) :
    s.handSetLines n st =
      (s.withLines n (field (st.w 2) 0 8) (field (st.w 2) 8 8),
        .pass ⟨place (lineLevels (driveLines (field (st.w 2) 0 8) (field (st.w 2) 8 8) (s.stu.get n).lines)) 0,
          0, 0, 0, 0⟩) := by
  have hslot : (field (st.w 2) 24 4 : BitVec 4).toFin = k := Fin.ext hk
  have hlevels (mask value : Byte) :
      ((s.withLines n mask value).stu.get n).lines = driveLines mask value (s.stu.get n).lines := by simp [withLines]
  have happlied (mask value : Byte) : (s.applyLines n mask value,
      Answer.pass { Results.zero with w11 := place (lineLevels ((s.applyLines n mask value).stu.get n).lines) 0 }) =
        (s.withLines n mask value, .pass ⟨place (lineLevels (driveLines mask value (s.stu.get n).lines)) 0, 0, 0, 0, 0⟩) := by
    rw [applyLines_powered hp, hlevels]
    rfl
  unfold handSetLines
  dsimp only
  rw [if_neg (by simp [hp]), hslot]
  split
  · next hs =>
    have hr : (s.slot n k).state ≠ .running := fun hr => h ⟨hs.1, hs.2, hr⟩
    rw [stageLines, if_neg hr]
    exact happlied _ _
  · exact happlied _ _

end

/-! ### Bus steps ended early -/

/-- A frame slot changed with its nack count kept: w6 is written where it shows the change (R104). -/
theorem changeSlot_eq {f : FrameSlot → FrameSlot} (h : (f (s.slot n k)).nack = (s.slot n k).nack) :
    s.changeSlot n k f =
      { s.withSlot n k (f (s.slot n k)) with
        mem := if (f (s.slot n k)).statusWord = (s.slot n k).statusWord then s.mem
          else s.mem.setWord (frameAt n k 6) (f (s.slot n k)).statusWord } := by
  unfold changeSlot
  dsimp only
  rw [if_pos h]
  split
  · rfl
  · rw [writeSlotStatus, modSlot_eq, withSlot_slot]
    rfl

end Part

/-- The status word of a slot with nothing staged (R104). -/
theorem FrameSlot.dropStaged_statusWord (f : FrameSlot) :
    f.dropStaged.statusWord = (slotStateCode f.state ||| place f.sent 16) := by
  simp [FrameSlot.dropStaged, FrameSlot.statusWord, flag]

/-- A staged change that is dropped shows in the status word (R104). -/
theorem FrameSlot.dropStaged_shows {f : FrameSlot}
    (h : f.stagedPayload.isSome = true ∨ f.stagedLines.isSome = true) : f.dropStaged.statusWord ≠ f.statusWord := by
  have hor : (f.stagedPayload.isSome || f.stagedLines.isSome) = true := by simpa using h
  intro e
  rw [f.dropStaged_statusWord, FrameSlot.statusWord, hor] at e
  have hbit := congrArg (·.getLsbD 8) e
  have hcode : (slotStateCode f.state).getLsbD 8 = false := by cases f.state <;> rfl
  simp only [BitVec.getLsbD_or, hcode] at hbit
  simp [flag, place] at hbit

namespace Part

variable {n : NestId} {s : Part} {w : LoadWait} {c : CheckFrame}

/-- A waiting FRAME_LOAD no longer waits, and its marks are kept for the NSQ (R108). -/
def loadEnded (n : NestId) (w : LoadWait) (s : Part) : Part :=
  (s.modBuc n fun b => { b with loadWait := none }).keepReport n ⟨w.w11, 0, 0, 0, 0⟩

/-- At a deadline the staging of a waiting FRAME_LOAD is kept (R108). -/
theorem endFrameLoad_deadline (hw : (s.buc.get n).loadWait = some w) :
    s.endFrameLoad n .deadline = s.loadEnded n w := by
  simp only [endFrameLoad, hw]
  rfl

/-- The whole staged change of the slot dropped besides (R108). -/
theorem loadEnded_dropped (n : NestId) (w : LoadWait) (s : Part) :
    let b := s.buc.get n
    let f := s.slot n w.slot
    (s.loadEnded n w).changeSlot n w.slot FrameSlot.dropStaged =
      { s with
        buc := s.buc.put n { b with loadWait := none, slots := b.slots.put w.slot f.dropStaged }
        nsq := s.nsq.put n { s.nsq.get n with report := some ⟨w.w11, 0, 0, 0, 0⟩ }
        mem := if f.dropStaged.statusWord = f.statusWord then s.mem
          else s.mem.setWord (frameAt n w.slot 6) f.dropStaged.statusWord } := by
  have hslot : (s.loadEnded n w).slot n w.slot = s.slot n w.slot := by simp [loadEnded, slot]
  rw [changeSlot_eq rfl, hslot]
  simp [withSlot, loadEnded, keepReport, modNsq, modBuc, Bank.modify]

/-- At a stop request the whole staged change of its slot is dropped (R108). -/
theorem endFrameLoad_stop (hw : (s.buc.get n).loadWait = some w) :
    s.endFrameLoad n .stop = (s.loadEnded n w).changeSlot n w.slot FrameSlot.dropStaged := by
  simp only [endFrameLoad, hw]
  rfl

/-- The NSQ finds no waiting FRAME_LOAD (log entry 10). -/
theorem endFrameLoad_idle (hw : (s.buc.get n).loadWait = none) (cause : EndCause) : s.endFrameLoad n cause = s := by
  simp [endFrameLoad, hw]

/-- A running CHECK_FRAME ends with its results kept (R114). -/
theorem endCheckFrame_running (hc : (s.buc.get n).check = some c) :
    s.endCheckFrame n = (s.modBuc n fun b => { b with check := none }).keepReport n c.results := by
  simp [endCheckFrame, hc]

/-- The NSQ finds no running CHECK_FRAME (log entry 10). -/
theorem endCheckFrame_idle (hc : (s.buc.get n).check = none) : s.endCheckFrame n = s := by simp [endCheckFrame, hc]

end Part

/-- Settles O36, by the hand-offs on a RUNNING slot and on any other, and by the ends of a waiting FRAME_LOAD and of a running
CHECK_FRAME. -/
theorem busStepsEndEarly : Obligations.BusStepsEndEarly := by
  refine ⟨fun mask value l i => ⟨driveLines_get mask value l i, lineLevels_getLsbD l i⟩, fun n k st s hp => ?_,
    fun n s => ?_⟩
  · intro b f lines driven slotted
    refine ⟨fun hk => ?_, fun hk => ?_⟩
    · intro mask value sync payload
      refine ⟨fun hr => ?_, fun hr => ?_⟩
      · exact (Part.handFrameLoad_preloads hp hk hr).trans (by rw [Part.preloadSlot_eq hp]; rfl)
      · exact (Part.handFrameLoad_stages hp hk hr).trans (by rw [Part.stageLoad_eq hp hr]; rfl)
    · intro mask value stages
      refine ⟨fun ⟨hsync, hmask, hr⟩ => ?_, fun h => Part.handSetLines_applies hp hk h⟩
      exact (Part.handSetLines_stages hp hk ⟨hsync, hmask⟩ hr).trans (by rw [Part.stageLines_running hr]; rfl)
  · intro b kept
    refine ⟨fun w hw => ?_, fun c hc => ?_, fun hw cause => ?_, fun hc => ?_⟩
    · intro f
      refine ⟨answers_of_act (f := (·.endFrameLoad n .deadline)) rfl (Part.endFrameLoad_deadline hw), ?_⟩
      refine answers_of_act (f := (·.endFrameLoad n .stop)) rfl ?_
      rw [Part.endFrameLoad_stop hw, Part.loadEnded_dropped]
      refine ⟨by simp [Part.slot, FrameSlot.dropStaged, f], fun k hk => by simp [Part.slot, Ne.symm hk], by simp [b],
        fun h => ?_, fun hp hl => ?_, ?_, ⟨.put n _ _, .refl n _, .refl n _, .put n _ _, .refl n _, .refl n _⟩, rfl⟩
      · dsimp only [Part.word]
        rw [if_neg (FrameSlot.dropStaged_shows h), Memory.word_setWord_same, FrameSlot.dropStaged_statusWord]
      · have hsame : f.dropStaged = f := by rw [FrameSlot.dropStaged, ← hp, ← hl]
        exact if_pos (congrArg FrameSlot.statusWord hsame)
      · dsimp only
        split
        · exact .of_mem .refl rfl
        · exact .of_mem (Part.StoresOnly.refl.put (.head _)) rfl
    · intro w13
      refine answers_of_act (f := (·.endCheckFrame n)) rfl ?_
      rw [Part.endCheckFrame_running hc]
      refine ⟨fun r hr => ?_, fun hr => ?_, by simp [Part.SequencerKept], ?_, rfl⟩
      · simp [CheckFrame.results, hr, w13]
      · simp [CheckFrame.results, hr, w13, Results.zero]
      · exact ⟨.modify n _ _, .refl n _, .refl n _, .modify n _ _, .refl n _, .refl n _⟩
    · exact exec_eq_next (f := (·.endFrameLoad n cause)) rfl (Part.endFrameLoad_idle hw cause)
    · exact exec_eq_next (f := (·.endCheckFrame n)) rfl (Part.endCheckFrame_idle hc)

end Sys2Proof.Machine
end

section
/-! Prompts withdrawn for the NSQ and by the station STOP. -/

namespace Sys2Proof.Machine

/-! ### What the link's next transfer reaches -/

namespace Part

variable {n : NestId} {s t : Part} {e : PromptEntry} {q : List PromptEntry}

/-- The link's next transfer reaches the panel alone, or, where it is the text of a QUEUED head, the end of a hold
besides (R175). -/
theorem ServesLink.reaches (h : s.ServesLink t) : t = { s with opc := t.opc } ∨
    s.opc.prompts ≠ [] ∧ t = { s with opc := t.opc, nsq := t.nsq, mem := t.mem } := by
  obtain ⟨hbusy, hpoll, hidle⟩ := h
  by_cases hl : s.opc.link = .idle
  · cases hp : s.opc.pollPending with
    | true => exact .inl (by rw [hpoll hl hp])
    | false =>
      obtain ⟨htext, hrest⟩ := hidle hl hp
      by_cases hq : ∃ x, s.opc.prompts.head? = some x ∧ x.state = .queued
      · obtain ⟨x, hx, hstate⟩ := hq
        obtain ⟨q, hq⟩ := List.head?_eq_some_iff.1 hx
        obtain ⟨-, -, -, -, -, hsame⟩ := htext x q hq hstate
        exact .inr ⟨by simp [hq], hsame⟩
      · obtain ⟨hclear, hnone⟩ := hrest fun x hx hstate => hq ⟨x, hx, hstate⟩
        cases hc : s.opc.clearPending with
        | true => exact .inl (by rw [hclear hc])
        | false => exact .inl (by rw [hnone hc])
  · exact .inl (by rw [hbusy hl])

theorem linkStart_stu (s : Part) : s.linkStart.stu = s.stu := by
  rcases (linkStart_serves s).reaches with h | ⟨-, h⟩ <;> rw [h]

/-- With no prompt queued the link's next transfer ends no hold (R27, R175). -/
theorem linkStart_nsq (h : s.opc.prompts = []) : s.linkStart.nsq = s.nsq := by
  rcases (linkStart_serves s).reaches with hsame | ⟨hne, -⟩
  · rw [hsame]
  · exact absurd h hne

end Part

/-! ### The end of a REPLAYING entry -/

/-- The stimulus of a nest after an end-replay request, the nest POWERED or not (R91). -/
def Stimulus.replayEnded (powered : Bool) (t : Nat) (u : Stimulus) : Stimulus :=
  if powered then
    match u.replay with
    | .gap mask _ => { u.restore mask t with replay := .none }
    | .restore _ _ => { u with replay := .none }
    | .none => u
  else u

/-- The end-replay request in the terms of the nest's stimulus (R91). -/
theorem Part.endReplay_eq (n : NestId) (s : Part) :
    s.endReplay n = s.modStu n (Stimulus.replayEnded (s.powered n) s.ticks) := by
  have hself {f : Stimulus → Stimulus} (h : f (s.stu.get n) = s.stu.get n) : s.modStu n f = s := by
    rw [modStu, Bank.modify_self h]
  cases hp : s.powered n with
  | false => rw [endReplay_idle (.inr hp), hself rfl]
  | true =>
    cases hr : (s.stu.get n).replay with
    | none => rw [endReplay_idle (.inl hr), hself (by simp [Stimulus.replayEnded, hr])]
    | gap mask due => rw [endReplay_gap hp hr]; simp [modStu, Bank.modify, Stimulus.replayEnded, hr]
    | restore mask due => rw [endReplay_restore hp hr]; simp [modStu, Bank.modify, Stimulus.replayEnded, hr]

/-- The reports on one nest's replay made late (R187). -/
theorem replaysLate_single (n : NestId) (l : List Notice) :
    (l.map fun m => if m.isReplayReportOf n then .late m else m) = replaysLate [n] l := by
  refine List.map_congr_left fun m _ => ?_
  cases m <;> simp [Notice.isReplayReportOf]

/-- Reports made late for some nests, and then for others (R187). -/
theorem replaysLate_append (a b : List NestId) (l : List Notice) :
    replaysLate b (replaysLate a l) = replaysLate (a ++ b) l := by
  simp only [replaysLate, List.map_map]
  refine List.map_congr_left fun m _ => ?_
  cases m with
  | replayEnded n | replayCut n =>
    by_cases ha : n ∈ a <;> by_cases hb : n ∈ b <;> simp [ha, hb]
  | _ => rfl

theorem replaysLate_nil (l : List Notice) : replaysLate [] l = l := by
  simp only [replaysLate]
  refine (List.map_congr_left fun m _ => ?_).trans (List.map_id l)
  cases m <;> simp

namespace Part

variable {n : NestId} {s t : Part} {e : PromptEntry} {q : List PromptEntry}

/-- What the removal of a REPLAYING entry does (R91, R187). -/
theorem abandonReplay_eq (n : NestId) (s : Part) : s.abandonReplay n =
    { s with
      stu := s.stu.modify n (Stimulus.replayEnded (s.powered n) s.ticks), sent := replaysLate [n] s.sent } := by
  rw [abandonReplay, endReplay_eq, ← replaysLate_single]
  rfl

/-! ### An entry leaves the queue -/

/-- The results of R188 kept for the step of an entry. -/
theorem keepUnanswered_eq (e : PromptEntry) (s : Part) : s.keepUnanswered e =
    { s with
      nsq := s.nsq.put e.nest { s.nsq.get e.nest with report := some (e.results 0 s.timebase) } } := rfl

/-- An entry behind the head leaves the queue, and nothing else changes (R181). -/
theorem removeEntry_behind (hp : s.opc.prompts = e :: q) (hn : e.nest ≠ n) : s.removeEntry n =
    { s with opc := { s.opc with prompts := s.opc.prompts.filter fun x => x.nest ≠ n } } := by
  have hhead : (s.headEntry.filter fun x => x.nest = n) = none := by simp [headEntry, hp, Option.filter, hn]
  simp only [removeEntry, hhead, modOpc]

theorem head_matches (hp : s.opc.prompts = e :: q) : (s.headEntry.filter fun x => x.nest = e.nest) = some e := by
  simp [headEntry, hp, Option.filter]

section

variable (hp : s.opc.prompts = e :: q) (hq : ∀ x ∈ q, x.nest ≠ e.nest)
include hp hq

theorem filter_others : s.opc.prompts.filter (fun x => x.nest ≠ e.nest) = q := by
  simpa [hp] using hq

/-- A SENDING head leaves the queue: its text is cut after the byte in shift (R174, R181). -/
theorem removeEntry_sending (hs : e.state = .sending) (hl : s.opc.link = .text) : s.removeEntry e.nest =
    { s with
      opc :=
        { s.opc with
          prompts := q, buffered := none, cut := true, clearPending := s.opc.clearPending || q.isEmpty } } := by
  simp only [removeEntry, head_matches hp, filter_others hp hq, modOpc, hs, Panel.cutText, if_pos hl]
  exact linkStart_busy (by simp [hl])

/-- A head that is not SENDING leaves the queue: its replay, if one is under way, ends, and the link takes its next
transfer (R91, R175, R181). -/
theorem removeEntry_head (hs : e.state ≠ .sending) : s.removeEntry e.nest =
    Part.linkStart { s with
      opc := { s.opc with prompts := q, clearPending := s.opc.clearPending || q.isEmpty }
      stu := if e.state = .replaying then
          s.stu.modify e.nest (Stimulus.replayEnded (s.powered e.nest) s.ticks)
        else s.stu
      sent := if e.state = .replaying then replaysLate [e.nest] s.sent else s.sent } := by
  simp only [removeEntry, head_matches hp, filter_others hp hq, modOpc, abandonReplay_eq]
  cases hstate : e.state with
  | sending => exact absurd hstate hs
  | replaying | queued | shown => rfl

end

/-- A withdrawal finds no entry of the nest (log entry 10). -/
theorem withdrawPrompt_idle (h : ∀ x ∈ s.opc.prompts, x.nest ≠ n) : s.withdrawPrompt n = s := by
  have hnone : s.promptEntry n = none := List.find?_eq_none.2 fun x hx => by simpa using h x hx
  simp only [withdrawPrompt, hnone]

/-- A withdrawal keeps the results of the entry, which leaves the queue (R188). -/
theorem withdrawPrompt_eq (h : s.promptEntry e.nest = some e) :
    s.withdrawPrompt e.nest = (s.keepUnanswered e).removeEntry e.nest := by
  simp only [withdrawPrompt, h]

theorem promptEntry_head (hp : s.opc.prompts = e :: q) : s.promptEntry e.nest = some e := by
  simp [promptEntry, hp]

/-! ### The station STOP -/

/-- What the station STOP does for one entry (R189). -/
theorem dropEntry_eq (e : PromptEntry) (s : Part) : s.dropEntry e =
    { s with
      opc := if e.state = .sending then s.opc.cutText else s.opc
      nsq := s.nsq.put e.nest { s.nsq.get e.nest with report := some (e.results 0 s.timebase) }
      stu := if e.state = .replaying then
          s.stu.modify e.nest (Stimulus.replayEnded (s.powered e.nest) s.ticks)
        else s.stu
      sent := if e.state = .replaying then replaysLate [e.nest] s.sent else s.sent } := by
  simp only [dropEntry, keepUnanswered_eq, abandonReplay_eq, modOpc]
  cases e.state <;> rfl

/-- The nests with a REPLAYING entry among `l`. -/
def replayNests (l : List PromptEntry) : List NestId :=
  (l.filter fun e => decide (e.state = .replaying)).map PromptEntry.nest

/-- From part `s` to part `t` the station STOP has dropped the entries `l` (R189). -/
structure Dropped (l : List PromptEntry) (s t : Part) : Prop where
  same : t = { s with opc := t.opc, nsq := t.nsq, stu := t.stu, sent := t.sent }
  opc : t.opc = if l.any fun e => decide (e.state = .sending) then s.opc.cutText else s.opc
  sent : t.sent = replaysLate (replayNests l) s.sent
  kept : ∀ e ∈ l, t.nsq.get e.nest = { s.nsq.get e.nest with report := some (e.results 0 s.timebase) }
  others : ∀ n, (∀ e ∈ l, e.nest ≠ n) → t.nsq.get n = s.nsq.get n
  ended : ∀ e ∈ l, e.state = .replaying →
    t.stu.get e.nest = (s.stu.get e.nest).replayEnded (s.powered e.nest) s.ticks
  still : ∀ n, (∀ e ∈ l, e.nest = n → e.state ≠ .replaying) → t.stu.get n = s.stu.get n

theorem cutText_cutText (o : Panel) : o.cutText.cutText = o.cutText := by
  unfold Panel.cutText
  split <;> simp_all

/-- The entries of different nests are dropped one after the other. -/
theorem foldl_dropEntry (l : List PromptEntry) (s : Part) (h : l.Pairwise fun a b => a.nest ≠ b.nest) :
    Dropped l s (l.foldl dropEntry s) := by
  induction l generalizing s with
  | nil => exact ⟨rfl, rfl, (replaysLate_nil _).symm, by simp, fun _ _ => rfl, by simp, fun _ _ => rfl⟩
  | cons e l ih =>
    obtain ⟨hne, hl⟩ := List.pairwise_cons.1 h
    have hd := ih (s.dropEntry e) hl
    rw [dropEntry_eq] at hd
    rw [List.foldl_cons, dropEntry_eq]
    obtain ⟨same, opc, sent, kept, others, ended, still⟩ := hd
    have hself : ∀ x ∈ l, x.nest ≠ e.nest := fun x hx => (hne x hx).symm
    have hstu (n : NestId) (hn : e.state = .replaying → e.nest ≠ n) :
        (if e.state = .replaying then s.stu.modify e.nest (Stimulus.replayEnded (s.powered e.nest) s.ticks)
          else s.stu).get n = s.stu.get n := by
      split
      · next hr => exact Bank.get_modify_other _ _ (hn hr)
      · rfl
    refine ⟨same, opc.trans ?_, sent.trans ?_, fun x hx => ?_, fun n hn => ?_, fun x hx hr => ?_, fun n hn => ?_⟩
    · by_cases he : e.state = .sending
      · simp [he, cutText_cutText]
      · simp [he]
    · by_cases he : e.state = .replaying
      · simp [he, replayNests, replaysLate_append]
      · simp [he, replayNests]
    · rcases List.mem_cons.1 hx with rfl | hx
      · exact (others _ hself).trans (Bank.get_put_same ..)
      · exact (kept x hx).trans (by rw [Bank.get_put_other _ _ (hne x hx)]; rfl)
    · exact (others n fun x hx => hn x (.tail _ hx)).trans (Bank.get_put_other _ _ (hn e (.head _)))
    · rcases List.mem_cons.1 hx with rfl | hx
      · refine (still _ fun y hy hyn => absurd hyn (hself y hy)).trans ?_
        rw [if_pos hr, Bank.get_modify_same]
      · refine (ended x hx hr).trans ?_
        rw [hstu _ fun _ => hne x hx]
        rfl
    · exact (still n fun x hx => hn x (.tail _ hx)).trans (hstu n fun hr hne => hn e (.head _) hne hr)

/-- The station STOP at the panel controller: every entry dropped, and then the link's next transfer (R189). -/
theorem stopPanel_eq (ht : s.opc.prompts.foldl dropEntry s = t) : s.stopPanel =
    Part.linkStart { t with opc := { t.opc with prompts := [], clearPending := true } } := by
  simp only [stopPanel, ht, modOpc]

end Part

/-- Settles O53, by where the withdrawn entry stands in the queue, and by the entries that the station STOP drops. -/
theorem promptsAreWithdrawn : Obligations.PromptsAreWithdrawn := by
  intro s o results kept restored replayEnds
  have hresults (e : PromptEntry) : e.results 0 s.part.timebase = results e := by
    cases h : e.firstShown <;> simp [PromptEntry.results, results, h, msBetween, Results.zero]
  have hkept (e : PromptEntry) : s.part.keepUnanswered e = { s.part with nsq := kept e } := by
    rw [Part.keepUnanswered_eq, hresults]
  have hends (n : NestId) : replayEnds n ((s.part.stu.get n).replayEnded (s.part.powered n) s.part.ticks) := by
    refine ⟨fun h => ?_, fun mask due hr hp => ?_, fun mask due hr hp => ?_⟩
    · rcases h with h | h <;> simp [Stimulus.replayEnded, h]
    · simp only [Stimulus.replayEnded, hp, hr, if_true]
      exact ⟨Stimulus.restore_channel mask s.part.ticks _, Stimulus.restore_sender mask s.part.ticks _, rfl⟩
    · simp only [Stimulus.replayEnded, hp, hr, if_true]
  have hwithdraw {e : PromptEntry} (he : s.part.promptEntry e.nest = some e) :
      s.part.withdrawPrompt e.nest = Part.removeEntry e.nest { s.part with nsq := kept e } :=
    (Part.withdrawPrompt_eq he).trans (congrArg (Part.removeEntry e.nest) (hkept e))
  refine ⟨fun n h => ?_, fun h q e hp hne he => ?_, fun e q hp hs hl hq => ?_, fun e q hp hs hq => ?_, fun hpair => ?_⟩
  · exact exec_eq_next (f := (·.withdrawPrompt n)) rfl (Part.withdrawPrompt_idle h)
  · exact answers_of_act (f := (·.withdrawPrompt e.nest)) rfl ((hwithdraw he).trans (Part.removeEntry_behind hp hne))
  · exact answers_of_act (f := (·.withdrawPrompt e.nest)) rfl
      ((hwithdraw (Part.promptEntry_head hp)).trans (Part.removeEntry_sending hp hq hs hl))
  · refine answers_of_act (f := (·.withdrawPrompt e.nest)) rfl ?_
    rw [(hwithdraw (Part.promptEntry_head hp)).trans (Part.removeEntry_head hp hq hs), Part.linkStart_stu]
    refine ⟨fun hr => ?_, fun hr => if_neg hr, ?_, linkStart_serves _⟩
    · dsimp only
      rw [if_pos hr, Bank.get_modify_same]
      exact hends e.nest
    · dsimp only
      split
      exacts [.modify _ _ _, .refl _ _]
  · intro replays cuts
    refine answers_of_act (f := fun s => (s.took .panelStop).stopPanel) rfl ?_
    obtain ⟨t, ht⟩ : ∃ t, (s.part.took .panelStop).opc.prompts.foldl Part.dropEntry (s.part.took .panelStop) = t := ⟨_, rfl⟩
    have hd : Part.Dropped o.prompts (s.part.took .panelStop) t := ht ▸ Part.foldl_dropEntry _ _ hpair
    have hopc : { t.opc with prompts := [], clearPending := true } =
        { o with prompts := [], clearPending := true, cut := o.cut || cuts
                 buffered := if cuts then none else o.buffered } := by
      rw [hd.opc]
      by_cases hs : o.prompts.any fun e => decide (e.state = .sending)
      · by_cases hl : o.link = .text <;> simp [hs, hl, cuts, Panel.cutText, o]
      · simp [hs, cuts, o]
    have hsame := congrArg (fun x : Part => { x with opc := { t.opc with prompts := [], clearPending := true } }) hd.same
    dsimp only
    rw [Part.stopPanel_eq ht, Part.linkStart_nsq rfl, Part.linkStart_stu]
    refine ⟨fun e he => ?_, hd.others, fun e he hr => ?_, hd.still, ?_⟩
    · rw [← hresults]
      exact hd.kept e he
    · have hended := hd.ended e he hr
      dsimp only
      rw [hended]
      exact hends e.nest
    · have hw : { t with opc := { t.opc with prompts := [], clearPending := true } } =
          { s.part with
            opc := { o with prompts := [], clearPending := true, cut := o.cut || cuts
                            buffered := if cuts then none else o.buffered }
            nsq := t.nsq, stu := t.stu, sent := replaysLate replays (s.part.sent.erase .panelStop) } := by
        refine hsame.trans ?_
        dsimp only
        rw [hopc, hd.sent]
        rfl
      exact hw ▸ linkStart_serves _

end Sys2Proof.Machine
end

section
/-! A bus controller changed: what reaches one nest's controller and its words alone, and the controllers and gauge monitors
of a nest that enters or leaves POWERED. -/

namespace Sys2Proof.Machine

/-- In a fold over a list without repetition one step turns `P` into `Q`, and every other step keeps both. -/
theorem foldl_once {α β : Type} {f : β → α → β} {P Q : β → Prop} {l : List α} {k : α} {s : β} (hl : l.Nodup)
    (hk : k ∈ l) (hs : P s) (before : ∀ t, P t → ∀ j ∈ l, j ≠ k → P (f t j)) (here : ∀ t, P t → Q (f t k))
    (after : ∀ t, Q t → ∀ j ∈ l, j ≠ k → Q (f t j)) : Q (l.foldl f s) := by
  obtain ⟨a, b, rfl⟩ := List.append_of_mem hk
  have hnot : k ∉ a ++ b := (List.nodup_cons.1 (List.nodup_middle.1 hl)).1
  have hne {j : α} (hj : j ∈ a ++ b) : j ≠ k := fun e => hnot (e ▸ hj)
  have hmem {j : α} (hj : j ∈ a ++ b) : j ∈ a ++ k :: b := by
    rcases List.mem_append.1 hj with hj | hj <;> simp [hj]
  have hfirst : P (a.foldl f s) := List.foldlRecOn a f hs fun t ht j hj =>
    before t ht j (hmem (List.mem_append_left b hj)) (hne (List.mem_append_left b hj))
  rw [List.foldl_append, List.foldl_cons]
  exact List.foldlRecOn b f (here _ hfirst) fun t ht j hj =>
    after t ht j (hmem (List.mem_append_right a hj)) (hne (List.mem_append_right a hj))

/-! ### Where the words of a bus controller lie -/

theorem frameAt_eq_iff {n : NestId} {i j : Fin 16} {k l : Nat} (hk : k < 8) (hl : l < 8) :
    frameAt n i k = frameAt n j l ↔ i = j ∧ k = l := by
  unfold frameAt; rw [Fin.ext_iff]; omega

theorem captureAt_eq_iff {n : NestId} {i j : Fin 8} {k l : Nat} (hk : k < 8) (hl : l < 8) :
    captureAt n i k = captureAt n j l ↔ i = j ∧ k = l := by
  unfold captureAt; rw [Fin.ext_iff]; omega

/-- NEST_STATE shows MUTE in bit 13 (NEST_STATE table). -/
theorem nestStateWord_mute (n : NestId) (s : Part) : (s.nestStateWord n).getLsbD 13 = (s.buc.get n).mute := by
  simp only [Part.nestStateWord]
  cases (s.nsq.get n).state <;> cases (s.fxc.get n).state <;> cases (s.nsq.get n).hold <;>
    cases (s.nsq.get n).skipping <;> cases (s.buc.get n).mute <;> rfl

/-- From part `s` to part `t` nothing has changed but the bus controller of nest `n` and the words `words`. -/
structure Part.AtBus (n : NestId) (words : List Nat) (s t : Part) : Prop where
  same : t = { s with buc := t.buc, mem := t.mem }
  others : Bank.AgreeBut n s.buc t.buc
  stores : s.StoresOnly words t

namespace Part.AtBus

variable {n : NestId} {words : List Nat} {s t u : Part}

theorem refl : AtBus n words s s := ⟨rfl, .refl n _, .refl⟩

theorem trans (h : AtBus n words s t) (g : AtBus n words t u) : AtBus n words s u :=
  ⟨by rw [g.same, h.same], h.others.trans g.others, h.stores.trans g.stores⟩

theorem mono {more : List Nat} (h : AtBus n words s t) (hw : ∀ i ∈ words, i ∈ more) : AtBus n more s t :=
  ⟨h.same, h.others, h.stores.mono hw⟩

theorem modBuc {f : Bus → Bus} (h : AtBus n words s t) : AtBus n words s (t.modBuc n f) :=
  h.trans ⟨rfl, .modify n _ _, .refl⟩

theorem put {i : Nat} {v : W32} (h : AtBus n words s t) (hi : i ∈ words) : AtBus n words s (t.put i v) :=
  h.trans ⟨rfl, .refl n _, StoresOnly.refl.put hi⟩

theorem track {f : Part → Part} (hf : AtBus n words s (f t)) (hi : nestAt n 7 ∈ words) :
    AtBus n words s (t.track n f) := by
  rcases t.track_eq n f with ⟨e, -⟩ | ⟨e, -⟩
  · exact e ▸ hf
  · exact e ▸ hf.put hi

theorem ite {c : Prop} [Decidable c] (ht : c → AtBus n words s t) (hu : ¬ c → AtBus n words s u) :
    AtBus n words s (if c then t else u) := by
  split
  · next h => exact ht h
  · next h => exact hu h

theorem foldl {α : Type} {f : Part → α → Part} {l : List α} (h : AtBus n words s t)
    (hf : ∀ (t : Part), AtBus n words s t → ∀ x ∈ l, AtBus n words t (f t x)) : AtBus n words s (l.foldl f t) :=
  List.foldlRecOn l f h fun t ht x hx => ht.trans (hf t ht x hx)

section
variable (h : AtBus n words s t)
include h

theorem nestOnly : s.NestOnly n t := by
  rw [h.same]
  exact ⟨.refl n _, .refl n _, .refl n _, h.others, .refl n _, .refl n _⟩

theorem nsq : t.nsq = s.nsq := congrArg (·.nsq) h.same
theorem sent : t.sent = s.sent := congrArg (·.sent) h.same
theorem now : t.now = s.now := congrArg (·.now) h.same
theorem timebase : t.timebase = s.timebase := congrArg (·.timebase) h.same

/-- Of the controller NEST_STATE shows MUTE alone. -/
theorem nestStateWord (hm : (t.buc.get n).mute = (s.buc.get n).mute) : t.nestStateWord n = s.nestStateWord n := by
  have hnsq := h.nsq
  have hfxc : t.fxc = s.fxc := congrArg (·.fxc) h.same
  simp only [Part.nestStateWord, hnsq, hfxc, hm]

end

end Part.AtBus

namespace Part

variable {n : NestId} {s t : Part}

/-- A change of MUTE is shown in NEST_STATE (R4). -/
theorem track_shows_mute {f : Bus → Bus} (h : (f (s.buc.get n)).mute ≠ (s.buc.get n).mute) :
    (s.track n fun t => t.modBuc n f).Shows n := by
  have hne : (s.modBuc n f).nestStateWord n ≠ s.nestStateWord n := fun e => h <| by
    have hbit : ((s.modBuc n f).buc.get n).mute = (s.buc.get n).mute := by
      rw [← nestStateWord_mute, ← nestStateWord_mute, e]
    rwa [modBuc_buc, Bank.get_modify_same] at hbit
  rcases s.track_eq n (fun t => t.modBuc n f) with ⟨-, e⟩ | ⟨e, -⟩
  · exact absurd e hne
  · rw [e]
    exact (putNest_word_same ..).trans (putNest_nestStateWord ..).symm

/-- A NEST_STATE that is shown stays so where the controller changes without its MUTE, and other words are written. -/
theorem Shows.atBus {words : List Nat} (hs : s.Shows n) (h : AtBus n words s t)
    (hm : (t.buc.get n).mute = (s.buc.get n).mute) (hw : nestAt n 7 ∉ words) : t.Shows n := by
  rw [Shows, h.stores.word hw, h.nestStateWord hm]
  exact hs

/-! ### The nest enters POWERED (R94, R117) -/

theorem startBus_atBus (n : NestId) (s : Part) : AtBus n [nestAt n 7] s (s.startBus n) :=
  (AtBus.refl.modBuc).track (.head _)

theorem startBus_buc (n : NestId) (s : Part) : (s.startBus n).buc.get n =
    { s.buc.get n with
      on := true, rate := some (bitRateOf (field (s.word (nestAt n 3)) 0 2)), mute := false, nacks := 0, tx := none
      rx := none } := by
  simp [startBus]

end Part

/-- The rates that the codes of BUS_CFG name (R94). -/
theorem bitRateOf_kbits (w : W32) :
    some (bitRateOf (field w 0 2)).kbits = [125, 250, 500, 1000][w.toNat % 4]? := by
  have hcode : ∀ code : BitVec 2, some (bitRateOf code).kbits = [125, 250, 500, 1000][code.toNat]? := by decide
  rw [hcode, field, BitVec.extractLsb'_toNat, Nat.shiftRight_zero]

/-- Settles O34, by what a start makes of the controller and of each gauge. -/
theorem enteringPoweredStartsBusAndMonitors : Obligations.EnteringPoweredStartsBusAndMonitors := by
  refine fun n s => ⟨answers_of_act (f := (·.startBus n)) rfl ?_, answers_of_act (f := (·.startMonitor n)) rfl ?_⟩
  · have hat := Part.startBus_atBus n s.part
    refine ⟨?_, ?_, fun hm => ?_, hat.stores, hat.nestOnly, hat.same⟩
    · rw [Part.startBus_buc]
    · rw [Part.startBus_buc]
      exact bitRateOf_kbits _
    · exact Part.track_shows_mute (by simp [hm])
  · refine ⟨fun g => ?_, ?_, ?_, ?_, rfl⟩
    · simp [Part.startMonitor, Part.gauge, Gauge.start]
    · simp [Part.startMonitor]
    · simp [Part.startMonitor]
    · exact ⟨.refl n _, .refl n _, .refl n _, .refl n _, .modify n _ _, .refl n _⟩

namespace Part

variable {n : NestId} {s t : Part}

/-! ### The nest leaves POWERED (R95, R118, R127) -/

/-- Both status words of every frame slot written. -/
def writeSlots (n : NestId) (s : Part) : Part :=
  (List.finRange 16).foldl (fun s k => (s.writeSlotStatus n k).writeSlotNacks n k) s

theorem writeSlots_atBus (n : NestId) (s : Part) :
    AtBus n ((List.finRange 16).flatMap fun k => [frameAt n k 6, frameAt n k 7]) s (s.writeSlots n) :=
  AtBus.refl.foldl fun _ _ k _ =>
    (AtBus.refl.put (List.mem_flatMap.2 ⟨k, List.mem_finRange k, by simp⟩)).put
      (List.mem_flatMap.2 ⟨k, List.mem_finRange k, by simp⟩)

theorem writeSlots_buc (n : NestId) (s : Part) : (s.writeSlots n).buc = s.buc :=
  List.foldlRecOn (motive := fun t : Part => t.buc = s.buc) _ _ rfl fun _ ht _ _ => ht

theorem writeSlots_words (n : NestId) (k : Fin 16) (s : Part) :
    (s.writeSlots n).word (frameAt n k 6) = (s.slot n k).statusWord ∧
      (s.writeSlots n).word (frameAt n k 7) = place (s.slot n k).nack 0 := by
  have h := foldl_once (P := fun t : Part => t.slot n k = s.slot n k)
    (Q := fun t : Part => t.slot n k = s.slot n k ∧ t.word (frameAt n k 6) = (s.slot n k).statusWord ∧
      t.word (frameAt n k 7) = place (s.slot n k).nack 0)
    (f := fun s j => (s.writeSlotStatus n j).writeSlotNacks n j)
    (List.nodup_finRange 16) (List.mem_finRange k) rfl (fun t ht j _ _ => ht) (fun t ht => ?_) fun t ht j _ hj => ?_
  · exact h.2
  · have h67 : frameAt n k 7 ≠ frameAt n k 6 := by simp [frameAt_eq_iff]
    rw [← ht]
    exact ⟨rfl, (put_word_other _ _ h67).trans (put_word_same ..), put_word_same ..⟩
  · obtain ⟨hslot, h6, h7⟩ := ht
    have hne (a b : Nat) (ha : a < 8) (hb : b < 8) : frameAt n j a ≠ frameAt n k b := fun e =>
      hj ((frameAt_eq_iff ha hb).1 e).1
    refine ⟨hslot, ?_, ?_⟩
    · rw [← h6]
      exact (put_word_other _ _ (hne 7 6 (by decide) (by decide))).trans
        (put_word_other _ _ (hne 6 6 (by decide) (by decide)))
    · rw [← h7]
      exact (put_word_other _ _ (hne 7 7 (by decide) (by decide))).trans
        (put_word_other _ _ (hne 6 7 (by decide) (by decide)))

/-- What a stopping controller holds for the step in execution is kept: of a CHECK_FRAME, else of a waiting FRAME_LOAD
(R108, R114). -/
def keepBusReport (n : NestId) (s : Part) : Part :=
  (match (s.buc.get n).loadWait with
    | some w => s.keepReport n w.results
    | none => s).endCheckFrame n

theorem modBuc_congr {f g : Bus → Bus} (h : f (s.buc.get n) = g (s.buc.get n)) : s.modBuc n f = s.modBuc n g := by
  simp only [modBuc, Bank.modify, h]

/-- A change with NEST_STATE written is told by what it makes of the part. -/
theorem track_congr {f g : Part → Part} (h : f s = g s) : s.track n f = s.track n g := by simp only [track, h]

theorem keepBusReport_buc (n : NestId) (s : Part) :
    (s.keepBusReport n).buc = s.buc.modify n fun b => { b with check := none } := by
  rw [keepBusReport, endCheckFrame_eq]
  split <;> rfl

theorem keepBusReport_sequencer (n : NestId) (s : Part) : (s.keepBusReport n).nsq.get n =
    { s.nsq.get n with
      report := (((s.buc.get n).check.map CheckFrame.results).or ((s.buc.get n).loadWait.map LoadWait.results)).or
        (s.nsq.get n).report } := by
  unfold keepBusReport
  cases hw : (s.buc.get n).loadWait <;> cases hc : (s.buc.get n).check <;> simp [endCheckFrame, hc]

/-- An urgent stop: the results kept, the controller stopped and shown, and the status words written (R95). -/
theorem stopBus_stages (n : NestId) (s : Part) : s.stopBus n =
    ((s.keepBusReport n).track n fun t => t.modBuc n Bus.stopped).writeSlots n := by
  have hcheck : ((s.keepBusReport n).buc.get n).check = none := by rw [keepBusReport_buc, Bank.get_modify_same]
  have hstopped (b : Bus) (h : b.check = none) : b.stopped = { b.stopped with check := b.check } := by rw [h]; rfl
  refine congrArg (writeSlots n) (track_congr (modBuc_congr ?_))
  exact (hstopped _ hcheck).symm

theorem stopBus_sequencer (n : NestId) (s : Part) : (s.stopBus n).nsq.get n =
    { s.nsq.get n with
      report := (((s.buc.get n).check.map CheckFrame.results).or ((s.buc.get n).loadWait.map LoadWait.results)).or
        (s.nsq.get n).report } := by
  rw [stopBus_stages, (writeSlots_atBus n _).nsq, track_nsq, modBuc_nsq, keepBusReport_sequencer]

theorem stopBus_buc (n : NestId) (s : Part) : (s.stopBus n).buc.get n = (s.buc.get n).stopped := by
  rw [stopBus_eq]
  simp

/-- The status words show the stopped slots (R104). -/
theorem stopBus_words (n : NestId) (k : Fin 16) (s : Part) :
    (s.stopBus n).word (frameAt n k 6) = place (s.slot n k).sent 16 ∧
      (s.stopBus n).word (frameAt n k 7) = place (s.slot n k).nack 0 := by
  have hslot : ((s.keepBusReport n).track n fun t => t.modBuc n Bus.stopped).slot n k =
      (s.buc.get n).stopped.slots.get k := by
    rw [slot, track_buc, modBuc_buc, keepBusReport_buc]
    simp [Bus.stopped]
  rw [stopBus_stages, (writeSlots_words n k _).1, (writeSlots_words n k _).2, hslot]
  simp [Bus.stopped, FrameSlot.statusWord, slotStateCode, flag, slot]

/-- A MUTE that the stop ends is shown ended. -/
theorem stopBus_shows (hm : (s.buc.get n).mute = true) : (s.stopBus n).Shows n := by
  have hkept : ((s.keepBusReport n).buc.get n).mute = true := by rw [keepBusReport_buc]; simpa using hm
  have hshown : ((s.keepBusReport n).track n fun t => t.modBuc n Bus.stopped).Shows n :=
    track_shows_mute (by rw [hkept]; simp [Bus.stopped])
  rw [stopBus_stages]
  exact hshown.atBus (writeSlots_atBus n _) (by rw [writeSlots_buc]) (by simp [eq_comm])

/-- Frozen monitors keep the results of a settle watch (R127). -/
theorem freezeMonitor_sequencer (n : NestId) (s : Part) : (s.freezeMonitor n).nsq =
    match (s.gmn.get n).check with
    | some c => s.nsq.modify n fun q => { q with report := some (c.results (s.gauge n c.gauge)) }
    | none => s.nsq := by
  unfold freezeMonitor endGaugeCheck
  cases hc : (s.gmn.get n).check <;> simp [hc, gauge]

end Part

/-- Settles O35, by the stages of an urgent stop, and by what a freeze keeps of a settle watch. -/
theorem leavingPoweredStopsBusAndMonitors : Obligations.LeavingPoweredStopsBusAndMonitors := by
  intro n s b
  refine ⟨answers_of_act (f := (·.stopBus n)) rfl ?_, answers_of_act (f := (·.freezeMonitor n)) rfl ?_⟩
  · have hbuc := Part.stopBus_buc n s.part
    have hsame := Part.stopBus_eq n s.part
    have hframe : s.part.stopBus n =
        { s.part with buc := (s.part.stopBus n).buc, nsq := (s.part.stopBus n).nsq, mem := (s.part.stopBus n).mem } := by
      conv_lhs => rw [hsame]
      rw [Part.stopBus_eq n s.part]
    refine ⟨?_, fun k => ⟨?_, Part.stopBus_words n k s.part⟩, fun k => ?_, fun w hw hc => ?_, fun c hc => ?_,
      Part.stopBus_shows, ?_, Part.stopBus_stores n s.part, ?_, hframe⟩
    · rw [hbuc]; rfl
    · simp [Part.slot, hbuc, Bus.stopped]
    · simp [Part.filter, hbuc, Bus.stopped]
    · rw [Part.stopBus_sequencer, hw, hc]; rfl
    · rw [Part.stopBus_sequencer, hc]; rfl
    · rw [Part.SequencerKept, Part.stopBus_sequencer]
    · rw [hframe]
      exact ⟨Part.agreeBut_stopBus n s.part, .refl n _, .refl n _, by rw [Part.stopBus_eq]; exact .modify n _ _, .refl n _,
        .refl n _⟩
  · have hnsq := Part.freezeMonitor_sequencer n s.part
    have hgmn : (s.part.freezeMonitor n).gmn = s.part.gmn.modify n Gauges.frozen := by rw [Part.freezeMonitor_eq]
    have hframe : s.part.freezeMonitor n =
        { s.part with gmn := (s.part.freezeMonitor n).gmn, nsq := (s.part.freezeMonitor n).nsq } := by
      rw [hgmn]; exact Part.freezeMonitor_eq n s.part
    refine ⟨?_, fun c hc => ?_, fun hc => ?_, ?_, ?_, hframe⟩
    · rw [hgmn, Bank.get_modify_same]; rfl
    · rw [hnsq, hc]; simp
    · rw [hnsq, hc]
    · rw [Part.SequencerKept, hnsq]
      split <;> simp
    · rw [hframe]
      exact ⟨Part.agreeBut_freezeMonitor n s.part, .refl n _, .refl n _, .refl n _, hgmn ▸ .modify n _ _, .refl n _⟩

end Sys2Proof.Machine
end

section
/-! The transmitter arbiter (R100): which pending transmission it chooses, and what the start of one does (R101). -/

namespace Sys2Proof.Machine

/-! ### The choice -/

namespace Bus

variable {b : Bus} {k : Fin 16} {d : Nat}

/-- The pending transmission due furthest back of the best one so far and slot `k`'s. -/
def older (b : Bus) (best : Option (Fin 16 × Nat)) (k : Fin 16) : Option (Fin 16 × Nat) :=
  match (b.slots.get k).pendingDue, best with
  | none, _ => best
  | some d, none => some (k, d)
  | some d, some (_, d') => if d < d' then some (k, d) else best

theorem oldestPending_eq (b : Bus) : b.oldestPending = (List.finRange 16).foldl b.older none := rfl

theorem older_idle {best : Option (Fin 16 × Nat)} (h : (b.slots.get k).pendingDue = none) : b.older best k = best := by
  simp [older, h]

theorem older_pending {best : Option (Fin 16 × Nat)} (h : (b.slots.get k).pendingDue = some d) :
    b.older best k = if ∀ x ∈ best, d < x.2 then some (k, d) else best := by
  cases best with
  | none => simp [older, h]
  | some x => simp [older, h]

/-- With nothing pending nothing is chosen. -/
theorem oldestPending_none (h : ∀ k, (b.slots.get k).pendingDue = none) : b.oldestPending = none :=
  List.foldlRecOn (motive := fun best => best = none) (List.finRange 16) b.older rfl fun best hb k _ => by
    rw [older_idle (h k), hb]

/-- What is chosen is due furthest back, and of equals the lowest slot: those before it in the search are due later, and none
after it is due earlier (R100). -/
theorem oldestPending_chosen (h : b.Chooses k d) : b.oldestPending = some (k, d) := by
  obtain ⟨hk, hleast⟩ := h
  obtain ⟨l, r, hlr⟩ := List.append_of_mem (List.mem_finRange k)
  have hsorted := List.pairwise_lt_finRange 16
  rw [hlr, List.pairwise_append] at hsorted
  have hbefore {j : Fin 16} (hj : j ∈ l) : j < k := hsorted.2.2 j hj k (.head _)
  have hstart : ∀ x ∈ (none : Option (Fin 16 × Nat)), d < x.2 := by simp
  have hlater : ∀ x ∈ l.foldl b.older none, d < x.2 := by
    refine List.foldlRecOn (motive := fun best => ∀ x ∈ best, d < x.2) l b.older hstart fun best hbest j hj => ?_
    cases hp : (b.slots.get j).pendingDue with
    | none => rwa [older_idle hp]
    | some e =>
      have hde : d < e := (hleast j e hp).resolve_right fun ⟨_, hkj⟩ => absurd (hbefore hj) (not_lt.2 hkj)
      rw [older_pending hp]
      split
      · simpa using hde
      · exact hbest
  rw [oldestPending_eq, hlr, List.foldl_append, List.foldl_cons, older_pending hk, if_pos hlater]
  refine List.foldlRecOn (motive := fun best => best = some (k, d)) r b.older rfl fun best hbest j _ => ?_
  cases hp : (b.slots.get j).pendingDue with
  | none => rw [older_idle hp, hbest]
  | some e =>
    have hde : d ≤ e := by rcases hleast j e hp with h | ⟨h, -⟩ <;> omega
    rw [older_pending hp, hbest, if_neg (by simpa using hde)]

end Bus

/-! ### The start of a transmission -/

/-- A slot whose transmission has started: its staged payload is applied, nothing is staged and nothing pending (R101). -/
def FrameSlot.sending (f : FrameSlot) : FrameSlot :=
  { f with payload := f.stagedPayload.getD f.payload, stagedPayload := none, stagedLines := none, pendingDue := none }

/-- A change is staged. -/
def FrameSlot.staged (f : FrameSlot) : Bool := f.stagedPayload.isSome || f.stagedLines.isSome

/-- The lines of a nest once a slot's staged line part is applied (R101). -/
def FrameSlot.driven (f : FrameSlot) (powered : Bool) (l : Bank 8 Line) : Bank 8 Line :=
  match f.stagedLines with
  | some (mask, value) => if powered then driveLines mask value l else l
  | none => l

theorem FrameSlot.statusWord_unstaged {f : FrameSlot} (h : f.staged = false) :
    f.statusWord = (slotStateCode f.state ||| place f.sent 16) := by
  rw [FrameSlot.statusWord, show (f.stagedPayload.isSome || f.stagedLines.isSome) = false from h]
  simp [flag]

namespace Part

variable {n : NestId} {k : Fin 16} {d : Nat} {s t : Part}

/-- The staged line part of slot `f` applied (R101). -/
def driveStaged (n : NestId) (f : FrameSlot) (s : Part) : Part :=
  match f.stagedLines with
  | some (mask, value) => s.applyLines n mask value
  | none => s

theorem driveStaged_eq (n : NestId) (f : FrameSlot) (s : Part) : s.driveStaged n f =
    { s with stu := s.stu.put n { s.stu.get n with lines := f.driven (s.powered n) (s.stu.get n).lines } } := by
  have hkept : s.stu.put n { s.stu.get n with lines := (s.stu.get n).lines } = s.stu := Bank.put_get _ _
  unfold driveStaged FrameSlot.driven applyLines
  cases f.stagedLines with
  | none => dsimp only; rw [hkept]
  | some x =>
    dsimp only
    split
    · rfl
    · rw [hkept]

/-- A slot's staged changes applied, and its frame on the wire (R101). -/
def onWire (n : NestId) (k : Fin 16) (d : Nat) (s : Part) : Part :=
  let b := s.buc.get n
  let f := s.slot n k
  { s with
    buc := s.buc.put n { b with tx := some ⟨k, d, false, f.sending.frame⟩, slots := b.slots.put k f.sending }
    stu := s.stu.put n { s.stu.get n with lines := f.driven (s.powered n) (s.stu.get n).lines } }

/-- A slot's frame on the wire, and its status written if a staged change was applied (R101, R104). -/
def onWireShown (n : NestId) (k : Fin 16) (d : Nat) (s : Part) : Part :=
  if (s.slot n k).staged then
    (s.onWire n k d).put (frameAt n k 6) (slotStateCode (s.slot n k).state ||| place (s.slot n k).sent 16)
  else s.onWire n k d

/-- A FRAME_LOAD that waits for slot `k` passes (R107). -/
def passLoad (n : NestId) (k : Fin 16) (s : Part) : Part :=
  match (s.buc.get n).loadWait with
  | some w =>
    if w.slot = k then
      (s.modBuc n fun b => { b with loadWait := none }).completeStep n .frameLoad .pass .none
        ⟨w.w11, s.timebase, 0, 0, 0⟩
    else s
  | none => s

theorem startTransmission_eq (n : NestId) (k : Fin 16) (d : Nat) (s : Part) :
    s.startTransmission n k d = (s.onWireShown n k d).passLoad n k := by
  unfold startTransmission
  extract_lets f unstaged lined marked frame sending
  have hlined : lined = (s.withSlot n k f.sending).driveStaged n f := rfl
  have hslot : lined.slot n k = f.sending := by rw [hlined, driveStaged_eq]; exact withSlot_slot ..
  have hstatus : f.sending.statusWord = (slotStateCode f.state ||| place f.sent 16) := FrameSlot.statusWord_unstaged rfl
  have hsent (t : Part) (ht : t = lined) (fr : Frame) (hf : fr = f.sending.frame) :
      (t.modBuc n fun b => { b with tx := some ⟨k, d, false, fr⟩ }) = s.onWire n k d := by
    rw [ht, hf, hlined, driveStaged_eq]
    simp only [onWire, withSlot, modBuc, Bank.modify, Bank.get_put_same, Bank.put_put]
    rfl
  have hsending : sending = s.onWireShown n k d := by
    unfold onWireShown
    split
    · next hs =>
      have hmarked : marked = lined.put (frameAt n k 6) (slotStateCode f.state ||| place f.sent 16) :=
        (if_pos hs).trans (by rw [writeSlotStatus, hslot, hstatus])
      unfold sending frame
      rw [hmarked, ← hsent lined rfl _ (congrArg FrameSlot.frame hslot)]
      rfl
    · next hs =>
      have hmarked : marked = lined := if_neg hs
      unfold sending frame
      rw [hmarked, ← hsent lined rfl _ (congrArg FrameSlot.frame hslot)]
  show passLoad n k sending = _
  rw [hsending]

/-! ### The arbiter -/

theorem onWireShown_eq (n : NestId) (k : Fin 16) (d : Nat) (s : Part) :
    s.onWireShown n k d =
      { s with buc := (s.onWire n k d).buc, stu := (s.onWire n k d).stu, mem := (s.onWireShown n k d).mem } := by
  unfold onWireShown
  split <;> rfl

theorem onWireShown_stores (n : NestId) (k : Fin 16) (d : Nat) (s : Part) :
    s.StoresOnly [frameAt n k 6] (s.onWireShown n k d) := by
  unfold onWireShown
  split
  · exact (StoresOnly.refl.of_mem rfl).put (.head _)
  · exact StoresOnly.refl.of_mem rfl

/-- The status of a slot whose staged change has been applied is shown (R104). -/
theorem onWireShown_status (h : (s.slot n k).staged = true) (d : Nat) :
    (s.onWireShown n k d).word (frameAt n k 6) = (slotStateCode (s.slot n k).state ||| place (s.slot n k).sent 16) := by
  rw [onWireShown, if_pos h, put_word_same]

theorem onWireShown_unstaged (hp : (s.slot n k).stagedPayload = none) (hl : (s.slot n k).stagedLines = none) (d : Nat) :
    (s.onWireShown n k d).mem = s.mem := by
  have h : ¬ (s.slot n k).staged = true := by simp [FrameSlot.staged, hp, hl]
  rw [onWireShown, if_neg h]
  rfl

theorem passLoad_idle (h : (s.buc.get n).loadWait.map LoadWait.slot ≠ some k) : s.passLoad n k = s := by
  unfold passLoad
  split
  · next w hw => exact if_neg fun e => h (by rw [hw, Option.map_some, e])
  · rfl

theorem passLoad_waiting {w : LoadWait} (hw : (s.buc.get n).loadWait = some w) (hk : w.slot = k) : s.passLoad n k =
    (s.modBuc n fun b => { b with loadWait := none }).completeStep n .frameLoad .pass .none
      ⟨w.w11, s.timebase, 0, 0, 0⟩ := by
  simp only [passLoad, hw, if_pos hk]

/-- A change of one nest's controller, lines and sequencer, and of messages, reaches no other nest. -/
theorem nestOnly_bus (hnsq : Bank.AgreeBut n s.nsq t.nsq) (hbuc : Bank.AgreeBut n s.buc t.buc)
    (hstu : Bank.AgreeBut n s.stu t.stu)
    (h : t = { s with buc := t.buc, stu := t.stu, nsq := t.nsq, mem := t.mem, sent := t.sent }) : s.NestOnly n t := by
  rw [h]
  exact ⟨hnsq, .refl n _, hstu, hbuc, .refl n _, .refl n _⟩

/-- The start of a transmission, in the terms of the claims (R101). -/
theorem startTransmission_starts (n : NestId) (k : Fin 16) (d : Nat) (s : Part) :
    s.Starts n k d (s.startTransmission n k d) := by
  have hshown (h : (s.slot n k).stagedPayload.isSome ∨ (s.slot n k).stagedLines.isSome) :=
    onWireShown_status (s := s) (n := n) (k := k) (by simpa [FrameSlot.staged] using h) d
  have hunstaged hp hl := onWireShown_unstaged (s := s) (n := n) (k := k) hp hl d
  have hstores := onWireShown_stores n k d s
  have hsame := onWireShown_eq n k d s
  rw [startTransmission_eq]
  generalize s.onWireShown n k d = t at hshown hunstaged hstores hsame ⊢
  have hbuc : t.buc = (s.onWire n k d).buc := congrArg (·.buc) hsame
  have hstu : t.stu = (s.onWire n k d).stu := congrArg (·.stu) hsame
  have hnsq : t.nsq = s.nsq := congrArg (·.nsq) hsame
  have hsent : t.sent = s.sent := congrArg (·.sent) hsame
  have hget : t.buc.get n = { s.buc.get n with
      tx := some ⟨k, d, false, (s.slot n k).sending.frame⟩
      slots := (s.buc.get n).slots.put k (s.slot n k).sending } := by rw [hbuc]; simp [onWire]
  have hothers : Bank.AgreeBut n s.buc t.buc := by rw [hbuc]; exact .put n _ _
  have hlines : t.stu.get n =
      { s.stu.get n with lines := (s.slot n k).driven (s.powered n) (s.stu.get n).lines } := by rw [hstu]; simp [onWire]
  have hstus : Bank.AgreeBut n s.stu t.stu := by rw [hstu]; exact .put n _ _
  rw [← hbuc, ← hstu] at hsame
  by_cases hwaits : (s.buc.get n).loadWait.map LoadWait.slot = some k
  · obtain ⟨w, hw, hk⟩ := Option.map_eq_some_iff.1 hwaits
    obtain ⟨hdone, hkept, hnsqs, hframe⟩ :=
      completeStep_completes s (t.modBuc n fun b => { b with loadWait := none }) n .frameLoad .pass .none
        ⟨w.w11, s.timebase, 0, 0, 0⟩ [] hnsq (by rw [List.append_nil]; exact hsent)
    have htime : t.timebase = s.timebase := congrArg (·.timebase) hsame
    rw [passLoad_waiting ((congrArg Bus.loadWait hget).trans hw) hk, htime]
    generalize (t.modBuc n fun b => { b with loadWait := none }).completeStep n .frameLoad .pass .none
        ⟨w.w11, s.timebase, 0, 0, 0⟩ = p at hdone hkept hnsqs hframe ⊢
    have hpmem : p.mem = t.mem := congrArg (·.mem) hframe
    have hpstu : p.stu = t.stu := congrArg (·.stu) hframe
    have hpbuc : p.buc = t.buc.modify n fun b => { b with loadWait := none } := congrArg (·.buc) hframe
    have hpsame : p = { s with buc := p.buc, stu := p.stu, nsq := p.nsq, mem := p.mem, sent := p.sent } := by
      rw [hpbuc, hpstu, hpmem]
      exact hframe.trans (congrArg (fun u : Part => { u with
        buc := t.buc.modify n fun b => { b with loadWait := none }, nsq := p.nsq, sent := p.sent }) hsame)
    refine ⟨?_, ?_, fun h => ?_, fun hp hl => hpmem.trans (hunstaged hp hl), fun v hv _ => ?_, fun h => absurd hwaits h,
      hkept, hstores.of_mem hpmem, nestOnly_bus hnsqs ?_ ?_ hpsame, hpsame⟩
    · rw [hpbuc, Bank.get_modify_same, hget, if_pos hwaits]; rfl
    · rw [hpstu, hlines]; rfl
    · rw [word, hpmem]; exact hshown h
    · rw [hw, Option.some.injEq] at hv
      exact hv ▸ hdone
    · rw [hpbuc]; exact hothers.trans (.modify n _ _)
    · rw [hpstu]; exact hstus
  · rw [passLoad_idle (by rwa [hget])]
    refine ⟨?_, hlines, hshown, hunstaged, fun w hw hk => absurd (by rw [hw, Option.map_some, hk]) hwaits,
      fun _ => ⟨hsent, hnsq⟩, by rw [SequencerKept, hnsq], hstores, ?_, ?_⟩
    · rw [hget, if_neg hwaits]; rfl
    · exact nestOnly_bus (by rw [hnsq]; exact .refl n _) hothers hstus (by rw [hnsq, hsent]; exact hsame)
    · rw [hnsq, hsent]; exact hsame

/-- The arbiter, in the terms of the claims (R100). -/
theorem arbitrate_arbitrates (n : NestId) (s : Part) : s.Arbitrates n (s.arbitrate n) := by
  refine ⟨fun k d hon htx hrx hk => ?_, fun h => ?_⟩
  · have hstart : s.arbitrate n = s.startTransmission n k d := by
      simp [arbitrate, hon, htx, hrx, Bus.oldestPending_chosen hk]
    rw [hstart]
    exact startTransmission_starts n k d s
  · unfold arbitrate
    dsimp only
    split
    · next hidle =>
      simp only [Bool.and_eq_true, Option.isNone_iff_eq_none] at hidle
      obtain ⟨⟨hon, htx⟩, hrx⟩ := hidle
      rw [Bus.oldestPending_none (by simpa [hon, htx, hrx] using h)]
    · rfl

end Part
end Sys2Proof.Machine
end

section
/-! One frame slot as the operations on it see it, and a controller beside the same one with another transmission. -/

namespace Sys2Proof.Machine

/-- In a fold over a list without repetition, what one step alone changes is changed once. -/
theorem foldl_view {α β γ : Type} [DecidableEq α] {f : β → α → β} {view : β → γ} {F : γ → γ} {l : List α} {k : α}
    (hl : l.Nodup) (hstep : ∀ t j, view (f t j) = if j = k then F (view t) else view t) (s : β) :
    view (l.foldl f s) = if k ∈ l then F (view s) else view s := by
  have hothers {t : β} {j : α} (hj : j ≠ k) : view (f t j) = view t := (hstep t j).trans (if_neg hj)
  have hhere (t : β) : view (f t k) = F (view t) := (hstep t k).trans (if_pos rfl)
  split
  · next hk =>
    exact foldl_once (P := fun t => view t = view s) (Q := fun t => view t = F (view s)) hl hk rfl
      (fun t ht j _ hj => (hothers hj).trans ht) (fun t ht => (hhere t).trans (congrArg F ht))
      fun t ht j _ hj => (hothers hj).trans ht
  · next hk =>
    exact List.foldlRecOn (motive := fun t => view t = view s) l f rfl fun t ht j hj =>
      (hothers fun e => hk (e ▸ hj)).trans ht

/-- A frame slot, the words of its entry in the frame table, and the time. -/
structure SlotView where
  slot : FrameSlot
  words : Fin 8 → W32
  now : Nat

namespace SlotView

/-- w6 written (R104). -/
def shown (v : SlotView) : SlotView := { v with words := Function.update v.words 6 v.slot.statusWord }

/-- w7 written (R104). -/
def nacksShown (v : SlotView) : SlotView := { v with words := Function.update v.words 7 (place v.slot.nack 0) }

theorem shown_word (v : SlotView) : v.shown.words 6 = v.slot.statusWord := by
  simp [shown]

theorem nacksShown_words (v : SlotView) :
    v.nacksShown.words 7 = place v.slot.nack 0 ∧ v.nacksShown.words 6 = v.words 6 := by
  simp [nacksShown]

end SlotView

namespace Part

variable {n : NestId} {k j : Fin 16} {s t : Part}

def view (n : NestId) (k : Fin 16) (s : Part) : SlotView := ⟨s.slot n k, fun i => s.word (frameAt n k i), s.now⟩

theorem view_modSlot (n : NestId) (j k : Fin 16) (f : FrameSlot → FrameSlot) (s : Part) :
    (s.modSlot n j f).view n k = if j = k then { s.view n k with slot := f (s.view n k).slot } else s.view n k := by
  unfold view slot modSlot
  rw [modBuc_buc, Bank.get_modify_same, Bank.get_modify]
  split <;> rfl

theorem view_modBuc (n : NestId) (k : Fin 16) (f : Bus → Bus) (s : Part) :
    (s.modBuc n f).view n k = { s.view n k with slot := (f (s.buc.get n)).slots.get k } := by
  unfold view slot
  rw [modBuc_buc, Bank.get_modify_same]
  rfl

/-- A word of the slot's entry written. -/
theorem view_put_entry (n : NestId) (k : Fin 16) (i : Fin 8) (x : W32) (s : Part) :
    (s.put (frameAt n k i) x).view n k = { s.view n k with words := Function.update (s.view n k).words i x } := by
  have hword (l : Fin 8) : (s.put (frameAt n k i) x).word (frameAt n k l) =
      Function.update (s.view n k).words i x l := by
    rw [put_word, Function.update_apply]
    simp only [frameAt_eq_iff i.isLt l.isLt, true_and, Fin.val_inj, eq_comm (a := i)]
    rfl
  unfold view
  simp only [hword]
  rfl

theorem view_put_other {i : Nat} (hi : ∀ l : Fin 8, i ≠ frameAt n k l) (x : W32) (s : Part) :
    (s.put i x).view n k = s.view n k := by
  have hword (l : Fin 8) : (s.put i x).word (frameAt n k l) = s.word (frameAt n k l) := put_word_other _ _ (hi l)
  unfold view
  simp only [hword]
  rfl

theorem view_writeSlotStatus (n : NestId) (j k : Fin 16) (s : Part) :
    (s.writeSlotStatus n j).view n k = if j = k then (s.view n k).shown else s.view n k := by
  split
  · next h => subst h; exact view_put_entry n j 6 _ s
  · next h => exact view_put_other (fun l e => h ((frameAt_eq_iff (by decide) l.isLt).1 e).1) _ s

theorem view_writeSlotNacks (n : NestId) (j k : Fin 16) (s : Part) :
    (s.writeSlotNacks n j).view n k = if j = k then (s.view n k).nacksShown else s.view n k := by
  split
  · next h => subst h; exact view_put_entry n j 7 _ s
  · next h => exact view_put_other (fun l e => h ((frameAt_eq_iff (by decide) l.isLt).1 e).1) _ s

theorem view_track (f : Part → Part) (s : Part) : (s.track n f).view n k = (f s).view n k := by
  rcases s.track_eq n f with ⟨e, -⟩ | ⟨e, -⟩ <;> rw [e]
  exact view_put_other (fun l => (nestAt_ne_frameAt n n k l (by decide)).symm) _ _

/-! ### A controller beside the same one with another transmission -/

/-- Part `t` is part `s` but for the transmission in progress on nest `n`. -/
def TxApart (n : NestId) (s t : Part) : Prop := ∃ x, t = s.withTx n x

namespace TxApart

variable (h : TxApart n s t)

theorem foldl {α : Type} {f : Part → α → Part} (l : List α) (h : TxApart n s t)
    (hf : ∀ s t x, TxApart n s t → TxApart n (f s x) (f t x)) : TxApart n (l.foldl f s) (l.foldl f t) := by
  induction l generalizing s t with
  | nil => exact h
  | cons x l ih => exact ih (hf s t x h)

include h

theorem slot (k : Fin 16) : t.slot n k = s.slot n k := by
  obtain ⟨x, rfl⟩ := h
  simp [Part.slot, withTx]

theorem slots : (t.buc.get n).slots = (s.buc.get n).slots := by
  obtain ⟨x, rfl⟩ := h
  simp [withTx]

theorem mute : (t.buc.get n).mute = (s.buc.get n).mute := by
  obtain ⟨x, rfl⟩ := h
  simp [withTx]

theorem word (i : Nat) : t.word i = s.word i := by
  obtain ⟨x, rfl⟩ := h
  rfl

theorem now : t.now = s.now := by
  obtain ⟨x, rfl⟩ := h
  rfl

theorem modBuc {f : Bus → Bus} (hf : ∀ b x, ∃ y, f { b with tx := x } = { f b with tx := y }) :
    TxApart n (s.modBuc n f) (t.modBuc n f) := by
  obtain ⟨x, rfl⟩ := h
  obtain ⟨y, hy⟩ := hf (s.buc.get n) x
  refine ⟨y, ?_⟩
  simp only [withTx, Part.modBuc, Bank.modify, Bank.get_put_same, Bank.put_put, hy]

theorem put (i : Nat) (v : W32) : TxApart n (s.put i v) (t.put i v) := by
  obtain ⟨x, rfl⟩ := h
  exact ⟨x, rfl⟩

theorem modSlot (k : Fin 16) (f : FrameSlot → FrameSlot) : TxApart n (s.modSlot n k f) (t.modSlot n k f) :=
  h.modBuc fun _ x => ⟨x, rfl⟩

theorem writeSlotStatus (k : Fin 16) : TxApart n (s.writeSlotStatus n k) (t.writeSlotStatus n k) := by
  unfold Part.writeSlotStatus
  rw [h.slot]
  exact h.put _ _

theorem writeSlotNacks (k : Fin 16) : TxApart n (s.writeSlotNacks n k) (t.writeSlotNacks n k) := by
  unfold Part.writeSlotNacks
  rw [h.slot]
  exact h.put _ _

theorem nestStateWord : t.nestStateWord n = s.nestStateWord n := by
  obtain ⟨x, rfl⟩ := h
  simp [Part.nestStateWord, withTx]

theorem track {f : Part → Part} (hf : TxApart n (f s) (f t)) : TxApart n (s.track n f) (t.track n f) := by
  unfold Part.track
  dsimp only
  rw [h.nestStateWord, hf.nestStateWord]
  split
  · exact hf
  · exact hf.put _ _

/-- Beside a part with a transmission in progress, on which the arbiter starts nothing, the arbiter has run on a part with
none. -/
theorem arbitrates (hs : (s.buc.get n).tx = none) (ht : (t.buc.get n).tx.isSome) :
    ((t.arbitrate n).withTx n none).Arbitrates n (s.arbitrate n) := by
  have hbusy : t.arbitrate n = t := (arbitrate_arbitrates n t).2 (.inr (.inl ht))
  have hback : t.withTx n none = s := by
    obtain ⟨x, rfl⟩ := h
    have hkept : s.buc.put n { s.buc.get n with tx := none } = s.buc := by rw [← hs]; exact Bank.put_get _ _
    simp only [withTx, Bank.get_put_same, Bank.put_put, hkept]
  rw [hbusy, hback]
  exact arbitrate_arbitrates n s

end TxApart

/-! ### The status words of some slots written -/

/-- w6 written of every slot of which `c` holds. -/
def showSlots (n : NestId) (c : Fin 16 → Prop) [DecidablePred c] (s : Part) : Part :=
  (List.finRange 16).foldl (fun s k => if c k then s.writeSlotStatus n k else s) s

variable {c : Fin 16 → Prop} [DecidablePred c] {words : List Nat}

theorem showSlots_view (n : NestId) (c : Fin 16 → Prop) [DecidablePred c] (k : Fin 16) (s : Part) :
    (s.showSlots n c).view n k = if c k then (s.view n k).shown else s.view n k := by
  have hstep (t : Part) (j : Fin 16) : (if c j then t.writeSlotStatus n j else t).view n k =
      if j = k then (if c k then (t.view n k).shown else t.view n k) else t.view n k := by
    by_cases hj : j = k
    · subst hj; split <;> simp [view_writeSlotStatus]
    · split <;> simp [view_writeSlotStatus, hj]
  exact (foldl_view (F := fun v => if c k then v.shown else v) (List.nodup_finRange 16) hstep s).trans
    (if_pos (List.mem_finRange k))

theorem showSlots_atBus (hw : ∀ k, c k → frameAt n k 6 ∈ words) (s : Part) :
    AtBus n words s (s.showSlots n c) :=
  AtBus.refl.foldl fun _ _ k _ => .ite (fun hc => AtBus.refl.put (hw k hc)) fun _ => .refl

theorem showSlots_buc (n : NestId) (c : Fin 16 → Prop) [DecidablePred c] (s : Part) : (s.showSlots n c).buc = s.buc :=
  List.foldlRecOn (motive := fun t : Part => t.buc = s.buc) _ _ rfl fun t ht k _ => by
    split
    exacts [ht, ht]

theorem TxApart.showSlots (h : TxApart n s t) (c : Fin 16 → Prop) [DecidablePred c] :
    TxApart n (s.showSlots n c) (t.showSlots n c) :=
  TxApart.foldl _ h fun s t k h => by
    split
    exacts [h.writeSlotStatus k, h]

end Part

end Sys2Proof.Machine
end

section
/-! FRAME_RUN in its stages: slots stopped, MUTE cleared, slots started, and those with a phase of 0 falling due. -/

namespace Sys2Proof.Machine

theorem mem_slotsOf {mask : W16} {k : Fin 16} : k ∈ slotsOf mask ↔ mask.getLsbD k.val = true := by
  simp [slotsOf, List.mem_finRange]

theorem nodup_slotsOf (mask : W16) : (slotsOf mask).Nodup := (List.nodup_finRange 16).filter _

theorem slotBit_getLsbD : ∀ i j : Fin 16, (1#16 <<< i.val).getLsbD j.val = decide (i = j) := by decide

/-- One bit for each RUNNING slot. -/
theorem Bus.runningMask_getLsbD (b : Bus) (k : Fin 16) :
    b.runningMask.getLsbD k.val = decide ((b.slots.get k).state = .running) := by
  have hstep (m : W16) (j : Fin 16) :
      (if (b.slots.get j).state = .running then m ||| 1#16 <<< j.val else m).getLsbD k.val =
        if j = k then (m.getLsbD k.val || decide ((b.slots.get k).state = .running)) else m.getLsbD k.val := by
    by_cases hj : j = k
    · subst hj
      split
      · next h => rw [BitVec.getLsbD_or, slotBit_getLsbD]; simp [h]
      · next h => simp [h]
    · rw [if_neg hj]
      split
      · rw [BitVec.getLsbD_or, slotBit_getLsbD]; simp [hj]
      · rfl
  have h := foldl_view (view := fun m : W16 => m.getLsbD k.val)
    (F := fun x => x || decide ((b.slots.get k).state = .running)) (List.nodup_finRange 16) hstep 0
  exact (h.trans (if_pos (List.mem_finRange k))).trans (by simp)

/-! ### Slots as the stages leave them -/

/-- A slot of the stop mask (R97). -/
def FrameSlot.halt (f : FrameSlot) : FrameSlot :=
  { f with state := .stopped, pendingDue := none, due := none, stagedPayload := none, stagedLines := none }

/-- A controller on which a FRAME_RUN stops slot `k`, also while it is sending (R97). -/
def Bus.haltSlot (k : Fin 16) (b : Bus) : Bus :=
  { b with
    slots := b.slots.modify k FrameSlot.halt
    tx := b.tx.map fun t => if t.slot = k then { t with stopped := true } else t }

/-- A controller on which a FRAME_RUN clears MUTE (R97). -/
def Bus.unmuted (b : Bus) : Bus :=
  { b with
    mute := false, nacks := 0
    slots := Bank.build fun k =>
      if (b.slots.get k).state = .muted then { b.slots.get k with state := .stopped } else b.slots.get k }

namespace SlotView

def halted (v : SlotView) : SlotView :=
  if v.slot.state = .stopped then v else { v with slot := v.slot.halt }.shown

/-- A slot where MUTE is cleared (R97). -/
def unmuted (v : SlotView) : SlotView :=
  if v.slot.state = .muted then { v with slot := { v.slot with state := .stopped } }.shown else v

/-- The definition in the slot's entry (R96). -/
def frameDef (v : SlotView) : FrameDef :=
  let extended := bitAt (v.words 0) 31
  { extended := extended, ident := identOf extended (field (v.words 0) 0 29), length := frameLength (field (v.words 1) 0 4)
    periodMs := (field (v.words 1) 16 16).toNat, phaseMs := (field (v.words 2) 0 16).toNat }

/-- A slot that is started (R96, R98). -/
def started (v : SlotView) : FrameSlot :=
  { state := .running, frameDef := some v.frameDef
    payload := if v.slot.preload then v.slot.payload else payloadOf (v.words 3) (v.words 4)
    preload := false, due := some (v.now + 1000 * v.frameDef.phaseMs), pendingDue := none, stagedPayload := none
    stagedLines := none, sent := 0, nack := 0 }

def begun (v : SlotView) : SlotView := { v with slot := v.started }.shown.nacksShown

theorem begun_words (v : SlotView) : v.begun.words 6 = 1 ∧ v.begun.words 7 = 0 := by
  obtain ⟨h7, h6⟩ := nacksShown_words { v with slot := v.started }.shown
  rw [begun, h7, h6, shown_word]
  exact ⟨by simp [FrameSlot.statusWord, started, slotStateCode, flag, place], by simp [started, shown, place]⟩

end SlotView

namespace Part

variable {n : NestId} {j k : Fin 16} {s t : Part} {st : Step} {words : List Nat} {start stop : W16}

/-! ### Which slots a FRAME_RUN reaches -/

/-- A slot of the stop mask that is not STOPPED (R97). -/
def halts (s : Part) (n : NestId) (stop : W16) (k : Fin 16) : Bool :=
  stop.getLsbD k.val && decide ((s.slot n k).state ≠ .stopped)

/-- MUTE is cleared (R97). -/
def unmutes (s : Part) (n : NestId) (start : W16) : Bool := decide (start ≠ 0) && (s.buc.get n).mute

/-- A slot that the end of MUTE makes STOPPED (R97). -/
def unmutesSlot (s : Part) (n : NestId) (start : W16) (k : Fin 16) : Bool :=
  s.unmutes n start && decide ((s.slot n k).state = .muted)

/-- A slot that a FRAME_RUN starts (R97). -/
def startsSlot (s : Part) (n : NestId) (start stop : W16) (k : Fin 16) : Bool :=
  start.getLsbD k.val && (decide ((s.slot n k).state = .stopped) || s.halts n stop k || s.unmutesSlot n start k)

/-! ### The stop mask -/

theorem stopSlot_stopped (h : (s.slot n k).state = .stopped) : s.stopSlot n k = s := if_pos h

theorem stopSlot_other (h : (s.slot n k).state ≠ .stopped) :
    s.stopSlot n k = (s.modBuc n (Bus.haltSlot k)).writeSlotStatus n k := by
  rw [stopSlot, if_neg h]
  refine congrArg (writeSlotStatus n k) ?_
  simp only [modSlot, modBuc, Bank.modify_modify]
  rfl

theorem stopSlot_view (n : NestId) (j k : Fin 16) (s : Part) :
    (s.stopSlot n j).view n k = if j = k then (s.view n k).halted else s.view n k := by
  by_cases hs : (s.slot n j).state = .stopped
  · rw [stopSlot_stopped hs]
    split
    · next hj => subst hj; exact (if_pos hs).symm
    · rfl
  · have hslot : ((s.buc.get n).haltSlot j).slots.get k = if j = k then (s.slot n k).halt else s.slot n k :=
      Bank.get_modify ..
    rw [stopSlot_other hs, view_writeSlotStatus, view_modBuc, hslot]
    split
    · next hj => subst hj; exact (if_neg hs).symm
    · rfl

/-- The slots of a stop mask stopped (R97). -/
def haltSlots (n : NestId) (stop : W16) (s : Part) : Part := (slotsOf stop).foldl (fun s k => s.stopSlot n k) s

theorem haltSlots_view (n : NestId) (stop : W16) (k : Fin 16) (s : Part) : (s.haltSlots n stop).view n k =
    if s.halts n stop k then { s.view n k with slot := (s.slot n k).halt }.shown else s.view n k := by
  refine (foldl_view (nodup_slotsOf stop) (fun t j => stopSlot_view n j k t) s).trans ?_
  by_cases hk : stop.getLsbD k.val = true
  · rw [if_pos (mem_slotsOf.2 hk), halts, hk, Bool.true_and]
    by_cases hs : (s.slot n k).state = .stopped
    · rw [SlotView.halted, if_pos (show (s.view n k).slot.state = .stopped from hs), if_neg (by simp [hs])]
    · rw [SlotView.halted, if_neg (show ¬ (s.view n k).slot.state = .stopped from hs), if_pos (by simp [hs])]
      rfl
  · rw [if_neg (mt mem_slotsOf.1 hk), halts, Bool.eq_false_iff.2 hk]
    rfl

/-- Stopping a slot touches the slots and the mark of a transmission in progress (R97). -/
theorem stopSlot_buc (n : NestId) (k : Fin 16) (s : Part) : (s.stopSlot n k).buc.get n =
    { s.buc.get n with
      slots := ((s.stopSlot n k).buc.get n).slots
      tx := (s.buc.get n).tx.map fun t =>
        if t.slot = k ∧ (s.slot n k).state ≠ .stopped then { t with stopped := true } else t } := by
  by_cases hs : (s.slot n k).state = .stopped
  · rw [stopSlot_stopped hs]
    simp [hs]
  · rw [stopSlot_other hs]
    simp [hs, writeSlotStatus, Bus.haltSlot]

theorem stopSlot_state (n : NestId) (j k : Fin 16) (s : Part) :
    ((s.stopSlot n j).slot n k).state = if j = k then .stopped else (s.slot n k).state := by
  refine (congrArg (fun v : SlotView => v.slot.state) (stopSlot_view n j k s)).trans ?_
  split
  · unfold SlotView.halted
    split
    · next hs => exact hs
    · rfl
  · rfl

theorem foldl_stopSlot_buc (n : NestId) (l : List (Fin 16)) (s : Part) :
    (l.foldl (fun s k => s.stopSlot n k) s).buc.get n =
      { s.buc.get n with
        slots := ((l.foldl (fun s k => s.stopSlot n k) s).buc.get n).slots
        tx := (s.buc.get n).tx.map fun t =>
          if t.slot ∈ l ∧ (s.slot n t.slot).state ≠ .stopped then { t with stopped := true } else t } := by
  induction l generalizing s with
  | nil => simp
  | cons k l ih =>
    have hmarks (t : Transmission) :
        (let u := if t.slot = k ∧ (s.slot n k).state ≠ .stopped then { t with stopped := true } else t
          if u.slot ∈ l ∧ ((s.stopSlot n k).slot n u.slot).state ≠ .stopped then { u with stopped := true } else u) =
        if t.slot ∈ k :: l ∧ (s.slot n t.slot).state ≠ .stopped then { t with stopped := true } else t := by
      by_cases hk : t.slot = k
      · by_cases hs : (s.slot n k).state = .stopped <;> simp [hk, hs, stopSlot_state]
      · simp [hk, Ne.symm hk, stopSlot_state]
    rw [List.foldl_cons, ih, stopSlot_buc, Option.map_map]
    simp only [← hmarks]
    rfl

/-- The stop mask touches the slots and the mark of a transmission in progress (R97). -/
theorem haltSlots_buc (n : NestId) (stop : W16) (s : Part) : (s.haltSlots n stop).buc.get n =
    { s.buc.get n with
      slots := ((s.haltSlots n stop).buc.get n).slots
      tx := (s.buc.get n).tx.map fun t =>
        if s.halts n stop t.slot then { t with stopped := true } else t } := by
  refine (foldl_stopSlot_buc n (slotsOf stop) s).trans ?_
  simp only [mem_slotsOf, halts, Bool.and_eq_true, decide_eq_true_eq]
  rfl

theorem haltSlots_atBus (hw : ∀ k, s.halts n stop k = true → frameAt n k 6 ∈ words) :
    AtBus n words s (s.haltSlots n stop) := by
  have hfold := List.foldlRecOn
    (motive := fun t : Part => AtBus n words s t ∧ ∀ k, (t.slot n k).state ≠ .stopped → (s.slot n k).state ≠ .stopped)
    (slotsOf stop) (fun s k => s.stopSlot n k) ⟨AtBus.refl, fun _ => id⟩ fun t ⟨hat, hrun⟩ k hk => by
      refine ⟨hat.trans (.ite (fun _ => .refl) fun hs => ?_), fun j hj => hrun j ?_⟩
      · exact AtBus.refl.modBuc.modBuc.put (hw k (by simp [halts, mem_slotsOf.1 hk, hrun k hs]))
      · rw [stopSlot_state] at hj
        split at hj
        · exact absurd rfl hj
        · exact hj
  exact hfold.1

theorem TxApart.haltSlots (h : TxApart n s t) (stop : W16) : TxApart n (s.haltSlots n stop) (t.haltSlots n stop) :=
  TxApart.foldl _ h fun s t k h => by
    unfold stopSlot
    rw [h.slot]
    split
    · exact h
    · exact ((h.modSlot k _).modBuc fun b x => ⟨_, rfl⟩).writeSlotStatus k

/-! ### MUTE cleared -/

theorem clearMute_muted (hm : (s.buc.get n).mute = true) : s.clearMute n =
    (s.track n fun t => t.modBuc n Bus.unmuted).showSlots n fun k => (s.slot n k).state = .muted := by
  rw [clearMute, if_pos hm]
  rfl

theorem clearMute_other (hm : (s.buc.get n).mute = false) : s.clearMute n = s := if_neg (by simp [hm])

theorem clearMute_view (n : NestId) (k : Fin 16) (s : Part) : (s.clearMute n).view n k =
    if (s.buc.get n).mute then (s.view n k).unmuted else s.view n k := by
  split
  · next hm =>
    have hslot : (s.buc.get n).unmuted.slots.get k =
        if (s.slot n k).state = .muted then { s.slot n k with state := .stopped } else s.slot n k := Bank.get_build ..
    rw [clearMute_muted hm, showSlots_view, view_track, view_modBuc, hslot]
    unfold SlotView.unmuted
    split
    · next hs => exact (if_pos hs).symm
    · next hs => exact (if_neg hs).symm
  · next hm => rw [clearMute_other (by simpa using hm)]

theorem clearMute_buc (n : NestId) (s : Part) : (s.clearMute n).buc.get n =
    { s.buc.get n with
      slots := ((s.clearMute n).buc.get n).slots, mute := false
      nacks := if (s.buc.get n).mute then 0 else (s.buc.get n).nacks } := by
  cases hm : (s.buc.get n).mute with
  | true =>
    rw [clearMute_muted hm, showSlots_buc, track_buc]
    simp [Bus.unmuted]
  | false =>
    rw [clearMute_other hm]
    show _ = { s.buc.get n with mute := false }
    rw [← hm]

/-- A MUTE that is cleared is shown cleared. -/
theorem clearMute_shows (hm : (s.buc.get n).mute = true) : (s.clearMute n).Shows n := by
  have hshown : (s.track n fun t => t.modBuc n Bus.unmuted).Shows n := track_shows_mute (by simp [Bus.unmuted, hm])
  rw [clearMute_muted hm]
  refine hshown.atBus (showSlots_atBus (words := (List.finRange 16).map fun k => frameAt n k 6) (fun k _ => ?_) _)
    (by rw [showSlots_buc]) (by simp)
  exact List.mem_map.2 ⟨k, List.mem_finRange k, rfl⟩

theorem clearMute_atBus (h7 : (s.buc.get n).mute = true → nestAt n 7 ∈ words)
    (hw : (s.buc.get n).mute = true → ∀ k, (s.slot n k).state = .muted → frameAt n k 6 ∈ words) :
    AtBus n words s (s.clearMute n) := by
  cases hm : (s.buc.get n).mute with
  | true =>
    rw [clearMute_muted hm]
    exact (AtBus.refl.modBuc.track (h7 hm)).trans (showSlots_atBus (hw hm) _)
  | false =>
    rw [clearMute_other hm]
    exact .refl

theorem TxApart.clearMute (h : TxApart n s t) : TxApart n (s.clearMute n) (t.clearMute n) := by
  cases hm : (s.buc.get n).mute with
  | true =>
    rw [clearMute_muted hm, clearMute_muted (h.mute.trans hm)]
    simp only [h.slot]
    exact (h.track (h.modBuc fun b x => ⟨x, rfl⟩)).showSlots _
  | false => rwa [clearMute_other hm, clearMute_other (h.mute.trans hm)]

/-! ### The start mask -/

theorem startSlot_eq (n : NestId) (k : Fin 16) (s : Part) : s.startSlot n k =
    ((s.modSlot n k fun _ => (s.view n k).started).writeSlotStatus n k).writeSlotNacks n k := rfl

theorem startSlot_view (n : NestId) (j k : Fin 16) (s : Part) :
    (s.startSlot n j).view n k = if j = k then (s.view n k).begun else s.view n k := by
  rw [startSlot_eq, view_writeSlotNacks, view_writeSlotStatus, view_modSlot]
  split
  · next hj => subst hj; rfl
  · rfl

theorem startSlot_buc (n : NestId) (k : Fin 16) (s : Part) : (s.startSlot n k).buc.get n =
    { s.buc.get n with slots := ((s.startSlot n k).buc.get n).slots } := by
  rw [startSlot_eq]
  simp [writeSlotStatus, writeSlotNacks, modSlot]

/-- The slots of a list started (R98). -/
def startSlots (n : NestId) (l : List (Fin 16)) (s : Part) : Part := l.foldl (fun s k => s.startSlot n k) s

variable {l : List (Fin 16)}

theorem startSlots_view (hl : l.Nodup) (n : NestId) (k : Fin 16) (s : Part) :
    (s.startSlots n l).view n k = if k ∈ l then (s.view n k).begun else s.view n k :=
  foldl_view hl (fun t j => startSlot_view n j k t) s

theorem startSlots_buc (n : NestId) (l : List (Fin 16)) (s : Part) : (s.startSlots n l).buc.get n =
    { s.buc.get n with slots := ((s.startSlots n l).buc.get n).slots } :=
  List.foldlRecOn (motive := fun t : Part => t.buc.get n = { s.buc.get n with slots := (t.buc.get n).slots }) l _ rfl
    fun t ht k _ => by rw [startSlot_buc, ht]

theorem startSlots_atBus (hw : ∀ k ∈ l, frameAt n k 6 ∈ words ∧ frameAt n k 7 ∈ words) (s : Part) :
    AtBus n words s (s.startSlots n l) :=
  AtBus.refl.foldl fun _ _ k hk => (AtBus.refl.modBuc.put (hw k hk).1).put (hw k hk).2

theorem TxApart.view (h : TxApart n s t) (k : Fin 16) : t.view n k = s.view n k := by
  simp only [Part.view, h.slot, h.word, h.now]

theorem TxApart.startSlots (h : TxApart n s t) (l : List (Fin 16)) : TxApart n (s.startSlots n l) (t.startSlots n l) :=
  TxApart.foldl _ h fun s t k h => by
    rw [startSlot_eq, startSlot_eq, h.view]
    exact ((h.modSlot k _).writeSlotStatus k).writeSlotNacks k

/-! ### Slots that fall due at the hand-off -/

/-- The slots of a list due now fall due (R98). -/
def fallNow (n : NestId) (l : List (Fin 16)) (s : Part) : Part :=
  s.modBuc n fun b =>
    { b with slots := Bank.build fun k => if k ∈ l then (b.slots.get k).fallDue s.now else b.slots.get k }

/-- The slots of a list that are due now. -/
def dueNow (n : NestId) (l : List (Fin 16)) (s : Part) : List (Fin 16) := l.filter fun k => (s.slot n k).due = some s.now

theorem fallNow_nil (n : NestId) (s : Part) : s.fallNow n [] = s := by
  have hslots : (Bank.build fun k => (s.buc.get n).slots.get k) = (s.buc.get n).slots := Bank.ext_get fun k => by simp
  have hbuc : s.buc.modify n (fun b =>
      { b with slots := Bank.build fun k => if k ∈ [] then (b.slots.get k).fallDue s.now else b.slots.get k }) = s.buc :=
    Bank.modify_self (by simp [hslots])
  unfold fallNow modBuc
  rw [hbuc]

theorem fallDueAtStart_eq (n : NestId) (l : List (Fin 16)) (s : Part) : s.fallDueAtStart n l =
    if s.dueNow n l = [] then s.fallNow n (s.dueNow n l) else (s.fallNow n (s.dueNow n l)).arbitrate n := by
  split
  · next h =>
    rw [h, fallNow_nil, fallDueAtStart]
    exact if_pos (List.isEmpty_iff.2 h)
  · next h => exact if_neg fun e => h (List.isEmpty_iff.1 e)

theorem fallNow_view (n : NestId) (l : List (Fin 16)) (k : Fin 16) (s : Part) : (s.fallNow n l).view n k =
    { s.view n k with slot := if k ∈ l then (s.slot n k).fallDue s.now else s.slot n k } := by
  rw [fallNow, view_modBuc, Bank.get_build]
  rfl

theorem TxApart.fallNow (h : TxApart n s t) (l : List (Fin 16)) : TxApart n (s.fallNow n l) (t.fallNow n l) := by
  unfold Part.fallNow
  rw [h.now]
  exact h.modBuc fun b x => ⟨x, rfl⟩

/-! ### FRAME_RUN in its stages -/

/-- The slots of the stop mask stopped, and MUTE cleared where the start mask names any slot (R97). -/
def readied (n : NestId) (start stop : W16) (s : Part) : Part :=
  if start = 0 then s.haltSlots n stop else (s.haltSlots n stop).clearMute n

/-- The slots that a FRAME_RUN starts (R97). -/
def startList (n : NestId) (start stop : W16) (s : Part) : List (Fin 16) :=
  ((s.readied n start stop).buc.get n).toStart start

/-- The slots of both masks stopped and started (R97, R98). -/
def restarted (n : NestId) (start stop : W16) (s : Part) : Part :=
  (s.readied n start stop).startSlots n (s.startList n start stop)

/-- The slots of a FRAME_RUN that are due at its hand-off. -/
def dueList (n : NestId) (start stop : W16) (s : Part) : List (Fin 16) :=
  (s.restarted n start stop).dueNow n (s.startList n start stop)

/-- A FRAME_RUN up to the arbiter. -/
def frameRun (n : NestId) (start stop : W16) (s : Part) : Part :=
  (s.restarted n start stop).fallNow n (s.dueList n start stop)

theorem handFrameRun_eq (hp : s.powered n = true) (st : Step) :
    let start : W16 := field (st.w 2) 0 16
    let stop : W16 := field (st.w 2) 16 16
    s.handFrameRun n st =
      (if s.dueList n start stop = [] then s.frameRun n start stop else (s.frameRun n start stop).arbitrate n,
        .pass { Results.zero with w11 := place ((s.restarted n start stop).buc.get n).runningMask 0 }) := by
  intro start stop
  unfold handFrameRun
  dsimp only
  rw [if_neg (by simp [hp])]
  exact congrArg (·, _) (fallDueAtStart_eq n (s.startList n start stop) (s.restarted n start stop))

/-- The controller after the stop mask and the end of MUTE. -/
theorem readied_buc (n : NestId) (start stop : W16) (s : Part) : (s.readied n start stop).buc.get n =
    { s.buc.get n with
      slots := ((s.readied n start stop).buc.get n).slots, mute := (s.buc.get n).mute && !s.unmutes n start
      nacks := if s.unmutes n start then 0 else (s.buc.get n).nacks
      tx := (s.buc.get n).tx.map fun t => if s.halts n stop t.slot then { t with stopped := true } else t } := by
  have hhalt := haltSlots_buc n stop s
  unfold readied
  split
  · next h =>
    have hun : s.unmutes n start = false := by rw [unmutes, decide_eq_false (by simp [h]), Bool.false_and]
    rw [hhalt, hun, Bool.not_false, Bool.and_true]
    rfl
  · next h =>
    have hun : s.unmutes n start = (s.buc.get n).mute := by rw [unmutes, decide_eq_true h, Bool.true_and]
    have hmute : ((s.haltSlots n stop).buc.get n).mute = (s.buc.get n).mute := by rw [hhalt]
    rw [clearMute_buc, hmute, hhalt, hun, Bool.and_not_self]

theorem readied_view (n : NestId) (start stop : W16) (k : Fin 16) (s : Part) :
    (s.readied n start stop).view n k =
      if s.halts n stop k then { s.view n k with slot := (s.slot n k).halt }.shown
      else if s.unmutesSlot n start k then { s.view n k with slot := { s.slot n k with state := .stopped } }.shown
      else s.view n k := by
  have hhalt := haltSlots_view n stop k s
  unfold readied unmutesSlot
  split
  · next h =>
    have hun : s.unmutes n start = false := by rw [unmutes, decide_eq_false (by simp [h]), Bool.false_and]
    rw [hhalt, hun]
    rfl
  · next h =>
    have hun : s.unmutes n start = (s.buc.get n).mute := by rw [unmutes, decide_eq_true h, Bool.true_and]
    have hmute : ((s.haltSlots n stop).buc.get n).mute = (s.buc.get n).mute := by rw [haltSlots_buc]
    rw [clearMute_view, hmute, hhalt, hun]
    cases s.halts n stop k with
    | true => simp [SlotView.unmuted, SlotView.shown, FrameSlot.halt]
    | false =>
      cases (s.buc.get n).mute with
      | true =>
        by_cases hs : (s.slot n k).state = .muted
        · rw [decide_eq_true hs]
          exact if_pos hs
        · rw [decide_eq_false hs]
          exact if_neg hs
      | false => rfl

/-- The slots that are STOPPED when a FRAME_RUN starts those of its start mask. -/
theorem mem_startList : k ∈ s.startList n start stop ↔ s.startsSlot n start stop k = true := by
  have hstate : ((s.readied n start stop).slot n k).state = .stopped ↔
      ((s.slot n k).state = .stopped ∨ s.halts n stop k = true ∨ s.unmutesSlot n start k = true) := by
    have hview : ((s.readied n start stop).slot n k).state = if s.halts n stop k then .stopped
        else if s.unmutesSlot n start k then .stopped else (s.slot n k).state := by
      refine (congrArg (fun v : SlotView => v.slot.state) (readied_view n start stop k s)).trans ?_
      split
      · rfl
      · split <;> rfl
    rw [hview]
    cases s.halts n stop k <;> cases s.unmutesSlot n start k <;> simp
  simp only [startList, Bus.toStart, List.mem_filter, mem_slotsOf, decide_eq_true_eq, startsSlot, Bool.and_eq_true,
    Bool.or_eq_true, or_assoc]
  exact and_congr_right fun _ => hstate

theorem nodup_startList : (s.startList n start stop).Nodup := (nodup_slotsOf start).filter _

theorem restarted_view (n : NestId) (start stop : W16) (k : Fin 16) (s : Part) :
    (s.restarted n start stop).view n k =
      if s.startsSlot n start stop k then ((s.readied n start stop).view n k).begun
      else (s.readied n start stop).view n k := by
  refine (startSlots_view nodup_startList n k _).trans ?_
  simp only [mem_startList]

/-- A slot that is started, in the terms of what the FRAME_RUN found (R96). -/
theorem readied_started (n : NestId) (start stop : W16) (k : Fin 16) (s : Part) :
    ((s.readied n start stop).view n k).started = (s.view n k).started := by
  rw [readied_view]
  split
  · rfl
  · split <;> rfl

/-- The words that a FRAME_RUN writes (R97, R104). -/
def runWords (n : NestId) (start stop : W16) (s : Part) : List Nat :=
  (if s.unmutes n start then [nestAt n 7] else []) ++ (List.finRange 16).flatMap fun k =>
    if s.startsSlot n start stop k then [frameAt n k 6, frameAt n k 7]
    else if s.halts n stop k || s.unmutesSlot n start k then [frameAt n k 6] else []

theorem nestState_mem_runWords (h : s.unmutes n start = true) : nestAt n 7 ∈ s.runWords n start stop := by
  simp [runWords, h]

theorem started_mem_runWords (h : s.startsSlot n start stop k = true) :
    frameAt n k 6 ∈ s.runWords n start stop ∧ frameAt n k 7 ∈ s.runWords n start stop := by
  constructor <;> exact List.mem_append_right _ (List.mem_flatMap.2 ⟨k, List.mem_finRange k, by simp [h]⟩)

theorem stopped_mem_runWords (h : s.halts n stop k = true ∨ s.unmutesSlot n start k = true) :
    frameAt n k 6 ∈ s.runWords n start stop := by
  refine List.mem_append_right _ (List.mem_flatMap.2 ⟨k, List.mem_finRange k, ?_⟩)
  have h : (s.halts n stop k || s.unmutesSlot n start k) = true := by simpa using h
  rw [if_pos h]
  split <;> simp

theorem readied_atBus (n : NestId) (start stop : W16) (s : Part) :
    AtBus n (s.runWords n start stop) s (s.readied n start stop) := by
  have hhalt : AtBus n (s.runWords n start stop) s (s.haltSlots n stop) :=
    haltSlots_atBus fun k hk => stopped_mem_runWords (.inl hk)
  unfold readied
  split
  · exact hhalt
  · next h =>
    have hun (hm : ((s.haltSlots n stop).buc.get n).mute = true) : s.unmutes n start = true := by
      rw [haltSlots_buc] at hm
      rw [unmutes, decide_eq_true h, hm, Bool.true_and]
    refine hhalt.trans (clearMute_atBus (fun hm => nestState_mem_runWords (hun hm)) fun hm k hk => ?_)
    refine stopped_mem_runWords ?_
    have hview := (congrArg (fun v : SlotView => v.slot.state) (haltSlots_view n stop k s)).symm.trans hk
    cases hs : s.halts n stop k with
    | true => exact .inl rfl
    | false =>
      rw [hs] at hview
      exact .inr (by rw [unmutesSlot, hun hm, Bool.true_and]; exact decide_eq_true hview)

theorem restarted_atBus (n : NestId) (start stop : W16) (s : Part) :
    AtBus n (s.runWords n start stop) s (s.restarted n start stop) :=
  (readied_atBus n start stop s).trans (startSlots_atBus (fun _ hk => started_mem_runWords (mem_startList.1 hk)) _)

theorem frameRun_atBus (n : NestId) (start stop : W16) (s : Part) :
    AtBus n (s.runWords n start stop) s (s.frameRun n start stop) := (restarted_atBus n start stop s).modBuc

theorem frameRun_buc (n : NestId) (start stop : W16) (s : Part) : (s.frameRun n start stop).buc.get n =
    { s.buc.get n with
      slots := ((s.frameRun n start stop).buc.get n).slots, mute := (s.buc.get n).mute && !s.unmutes n start
      nacks := if s.unmutes n start then 0 else (s.buc.get n).nacks
      tx := (s.buc.get n).tx.map fun t => if s.halts n stop t.slot then { t with stopped := true } else t } := by
  have hfall : (s.frameRun n start stop).buc.get n =
      { (s.restarted n start stop).buc.get n with slots := ((s.frameRun n start stop).buc.get n).slots } := by
    simp [frameRun, fallNow]
  have hstart : (s.restarted n start stop).buc.get n =
      { (s.readied n start stop).buc.get n with slots := ((s.restarted n start stop).buc.get n).slots } :=
    startSlots_buc ..
  rw [hfall, hstart, readied_buc]

/-! ### What a FRAME_RUN makes of each slot -/

theorem restarted_slot (h : s.startsSlot n start stop k = true) :
    (s.restarted n start stop).slot n k = (s.view n k).started := by
  rw [← readied_started n start stop]
  exact congrArg SlotView.slot ((restarted_view n start stop k s).trans (if_pos h))

/-- The slots that fall due at the hand-off are those started with a phase of 0 (R98). -/
theorem mem_dueList : k ∈ s.dueList n start stop ↔
    s.startsSlot n start stop k = true ∧ (s.view n k).frameDef.phaseMs = 0 := by
  rw [dueList, dueNow, List.mem_filter, mem_startList, decide_eq_true_eq]
  refine and_congr_right fun hk => ?_
  have hnow : (s.view n k).now = (s.restarted n start stop).now := (restarted_atBus n start stop s).now.symm
  rw [restarted_slot hk, SlotView.started, Option.some.injEq, hnow]
  omega

/-- A slot as a FRAME_RUN leaves it (R97, R98). -/
def slotAfter (s : Part) (n : NestId) (start stop : W16) (k : Fin 16) : FrameSlot :=
  let f := s.slot n k
  let d := (s.view n k).frameDef
  if s.startsSlot n start stop k then
    { (s.view n k).started with
      due := if d.phaseMs ≠ 0 then some (s.now + 1000 * d.phaseMs)
        else if d.periodMs = 0 then none else some (s.now + 1000 * d.periodMs)
      pendingDue := if d.phaseMs = 0 then some s.now else none }
  else if s.halts n stop k then f.halt
  else if s.unmutesSlot n start k then { f with state := .stopped } else f

/-- A slot just started with a phase of 0 falls due at the hand-off (R98, R99). -/
theorem started_fallDue (h : (s.view n k).frameDef.phaseMs = 0) : (s.view n k).started.fallDue s.now =
    { (s.view n k).started with
      due := if (s.view n k).frameDef.periodMs = 0 then none else some (s.now + 1000 * (s.view n k).frameDef.periodMs)
      pendingDue := some s.now } := by
  have hdue : (s.view n k).started.state = .running ∧ (s.view n k).started.due = some s.now :=
    ⟨rfl, by rw [SlotView.started, h]; rfl⟩
  exact if_pos hdue

theorem slotAfter_eq (n : NestId) (start stop : W16) (k : Fin 16) (s : Part) : s.slotAfter n start stop k =
    if k ∈ s.dueList n start stop then ((s.restarted n start stop).slot n k).fallDue s.now
    else (s.restarted n start stop).slot n k := by
  unfold slotAfter
  split
  · next hs =>
    rw [restarted_slot hs]
    by_cases hp : (s.view n k).frameDef.phaseMs = 0
    · rw [if_pos (mem_dueList.2 ⟨hs, hp⟩), started_fallDue hp]
      simp [hp]
    · rw [if_neg fun h => hp (mem_dueList.1 h).2]
      dsimp only
      rw [if_pos hp, if_neg hp]
      rfl
  · next hs =>
    have hrest : (s.restarted n start stop).view n k = (s.readied n start stop).view n k :=
      (restarted_view n start stop k s).trans (if_neg hs)
    rw [if_neg fun h => hs (mem_dueList.1 h).1]
    refine Eq.trans ?_ (congrArg SlotView.slot (hrest.trans (readied_view n start stop k s))).symm
    split
    · rfl
    · split <;> rfl

theorem frameRun_view (n : NestId) (start stop : W16) (k : Fin 16) (s : Part) :
    (s.frameRun n start stop).view n k =
      { (s.restarted n start stop).view n k with slot := s.slotAfter n start stop k } := by
  rw [frameRun, fallNow_view, slotAfter_eq, (restarted_atBus n start stop s).now]

theorem frameRun_slot (n : NestId) (start stop : W16) (k : Fin 16) (s : Part) :
    (s.frameRun n start stop).slot n k = s.slotAfter n start stop k :=
  congrArg SlotView.slot (frameRun_view n start stop k s)

theorem frameRun_words (n : NestId) (start stop : W16) (k : Fin 16) (i : Fin 8) (s : Part) :
    (s.frameRun n start stop).word (frameAt n k i) = ((s.restarted n start stop).view n k).words i :=
  congrFun (congrArg SlotView.words (frameRun_view n start stop k s)) i

/-- A started slot is shown RUNNING with its counts cleared (R98). -/
theorem frameRun_started (h : s.startsSlot n start stop k = true) :
    (s.frameRun n start stop).word (frameAt n k 6) = 1 ∧ (s.frameRun n start stop).word (frameAt n k 7) = 0 := by
  have hview := (restarted_view n start stop k s).trans (if_pos h)
  obtain ⟨h6, h7⟩ := ((s.readied n start stop).view n k).begun_words
  rw [← hview] at h6 h7
  exact ⟨(frameRun_words n start stop k 6 s).trans h6, (frameRun_words n start stop k 7 s).trans h7⟩

theorem readied_shown (h : (s.halts n stop k || s.unmutesSlot n start k) = true) :
    ((s.readied n start stop).view n k).words 6 = ((s.readied n start stop).view n k).slot.statusWord := by
  rw [readied_view]
  split
  · exact SlotView.shown_word _
  · next hh =>
    rw [Bool.eq_false_iff.2 hh, Bool.false_or] at h
    rw [if_pos h]
    exact SlotView.shown_word _

/-- A slot that is stopped and not started is shown STOPPED (R97). -/
theorem frameRun_stopped (hs : s.startsSlot n start stop k = false)
    (h : (s.halts n stop k || s.unmutesSlot n start k) = true) :
    (s.frameRun n start stop).word (frameAt n k 6) = (s.slotAfter n start stop k).statusWord := by
  have hview : (s.restarted n start stop).view n k = (s.readied n start stop).view n k :=
    (restarted_view n start stop k s).trans (if_neg (by simp [hs]))
  have hdue : k ∉ s.dueList n start stop := fun hk => by
    rw [mem_dueList, hs] at hk
    exact Bool.noConfusion hk.1
  refine (frameRun_words n start stop k 6 s).trans ?_
  rw [slotAfter_eq, if_neg hdue, hview, readied_shown h, ← hview]
  rfl

/-! ### The running mask -/

theorem runningMask_congr {b c : Bus} (h : ∀ k, (b.slots.get k).state = (c.slots.get k).state) :
    b.runningMask = c.runningMask := by
  unfold Bus.runningMask
  simp only [h]

theorem frameRun_mask (n : NestId) (start stop : W16) (s : Part) :
    ((s.restarted n start stop).buc.get n).runningMask =
      { s.buc.get n with slots := Bank.build (s.slotAfter n start stop) : Bus }.runningMask := by
  refine runningMask_congr fun k => ?_
  have hstate (d : Nat) (f : FrameSlot) : (f.fallDue d).state = f.state := by
    unfold FrameSlot.fallDue
    split <;> rfl
  rw [Bank.get_build, slotAfter_eq]
  split
  · rw [hstate]; rfl
  · rfl

/-! ### Beside the same controller with another transmission -/

theorem TxApart.readied (h : TxApart n s t) (start stop : W16) :
    TxApart n (s.readied n start stop) (t.readied n start stop) := by
  unfold Part.readied
  split
  · exact h.haltSlots stop
  · exact (h.haltSlots stop).clearMute

theorem TxApart.startList (h : TxApart n s t) (start stop : W16) :
    t.startList n start stop = s.startList n start stop := by
  simp only [Part.startList, Bus.toStart, (h.readied start stop).slots]

theorem TxApart.restarted (h : TxApart n s t) (start stop : W16) :
    TxApart n (s.restarted n start stop) (t.restarted n start stop) := by
  unfold Part.restarted
  rw [h.startList]
  exact (h.readied start stop).startSlots _

theorem TxApart.dueList (h : TxApart n s t) (start stop : W16) : t.dueList n start stop = s.dueList n start stop := by
  simp only [Part.dueList, dueNow, h.startList, (h.restarted start stop).slot, (h.restarted start stop).now]

theorem TxApart.frameRun (h : TxApart n s t) (start stop : W16) :
    TxApart n (s.frameRun n start stop) (t.frameRun n start stop) := by
  unfold Part.frameRun
  rw [h.dueList]
  exact (h.restarted start stop).fallNow _

end Part
end Sys2Proof.Machine
end

section
/-! Slots that fall due, and FRAME_RUN as the claims state it. -/

namespace Sys2Proof.Machine

/-- An 11-bit identifier as the format takes it (R96). -/
theorem identOf_field (w : W32) (extended : Bool) : identOf extended (field w 0 29) =
    if extended then field w 0 29 else (field w 0 11 : BitVec 11).setWidth 29 := by
  cases extended with
  | true => rfl
  | false =>
    have hmask (i : Nat) : (0x7FF#29).getLsbD i = decide (i < 11) := by
      have : (0x7FF#29).toNat = 2 ^ 11 - 1 := rfl
      rw [BitVec.getLsbD, this, Nat.testBit_two_pow_sub_one]
    apply BitVec.eq_of_getLsbD_eq
    intro i hi
    simp only [identOf, Bool.false_eq_true, if_false, field, BitVec.getLsbD_and, hmask, BitVec.getLsbD_setWidth,
      BitVec.getLsbD_extractLsb', Nat.zero_add]
    by_cases h : i < 11 <;> simp [h, hi]

namespace Part

variable {n : NestId} {k : Fin 16} {s : Part} {st : Step} {d : Nat}

/-! ### A slot falls due (R99) -/

theorem slotFallsDue_idle (h : (s.slot n k).due = none) : s.slotFallsDue n k = s := by simp [slotFallsDue, h]

theorem slotFallsDue_early (h : (s.slot n k).due = some d) (hd : s.now < d) : s.slotFallsDue n k = s := by
  simp [slotFallsDue, h, reached, hd]

theorem slotFallsDue_discarded (h : (s.slot n k).due = some d) (hd : d ≤ s.now) (hr : (s.slot n k).state ≠ .running) :
    s.slotFallsDue n k = s.withSlot n k { s.slot n k with due := none } := by
  simp only [slotFallsDue, h, reached, hd, decide_true, Bool.not_true, Bool.false_eq_true, if_false, if_neg hr]
  rfl

theorem slotFallsDue_running (h : (s.slot n k).due = some d) (hd : d ≤ s.now) (hr : (s.slot n k).state = .running) :
    s.slotFallsDue n k = s.reachDue n d := by
  simp only [slotFallsDue, h, reached, hd, decide_true, Bool.not_true, Bool.false_eq_true, if_false, if_pos hr]

/-! ### FRAME_RUN, as the claims state it -/

/-- With no slot named a FRAME_RUN changes nothing (R97). -/
theorem frameRun_nothing (n : NestId) (s : Part) : s.dueList n 0 0 = [] ∧ s.frameRun n 0 0 = s := by
  have hnone : slotsOf 0 = [] := by decide
  have hready : s.readied n 0 0 = s := by
    rw [readied, if_pos rfl, haltSlots, hnone]
    rfl
  have hlist : s.startList n 0 0 = [] := by
    rw [startList, Bus.toStart, hnone]
    rfl
  have hdue : s.dueList n 0 0 = [] := by
    rw [dueList, hlist]
    rfl
  refine ⟨hdue, ?_⟩
  rw [frameRun, hdue, fallNow_nil, restarted, hlist, hready]
  rfl

/-- On a busy or OFF controller the arbiter starts nothing after a FRAME_RUN (R100). -/
theorem frameRun_busy {start stop : W16}
    (h : (s.buc.get n).on = false ∨ (s.buc.get n).tx.isSome ∨ (s.buc.get n).rx.isSome) :
    (s.frameRun n start stop).arbitrate n = s.frameRun n start stop := by
  refine (arbitrate_arbitrates n _).2 ?_
  rw [frameRun_buc]
  rcases h with h | h | h
  · exact .inl h
  · exact .inr (.inl (by simpa using h))
  · exact .inr (.inr (.inl h))

theorem dueList_eq_nil {start stop : W16} : s.dueList n start stop = [] ↔
    ∀ k, s.startsSlot n start stop k = true → (s.view n k).frameDef.phaseMs ≠ 0 := by
  simp only [List.eq_nil_iff_forall_not_mem, mem_dueList, not_and]

/-- The end of MUTE is shown in NEST_STATE (R4). -/
theorem frameRun_shows {start stop : W16} (h : s.unmutes n start = true) : (s.frameRun n start stop).Shows n := by
  obtain ⟨hstart, hm⟩ : start ≠ 0 ∧ (s.buc.get n).mute = true := by simpa [unmutes] using h
  have hready : (s.readied n start stop).Shows n := by
    rw [readied, if_neg hstart]
    exact clearMute_shows (by rw [haltSlots_buc]; exact hm)
  let words := (List.finRange 16).flatMap fun k => [frameAt n k 6, frameAt n k 7]
  have hbegun : AtBus n words (s.readied n start stop) (s.restarted n start stop) :=
    startSlots_atBus (fun k _ => ⟨List.mem_flatMap.2 ⟨k, List.mem_finRange k, by simp⟩,
      List.mem_flatMap.2 ⟨k, List.mem_finRange k, by simp⟩⟩) _
  exact hready.atBus (t := s.frameRun n start stop) hbegun.modBuc (by rw [frameRun_buc, readied_buc])
    (by simp [words, eq_comm])

/-- A FRAME_RUN that starts a slot with a phase of 0 ends with the arbiter, on the controller that it makes of an idle one
as of one with a transmission in progress (R98, R100). -/
theorem handFrameRun_arbitrates (hp : s.powered n = true) (t : Transmission) (htx : (s.buc.get n).tx = none)
    (hdue : s.dueList n (field (st.w 2) 0 16) (field (st.w 2) 16 16) ≠ []) :
    (((s.withTx n (some t)).handFrameRun n st).1.withTx n none).Arbitrates n (s.handFrameRun n st).1 := by
  have hapart : TxApart n s (s.withTx n (some t)) := ⟨some t, rfl⟩
  have hdue' := hdue
  rw [← hapart.dueList] at hdue'
  rw [handFrameRun_eq hp, handFrameRun_eq (s := s.withTx n (some t)) hp, if_neg hdue, if_neg hdue']
  refine (hapart.frameRun _ _).arbitrates ?_ ?_
  · rw [frameRun_buc, htx]
    rfl
  · rw [frameRun_buc]
    simp [withTx]

end Part

/-- Settles O37, by the branches of a due time's arrival, and by the stages of a FRAME_RUN. -/
theorem slotFallsDue : Obligations.SlotFallsDue := by
  refine ⟨fun n k s => ?_, Bus.runningMask_getLsbD, fun n st s hp => ?_⟩
  · intro b f next
    refine ⟨fun h => exec_eq_next (f := (·.slotFallsDue n k)) rfl (Part.slotFallsDue_idle h), fun d h => ?_⟩
    refine ⟨fun hd => exec_eq_next (f := (·.slotFallsDue n k)) rfl (Part.slotFallsDue_early h hd), fun hd hr => ?_,
      fun hd hr => ?_⟩
    · exact answers_of_act (f := (·.slotFallsDue n k)) rfl (Part.slotFallsDue_discarded h hd hr)
    · refine answers_of_act (f := (·.slotFallsDue n k)) rfl ?_
      rw [Part.slotFallsDue_running h hd hr]
      exact Part.arbitrate_arbitrates n _
  · intro b start stop unmutes halted unmuted started latched after p
    have hlatched (k : Fin 16) : (s.view n k).frameDef = latched k := by
      unfold SlotView.frameDef
      dsimp only
      rw [identOf_field]
      rfl
    have hafter : s.slotAfter n start stop = after := funext fun k => by
      unfold Part.slotAfter SlotView.started
      rw [hlatched]
      rfl
    obtain ⟨hpart, hanswer⟩ := Prod.ext_iff.1 (Part.handFrameRun_eq hp st)
    have hquiet (h : s.dueList n start stop = [] ∨ b.on = false ∨ b.tx.isSome ∨ b.rx.isSome) :
        p = s.frameRun n start stop := by
      refine Eq.trans hpart ?_
      dsimp only
      split
      · rfl
      · next hdue => exact Part.frameRun_busy (h.resolve_left hdue)
    refine ⟨fun hs hh => ?_, ?_, fun h => ?_, fun t k htx hk hphase => ?_⟩
    · obtain ⟨hdue, hsame⟩ := Part.frameRun_nothing n s
      rw [hquiet (.inl (by rw [hs, hh]; exact hdue)), hs, hh]
      exact hsame
    · refine hanswer.trans ?_
      dsimp only
      rw [Part.frameRun_mask, hafter]
      rfl
    · have hidle : s.dueList n start stop = [] ∨ b.on = false ∨ b.tx.isSome ∨ b.rx.isSome := by
        rcases h with h | h | h | h
        · exact .inr (.inl h)
        · exact .inr (.inr (.inl h))
        · exact .inr (.inr (.inr h))
        · exact .inl (Part.dueList_eq_nil.2 fun k hk => by rw [hlatched]; exact h k hk)
      rw [hquiet hidle]
      have hat := Part.frameRun_atBus n start stop s
      refine ⟨fun k => ?_, Part.frameRun_buc n start stop s, fun k => Part.frameRun_started, fun k hs hk => ?_,
        Part.frameRun_shows, hat.stores, hat.nestOnly, hat.same⟩
      · rw [← hafter]; exact Part.frameRun_slot n start stop k s
      · rw [← hafter]; exact Part.frameRun_stopped hs hk
    · refine Part.handFrameRun_arbitrates hp t htx fun hdue => ?_
      exact Part.dueList_eq_nil.1 hdue k hk (by rw [hlatched]; exact hphase)

end Sys2Proof.Machine
end

section
/-! The ends of a transmission, and the bus that goes MUTE. -/

namespace Sys2Proof.Machine

/-! ### What a slot's status word tells -/

namespace FrameSlot

variable {f : FrameSlot} {t : Transmission}

/-- The status word shows the sent count in its upper half (R104). -/
theorem statusWord_sent (f : FrameSlot) : f.statusWord.extractLsb' 16 16 = f.sent := by
  apply BitVec.eq_of_getLsbD_eq
  intro i hi
  have hlow {w : W32} (hw : w.toNat < 2 ^ 9) : w.getLsbD (16 + i) = false :=
    Nat.testBit_lt_two_pow (Nat.lt_of_lt_of_le hw (Nat.pow_le_pow_right (by decide) (by omega)))
  have hcode : (slotStateCode f.state).toNat < 2 ^ 9 := by cases f.state <;> decide
  have hflag (b : Bool) : (flag b 8).toNat < 2 ^ 9 := by cases b <;> decide
  have hsent : (place f.sent 16).getLsbD (16 + i) = f.sent.getLsbD i := by
    have hlt : 16 + i < 32 := by omega
    simp [place, hlt]
  simp only [statusWord, BitVec.getLsbD_extractLsb', BitVec.getLsbD_or, hlow hcode, hlow (hflag _), hsent, hi,
    decide_true, Bool.true_and, Bool.false_or]

/-- The status word shows the state in its lowest bits (R104). -/
theorem statusWord_state (f : FrameSlot) : f.statusWord.extractLsb' 0 2 = (slotStateCode f.state).setWidth 2 := by
  have hflag (b : Bool) : (flag b 8).extractLsb' 0 2 = 0 := by cases b <;> decide
  have hsent : (place f.sent 16).extractLsb' 0 2 = 0 := by
    apply BitVec.eq_of_getLsbD_eq
    intro i hi
    have hlt : i < 16 := by omega
    simp [place, BitVec.getLsbD_shiftLeft, hlt]
  have hcode : (slotStateCode f.state).extractLsb' 0 2 = (slotStateCode f.state).setWidth 2 := by cases f.state <;> rfl
  rw [statusWord, BitVec.extractLsb'_or, BitVec.extractLsb'_or, hflag, hsent, hcode]
  simp

theorem state_eq_of_statusWord {g : FrameSlot} (h : g.statusWord = f.statusWord) : g.state = f.state := by
  have hcode := congrArg (·.extractLsb' 0 2) h
  simp only [statusWord_state] at hcode
  revert hcode
  cases g.state <;> cases f.state <;> simp [slotStateCode]

/-- A slot that sends one frame and then stops, with no FRAME_RUN having stopped it since (R102; log entries 13 and 14). -/
def single (f : FrameSlot) (t : Transmission) : Bool :=
  decide ((f.frameDef.map FrameDef.periodMs).getD 0 = 0) && !t.stopped

theorem afterFrame_eq (t : Transmission) (f : FrameSlot) :
    f.afterFrame t = { f with state := if f.single t then .stopped else f.state } := by
  unfold afterFrame single
  cases t.stopped <;> by_cases h : (f.frameDef.map FrameDef.periodMs).getD 0 = 0 <;> simp [h]

end FrameSlot

namespace Part

variable {n : NestId} {j k : Fin 16} {s t u : Part} {words : List Nat}

/-- A frame slot changed in its nack count alone: w7 is written (R104). -/
theorem changeSlot_nacks {f : FrameSlot → FrameSlot} (hs : (f (s.slot n k)).statusWord = (s.slot n k).statusWord)
    (hn : (f (s.slot n k)).nack ≠ (s.slot n k).nack) : s.changeSlot n k f =
      { s.withSlot n k (f (s.slot n k)) with
        mem := s.mem.setWord (frameAt n k 7) (place (f (s.slot n k)).nack 0) } := by
  unfold changeSlot
  dsimp only
  rw [if_pos hs, if_neg hn, writeSlotNacks, modSlot_eq, withSlot_slot]
  rfl

/-! ### The ends of a transmission (R102) -/

/-- The transmission of slot `k` counted: the slot becomes `g`, the count of nacks in a row `nacks`, and memory `m`. -/
def counted (n : NestId) (k : Fin 16) (g : FrameSlot) (nacks : Nat) (m : Memory) (s : Part) : Part :=
  { s with
    buc := s.buc.put n
      { s.buc.get n with tx := none, nacks := nacks, slots := (s.buc.get n).slots.put k g }
    mem := m }

variable {tr : Transmission}

theorem transmissionEnds_acknowledged (h : (s.buc.get n).tx = some tr) :
    let f := s.slot n tr.slot
    let g : FrameSlot := { f with sent := f.sent + 1, state := if f.single tr then .stopped else f.state }
    s.transmissionEnds n .acknowledged =
      (s.counted n tr.slot g 0 (s.mem.setWord (frameAt n tr.slot 6) g.statusWord)).arbitrate n := by
  intro f g
  let idle := s.modBuc n fun b => { b with tx := none }
  have hslot : idle.slot n tr.slot = f := by simp [idle, slot, f]
  have hg : ({ f with sent := f.sent + 1 } : FrameSlot).afterFrame tr = g := FrameSlot.afterFrame_eq ..
  have hshown : g.statusWord ≠ f.statusWord := fun e => by
    have hsent := congrArg (·.extractLsb' 16 16) e
    simp only [FrameSlot.statusWord_sent, g] at hsent
    simp at hsent
  have hchange : idle.changeSlot n tr.slot (fun f => { f with sent := f.sent + 1 }.afterFrame tr) =
      { idle.withSlot n tr.slot g with mem := s.mem.setWord (frameAt n tr.slot 6) g.statusWord } := by
    rw [changeSlot_eq (by rw [hslot, hg]), hslot, hg, if_neg hshown]
    rfl
  simp only [transmissionEnds, h]
  refine congrArg (arbitrate n) ?_
  refine (congrArg (modBuc n fun b => { b with nacks := 0 }) hchange).trans ?_
  simp [idle, withSlot, counted, modBuc, Bank.modify]

/-- A transmission whose nack is counted and shown (R102, R104). -/
def nacked (n : NestId) (k : Fin 16) (s : Part) : Part :=
  s.counted n k { s.slot n k with nack := (s.slot n k).nack + 1 } ((s.buc.get n).nacks + 1)
    (s.mem.setWord (frameAt n k 7) (place ((s.slot n k).nack + 1) 0))

theorem transmissionEnds_notAcknowledged (h : (s.buc.get n).tx = some tr) :
    s.transmissionEnds n .notAcknowledged =
      ((if 16 ≤ (s.buc.get n).nacks + 1 then (s.nacked n tr.slot).muteBus n else s.nacked n tr.slot).changeSlot n tr.slot
        (·.afterFrame tr)).arbitrate n := by
  let idle := s.modBuc n fun b => { b with tx := none }
  have hslot : idle.slot n tr.slot = s.slot n tr.slot := by simp [idle, slot]
  let bump : FrameSlot → FrameSlot := fun f => { f with nack := f.nack + 1 }
  have hne : (bump (idle.slot n tr.slot)).nack ≠ (idle.slot n tr.slot).nack := by simp [bump]
  have hchange : (idle.changeSlot n tr.slot bump).modBuc n
      (fun b => { b with nacks := b.nacks + 1 }) = s.nacked n tr.slot := by
    rw [changeSlot_nacks (f := bump) rfl hne, hslot]
    simp [idle, bump, withSlot, nacked, counted, modBuc, Bank.modify]
  have hnacks : ((s.nacked n tr.slot).buc.get n).nacks = (s.buc.get n).nacks + 1 := by simp [nacked, counted]
  simp only [transmissionEnds, h]
  rw [← hnacks, ← hchange]
  rfl

theorem nacked_afterFrame (n : NestId) (s : Part) :
    let f := s.slot n tr.slot
    let g : FrameSlot := { f with nack := f.nack + 1, state := if f.single tr then .stopped else f.state }
    let m := s.mem.setWord (frameAt n tr.slot 7) (place (f.nack + 1) 0)
    (s.nacked n tr.slot).changeSlot n tr.slot (·.afterFrame tr) =
      s.counted n tr.slot g ((s.buc.get n).nacks + 1)
        (if (if f.single tr then .stopped else f.state) = f.state then m
        else m.setWord (frameAt n tr.slot 6) g.statusWord) := by
  intro f g m
  have hslot : (s.nacked n tr.slot).slot n tr.slot = { f with nack := f.nack + 1 } := by simp [nacked, counted, slot, f]
  have hg : ({ f with nack := f.nack + 1 } : FrameSlot).afterFrame tr = g := FrameSlot.afterFrame_eq ..
  have hstate : g.statusWord = ({ f with nack := f.nack + 1 } : FrameSlot).statusWord ↔
      (if f.single tr then .stopped else f.state) = f.state := by
    refine ⟨FrameSlot.state_eq_of_statusWord, fun e => ?_⟩
    simp only [g, e, FrameSlot.statusWord]
  rw [changeSlot_eq (by rw [hslot, hg]), hslot, hg]
  simp only [hstate]
  simp [withSlot, nacked, counted, f, m]

theorem transmissionEnds_lost (h : (s.buc.get n).tx = some tr) (il : BitVec 4) :
    let f := s.slot n tr.slot
    s.transmissionEnds n (.arbitrationLost il) =
      { s with
        buc := s.buc.put n
          { s.buc.get n with
            tx := none, rx := some il
            slots := (s.buc.get n).slots.put tr.slot
              { f with pendingDue := if f.state = .running ∧ tr.stopped = false then some tr.due else f.pendingDue } } } := by
  intro f
  have hpending : (if f.state = .running ∧ tr.stopped = false then { f with pendingDue := some tr.due } else f) =
      { f with pendingDue := if f.state = .running ∧ tr.stopped = false then some tr.due else f.pendingDue } := by
    split <;> rfl
  simp only [transmissionEnds, h]
  rw [← hpending]
  simp [modSlot, modBuc, Bank.modify, f, slot]

end Part

end Sys2Proof.Machine
end

section
/-! A controller that acts for the step in execution, and the bus that goes MUTE (R103, R108). -/

namespace Sys2Proof.Machine

/-- From part `s` to part `t` the bus controller of nest `n` has acted: on its own state, on the words `words`, and on the
results of the nest's step and the messages sent. -/
structure Part.BusActs (n : NestId) (words : List Nat) (s t : Part) : Prop where
  same : t = { s with buc := t.buc, nsq := t.nsq, mem := t.mem, sent := t.sent }
  kept : s.SequencerKept n t
  nsqs : Bank.AgreeBut n s.nsq t.nsq
  bucs : Bank.AgreeBut n s.buc t.buc
  stores : s.StoresOnly words t

theorem Part.AtBus.acts {n : NestId} {words : List Nat} {s t : Part} (h : AtBus n words s t) :
    s.BusActs n words t where
  same := by rw [h.nsq, h.sent]; exact h.same
  kept := by rw [SequencerKept, h.nsq]
  nsqs := by rw [h.nsq]; exact .refl n _
  bucs := h.others
  stores := h.stores

namespace Part.BusActs

variable {n : NestId} {words : List Nat} {s t u : Part}

theorem refl : BusActs n words s s := AtBus.refl.acts

theorem trans (h : BusActs n words s t) (g : BusActs n words t u) : BusActs n words s u where
  same := by rw [g.same, h.same]
  kept := by
    have hs := h.kept
    have ht := g.kept
    rw [SequencerKept] at hs ht ⊢
    rw [ht, hs]
  nsqs := h.nsqs.trans g.nsqs
  bucs := h.bucs.trans g.bucs
  stores := h.stores.trans g.stores

theorem mono {more : List Nat} (h : BusActs n words s t) (hw : ∀ i ∈ words, i ∈ more) : BusActs n more s t :=
  { h with stores := h.stores.mono hw }

/-- The nest's step completed (R28). -/
theorem completeStep (h : BusActs n words s t) (k : Kind) (v : Verdict) (d : Detail) (r : Results) :
    BusActs n words s (t.completeStep n k v d r) := by
  obtain ⟨-, hkept, hnsqs, hsame⟩ := completeStep_completes t t n k v d r [] rfl (List.append_nil _).symm
  have hbuc := completeStep_buc t n k v d r
  have hmem := completeStep_mem t n k v d r
  exact h.trans ⟨by rw [hbuc, hmem]; exact hsame, hkept, hnsqs, by rw [hbuc]; exact .refl n _,
    StoresOnly.refl.of_mem hmem⟩

section
variable (h : BusActs n words s t)
include h

theorem nestOnly : s.NestOnly n t := by
  rw [h.same]
  exact ⟨h.nsqs, .refl n _, .refl n _, h.bucs, .refl n _, .refl n _⟩

theorem now : t.now = s.now := congrArg (·.now) h.same
theorem timebase : t.timebase = s.timebase := congrArg (·.timebase) h.same
theorem factor : t.factor = s.factor := congrArg (·.factor) h.same
theorem firstFault : t.firstFault = s.firstFault := congrArg (·.firstFault) h.same
theorem step : (t.nsq.get n).step = (s.nsq.get n).step := by rw [h.kept]

/-- What has been recorded stands where the words of the fault are not written. -/
theorem records {p : Part} {k : FaultKind} {q : Option W16} (hr : p.Records n k q s)
    (hw : ∀ i ∈ [nestAt n 8, ffStateAt, ffStepAt, ffTimeAt], i ∉ words) : p.Records n k q t :=
  hr.of_same (by rw [h.kept]) (by rw [h.kept]) (fun i hi => h.stores.word (hw i hi)) h.factor h.firstFault

/-- A NEST_STATE that is shown stays so where MUTE stays and the word is not written. -/
theorem shows (hs : s.Shows n) (hm : (t.buc.get n).mute = (s.buc.get n).mute) (hw : nestAt n 7 ∉ words) :
    t.Shows n := by
  have hword : t.nestStateWord n = s.nestStateWord n := by
    have hfxc : t.fxc = s.fxc := congrArg (·.fxc) h.same
    have hkept := h.kept
    rw [SequencerKept] at hkept
    simp only [nestStateWord, hfxc, hm]
    rw [hkept]
  rw [Shows, h.stores.word hw, hword]
  exact hs

end

end Part.BusActs

/-- A slot of a bus that goes MUTE (R103). -/
def FrameSlot.muted (f : FrameSlot) : FrameSlot :=
  if f.state = .running then { f.dropStaged with state := .muted, pendingDue := none, due := none } else f

/-- A controller that goes MUTE (R103). -/
def Bus.muted (b : Bus) : Bus := { b with mute := true, slots := Bank.build fun k => (b.slots.get k).muted }

namespace SlotView

/-- A slot changed without its nack count: w6 is written where it shows the change (R104). -/
def changed (f : FrameSlot → FrameSlot) (v : SlotView) : SlotView :=
  if (f v.slot).statusWord = v.slot.statusWord then { v with slot := f v.slot } else { v with slot := f v.slot }.shown

/-- w6 reads as the slot does. -/
def Shows (v : SlotView) : Prop := v.words 6 = v.slot.statusWord

/-- A slot of a bus that goes MUTE: a RUNNING one is MUTED and shown (R103). -/
def muted (v : SlotView) : SlotView :=
  if v.slot.state = .running then { v with slot := v.slot.muted }.shown else v

theorem muted_slot (v : SlotView) : v.muted.slot = v.slot.muted := by
  unfold muted FrameSlot.muted
  split <;> rfl

theorem muted_nacks (v : SlotView) : v.muted.words 7 = v.words 7 := by
  unfold muted
  split
  · simp [shown]
  · rfl

theorem muted_shows {v : SlotView} (h : v.slot.state = .running) : v.muted.Shows := by
  rw [muted, if_pos h]
  exact shown_word _

theorem changed_slot (f : FrameSlot → FrameSlot) (v : SlotView) : (v.changed f).slot = f v.slot := by
  unfold changed
  split <;> rfl

theorem changed_nacks (f : FrameSlot → FrameSlot) (v : SlotView) : (v.changed f).words 7 = v.words 7 := by
  unfold changed
  split
  · rfl
  · simp [shown]

theorem changed_shows {f : FrameSlot → FrameSlot} {v : SlotView}
    (h : v.Shows ∨ (f v.slot).statusWord ≠ v.slot.statusWord) : (v.changed f).Shows := by
  unfold changed
  split
  · next hs => exact (h.resolve_right (not_not.2 hs)).trans hs.symm
  · exact shown_word _

end SlotView

namespace Part

variable {n : NestId} {j k : Fin 16} {s t u : Part} {words : List Nat}

/-! ### The stages of a mute -/

theorem changeSlot_view {f : FrameSlot → FrameSlot} (hf : ∀ g, (f g).nack = g.nack) (n : NestId) (j k : Fin 16)
    (s : Part) : (s.changeSlot n j f).view n k = if j = k then (s.view n k).changed f else s.view n k := by
  have hset (t : Part) (ht : t = s.modSlot n j fun _ => f (s.slot n j)) : t.view n k =
      if j = k then { s.view n k with slot := f (s.view n k).slot } else s.view n k := by
    rw [ht, view_modSlot]
    split
    · next h => subst h; rfl
    · rfl
  unfold changeSlot
  dsimp only
  rw [if_pos (hf _)]
  by_cases hs : (f (s.slot n j)).statusWord = (s.slot n j).statusWord
  · rw [if_pos hs, hset _ rfl]
    split
    · next h => subst h; exact (if_pos hs).symm
    · rfl
  · rw [if_neg hs, view_writeSlotStatus, hset _ rfl]
    split
    · next h => subst h; exact (if_neg hs).symm
    · rfl

theorem changeSlot_atBus {f : FrameSlot → FrameSlot} (hf : ∀ g, (f g).nack = g.nack)
    (hw : frameAt n k 6 ∈ words) (s : Part) : AtBus n words s (s.changeSlot n k f) := by
  unfold changeSlot
  dsimp only
  rw [if_pos (hf _)]
  exact .ite (fun _ => AtBus.refl.modBuc) fun _ => AtBus.refl.modBuc.put hw

theorem changeSlot_buc {f : FrameSlot → FrameSlot} (hf : ∀ g, (f g).nack = g.nack) (n : NestId) (k : Fin 16) (s : Part) :
    (s.changeSlot n k f).buc.get n = { s.buc.get n with slots := ((s.changeSlot n k f).buc.get n).slots } := by
  rw [changeSlot_eq (hf _)]
  simp [withSlot]

/-- The RUNNING slots of a bus MUTED and shown, with the fault recorded (R103). -/
def muteSlots (n : NestId) (s : Part) : Part :=
  ((s.track n fun t => t.modBuc n Bus.muted).showSlots n fun k => (s.slot n k).state = .running).recordFault n .busMute

/-- A waiting FRAME_LOAD fails, and its slot's staging is dropped (R108). -/
def failLoad (n : NestId) (s : Part) : Part :=
  match (s.buc.get n).loadWait with
  | some w =>
    ((s.changeSlot n w.slot FrameSlot.dropStaged).modBuc n fun b => { b with loadWait := none }).completeStep n .frameLoad
      .fail .busMute ⟨w.w11, 0, 0, 0, 0⟩
  | none => s

theorem muteBus_eq (n : NestId) (s : Part) : s.muteBus n = (s.muteSlots n).failLoad n := by
  unfold muteBus muteSlots
  exact congrArg (failLoad n) rfl

/-! ### What a mute makes of the nest -/

theorem recordFault_view (n : NestId) (k : Fin 16) (kind : FaultKind) (s : Part) :
    (s.recordFault n kind).view n k = s.view n k := by
  have hword (i : Fin 8) : (s.recordFault n kind).word (frameAt n k i) = s.word (frameAt n k i) := by
    refine (fault_stores n kind s).word ?_
    have hdir {j : Nat} (hj : j ∈ [ffStateAt, ffStepAt, ffTimeAt]) : frameAt n k i ≠ j := by
      have := firstFault_lt hj
      unfold frameAt
      omega
    simp only [List.mem_cons, List.not_mem_nil, or_false, not_or]
    exact ⟨nestAt_ne_frameAt n n k i (by decide), hdir (by simp), hdir (by simp), hdir (by simp)⟩
  simp only [view, hword, slot, recordFault_buc, now, recordFault_ticks]

theorem muteSlots_view (n : NestId) (k : Fin 16) (s : Part) : (s.muteSlots n).view n k = (s.view n k).muted := by
  have hslot : (s.buc.get n).muted.slots.get k = (s.slot n k).muted := Bank.get_build ..
  have hview : (s.view n k).slot = s.slot n k := rfl
  rw [muteSlots, recordFault_view, showSlots_view, view_track, view_modBuc, hslot, SlotView.muted, hview]
  by_cases h : (s.slot n k).state = .running
  · rw [if_pos h, if_pos h]
  · have hkept : (s.slot n k).muted = s.slot n k := if_neg h
    rw [if_neg h, if_neg h, hkept]
    rfl

theorem muteSlots_buc (n : NestId) (s : Part) : (s.muteSlots n).buc.get n = (s.buc.get n).muted := by
  rw [muteSlots, recordFault_buc, showSlots_buc, track_buc, modBuc_buc, Bank.get_modify_same]

/-- The words of a mute before its fault. -/
def muteWords (n : NestId) : List Nat := nestAt n 7 :: (List.finRange 16).map fun k => frameAt n k 6

theorem mem_muteWords (n : NestId) (k : Fin 16) : frameAt n k 6 ∈ muteWords n :=
  List.mem_cons_of_mem _ (List.mem_map.2 ⟨k, List.mem_finRange k, rfl⟩)

/-- A mute up to its fault. -/
def mutedUnrecorded (n : NestId) (s : Part) : Part :=
  (s.track n fun t => t.modBuc n Bus.muted).showSlots n fun k => (s.slot n k).state = .running

theorem mutedUnrecorded_atBus (n : NestId) (s : Part) : AtBus n (muteWords n) s (s.mutedUnrecorded n) :=
  (AtBus.refl.modBuc.track (.head _)).trans (showSlots_atBus (fun k _ => mem_muteWords n k) _)

theorem muteSlots_eq (n : NestId) (s : Part) : s.muteSlots n = (s.mutedUnrecorded n).recordFault n .busMute := rfl

theorem mutedUnrecorded_shows (hm : (s.buc.get n).mute = false) : (s.mutedUnrecorded n).Shows n := by
  have hshown : (s.track n fun t => t.modBuc n Bus.muted).Shows n := track_shows_mute (by simp [Bus.muted, hm])
  exact hshown.atBus (words := (List.finRange 16).map fun k => frameAt n k 6)
    (showSlots_atBus (fun k _ => List.mem_map.2 ⟨k, List.mem_finRange k, rfl⟩) _) (by rw [mutedUnrecorded, showSlots_buc])
    (by simp)

theorem muteSlots_shows (hm : (s.buc.get n).mute = false) : (s.muteSlots n).Shows n := by
  rw [Shows, muteSlots_eq, recordFault_nestStateWord, (fault_stores n .busMute _).word]
  · exact mutedUnrecorded_shows hm
  · simp

theorem muteSlots_records (n : NestId) (s : Part) : s.Records n .busMute (s.nsq.get n).sequence (s.muteSlots n) := by
  have hat := mutedUnrecorded_atBus n s
  have hrecords := fault_records n .busMute (s.mutedUnrecorded n)
  have hff : (s.mutedUnrecorded n).firstFault = s.firstFault := congrArg (·.firstFault) hat.same
  unfold Records at hrecords ⊢
  rw [hat.nsq, hat.timebase, hff] at hrecords
  exact hrecords

theorem muteSlots_setsOnly (n : NestId) (s : Part) :
    s.SetsOnly [factorFault n, factorFirstFault] (s.muteSlots n) := by
  have hfactor : (s.mutedUnrecorded n).factor = s.factor := congrArg (·.factor) (mutedUnrecorded_atBus n s).same
  have hset := fault_setsOnly n .busMute (s.mutedUnrecorded n)
  rwa [SetsOnly, hfactor] at hset

theorem muteSlots_same (n : NestId) (s : Part) : s.muteSlots n =
    { s with
      buc := (s.muteSlots n).buc, nsq := (s.muteSlots n).nsq, mem := (s.muteSlots n).mem
      factor := (s.muteSlots n).factor, firstFault := (s.muteSlots n).firstFault } := by
  have hbefore := (mutedUnrecorded_atBus n s).same
  have hfault := recordFault_same n .busMute (s.mutedUnrecorded n)
  have hbuc : (s.muteSlots n).buc = (s.mutedUnrecorded n).buc := by rw [muteSlots_eq, recordFault_buc]
  rw [← muteSlots_eq] at hfault
  rw [hbuc]
  generalize s.muteSlots n = t at hfault ⊢
  generalize s.mutedUnrecorded n = u at hbefore hfault ⊢
  exact hfault.trans (congrArg (fun u : Part =>
    { u with nsq := t.nsq, mem := t.mem, factor := t.factor, firstFault := t.firstFault }) hbefore)

/-- The words of a mute (R22, R23, R103). -/
def muteFaultWords (n : NestId) : List Nat := muteWords n ++ [nestAt n 8, ffStateAt, ffStepAt, ffTimeAt]

theorem muteSlots_stores (n : NestId) (s : Part) : s.StoresOnly (muteFaultWords n) (s.muteSlots n) :=
  ((mutedUnrecorded_atBus n s).stores.mono fun _ => List.mem_append_left _).trans
    ((fault_stores n .busMute _).mono fun _ => List.mem_append_right _)

theorem muteSlots_nestOnly (n : NestId) (s : Part) : s.NestOnly n (s.muteSlots n) := by
  refine (mutedUnrecorded_atBus n s).nestOnly.trans ?_
  rw [muteSlots_eq, recordFault_same]
  exact ⟨by rw [recordFault_nsq]; exact .modify n _ _, .refl n _, .refl n _, .refl n _, .refl n _, .refl n _⟩

/-- Of the sequencer a mute touches the fault alone. -/
theorem muteSlots_sequencer (n : NestId) (s : Part) : (s.muteSlots n).nsq.get n =
    { s.nsq.get n with fault := .busMute, faultSeq := (s.nsq.get n).sequence } := by
  rw [muteSlots_eq, recordFault_get, (mutedUnrecorded_atBus n s).nsq]

theorem muteSlots_sent (n : NestId) (s : Part) : (s.muteSlots n).sent = s.sent := by
  rw [muteSlots_eq, recordFault_sent, (mutedUnrecorded_atBus n s).sent]

/-! ### The waiting FRAME_LOAD of a mute -/

theorem completeStep_view (k : Fin 16) (kind : Kind) (v : Verdict) (d : Detail) (r : Results) (s : Part) :
    (s.completeStep n kind v d r).view n k = s.view n k := by
  simp only [view, completeStep_word, slot, completeStep_buc, now, completeStep_ticks]

theorem failLoad_none (h : (s.buc.get n).loadWait = none) : s.failLoad n = s := by
  unfold failLoad
  rw [h]

theorem failLoad_some {w : LoadWait} (h : (s.buc.get n).loadWait = some w) : s.failLoad n =
    ((s.changeSlot n w.slot FrameSlot.dropStaged).modBuc n fun b => { b with loadWait := none }).completeStep n .frameLoad
      .fail .busMute ⟨w.w11, 0, 0, 0, 0⟩ := by
  unfold failLoad
  rw [h]

theorem failLoad_view (n : NestId) (k : Fin 16) (s : Part) : (s.failLoad n).view n k =
    if (s.buc.get n).loadWait.map LoadWait.slot = some k then (s.view n k).changed FrameSlot.dropStaged
    else s.view n k := by
  cases hw : (s.buc.get n).loadWait with
  | none => rw [failLoad_none hw]; rfl
  | some w =>
    have hkept (t : Part) : (t.modBuc n fun b => { b with loadWait := none }).view n k = t.view n k := by
      rw [view_modBuc]; rfl
    rw [failLoad_some hw, completeStep_view, hkept, changeSlot_view (f := FrameSlot.dropStaged) fun _ => rfl]
    simp only [Option.map_some, Option.some.injEq]

theorem failLoad_buc (n : NestId) (s : Part) : (s.failLoad n).buc.get n =
    { s.buc.get n with loadWait := none, slots := ((s.failLoad n).buc.get n).slots } := by
  cases hw : (s.buc.get n).loadWait with
  | none => rw [failLoad_none hw, ← hw]
  | some w =>
    rw [failLoad_some hw, completeStep_buc, modBuc_buc, Bank.get_modify_same,
      changeSlot_buc (f := FrameSlot.dropStaged) (fun _ => rfl)]

theorem failLoad_acts (hw : ∀ k, frameAt n k 6 ∈ words) (s : Part) : s.BusActs n words (s.failLoad n) := by
  cases h : (s.buc.get n).loadWait with
  | none => rw [failLoad_none h]; exact .refl
  | some w =>
    have hat := (changeSlot_atBus (f := FrameSlot.dropStaged) (fun _ => rfl) (hw w.slot) s).modBuc
      (f := fun b => { b with loadWait := none })
    rw [failLoad_some h]
    exact hat.acts.completeStep ..

theorem failLoad_completes {w : LoadWait} (h : (s.buc.get n).loadWait = some w) :
    s.Completes n .frameLoad .fail .busMute ⟨w.w11, 0, 0, 0, 0⟩ [] [] (s.failLoad n) := by
  have hat := (changeSlot_atBus (f := FrameSlot.dropStaged) (n := n) (words := [frameAt n w.slot 6]) (fun _ => rfl)
    (.head _) s).modBuc (f := fun b => { b with loadWait := none })
  rw [failLoad_some h]
  exact (completeStep_completes s _ n _ _ _ _ [] hat.nsq (hat.sent.trans (List.append_nil _).symm)).1

end Part

end Sys2Proof.Machine
end

section
/-! The 16th nack in a row, and the claim on the ends of a transmission (R102, R103). -/

namespace Sys2Proof.Machine

theorem FrameSlot.afterFrame_nack (t : Transmission) (f : FrameSlot) : (f.afterFrame t).nack = f.nack := by
  rw [afterFrame_eq]

namespace Part

variable {n : NestId} {j : Fin 16} {s : Part} {tr : Transmission}

/-! ### What the 16th nack makes of the nest -/

/-- The 16th nack in a row, up to the arbiter. -/
def mutedEnd (n : NestId) (tr : Transmission) (s : Part) : Part :=
  ((s.nacked n tr.slot).muteBus n).changeSlot n tr.slot (·.afterFrame tr)

theorem nacked_atBus (n : NestId) (k : Fin 16) (s : Part) : AtBus n [frameAt n k 7] s (s.nacked n k) :=
  ⟨rfl, .put n _ _, (StoresOnly.refl.put (.head _)).of_mem rfl⟩

theorem nacked_buc (n : NestId) (k : Fin 16) (s : Part) : (s.nacked n k).buc.get n =
    { s.buc.get n with
      tx := none, nacks := (s.buc.get n).nacks + 1
      slots := (s.buc.get n).slots.put k { s.slot n k with nack := (s.slot n k).nack + 1 } } := by
  simp [nacked, counted]

theorem nacked_slot (n : NestId) (k j : Fin 16) (s : Part) : (s.nacked n k).slot n j =
    { s.slot n j with nack := if j = k then (s.slot n j).nack + 1 else (s.slot n j).nack } := by
  rw [slot, nacked_buc, Bank.get_put]
  by_cases h : j = k
  · subst h; simp
  · simp [h, Ne.symm h, slot]

/-- The status words of the frame slots (R104). -/
def statusWords (n : NestId) : List Nat := (List.finRange 16).map fun k => frameAt n k 6

theorem mem_statusWords (n : NestId) (k : Fin 16) : frameAt n k 6 ∈ statusWords n :=
  List.mem_map.2 ⟨k, List.mem_finRange k, rfl⟩

theorem mutedEnd_acts (n : NestId) (tr : Transmission) (s : Part) :
    ((s.nacked n tr.slot).muteSlots n).BusActs n (statusWords n) (s.mutedEnd n tr) := by
  rw [mutedEnd, muteBus_eq]
  exact (failLoad_acts (mem_statusWords n) _).trans
    (changeSlot_atBus (FrameSlot.afterFrame_nack tr) (mem_statusWords n tr.slot) _).acts

theorem mutedEnd_buc (n : NestId) (tr : Transmission) (s : Part) : (s.mutedEnd n tr).buc.get n =
    { s.buc.get n with
      mute := true, nacks := (s.buc.get n).nacks + 1, tx := none, loadWait := none
      slots := ((s.mutedEnd n tr).buc.get n).slots } := by
  have hlast := changeSlot_buc (FrameSlot.afterFrame_nack tr) n tr.slot ((s.nacked n tr.slot).muteBus n)
  rw [← mutedEnd] at hlast
  generalize ((s.mutedEnd n tr).buc.get n).slots = slots at hlast ⊢
  rw [hlast, muteBus_eq, failLoad_buc, muteSlots_buc, nacked_buc]
  rfl

/-- Slot `j` and its words after the 16th nack: muted, its staging dropped if a FRAME_LOAD waits for it, and stopped if it
has sent its single frame. -/
theorem mutedEnd_view (n : NestId) (tr : Transmission) (j : Fin 16) (s : Part) :
    let muted := ((s.nacked n tr.slot).view n j).muted
    let dropped := if (s.buc.get n).loadWait.map LoadWait.slot = some j then muted.changed FrameSlot.dropStaged else muted
    (s.mutedEnd n tr).view n j = if tr.slot = j then dropped.changed (·.afterFrame tr) else dropped := by
  intro muted dropped
  have hwait : (((s.nacked n tr.slot).muteSlots n).buc.get n).loadWait = (s.buc.get n).loadWait := by
    rw [muteSlots_buc, nacked_buc]; rfl
  rw [mutedEnd, changeSlot_view (FrameSlot.afterFrame_nack tr), muteBus_eq, failLoad_view, muteSlots_view, hwait]

theorem mutedEnd_slot (n : NestId) (tr : Transmission) (j : Fin 16) (s : Part) :
    let x := s.slot n j
    let muted := decide (x.state = .running)
    let dropped := muted || decide ((s.buc.get n).loadWait.map LoadWait.slot = some j)
    (s.mutedEnd n tr).slot n j =
      { x with
        state := if j = tr.slot ∧ (s.slot n tr.slot).single tr = true then .stopped else if muted then .muted else x.state
        nack := if j = tr.slot then x.nack + 1 else x.nack
        pendingDue := if muted then none else x.pendingDue, due := if muted then none else x.due
        stagedPayload := if dropped then none else x.stagedPayload
        stagedLines := if dropped then none else x.stagedLines } := by
  intro x muted dropped
  have hview := congrArg SlotView.slot (mutedEnd_view n tr j s)
  have hslot : ((s.nacked n tr.slot).view n j).slot = (s.nacked n tr.slot).slot n j := rfl
  have hend : ((s.mutedEnd n tr).view n j).slot = (s.mutedEnd n tr).slot n j := rfl
  simp only [apply_ite SlotView.slot, SlotView.changed_slot, SlotView.muted_slot, hslot, hend, nacked_slot] at hview
  rw [hview]
  by_cases hj : j = tr.slot
  · subst hj
    by_cases hr : x.state = .running <;> by_cases hw : (s.buc.get n).loadWait.map LoadWait.slot = some tr.slot <;>
      simp [muted, dropped, x, hr, hw, FrameSlot.muted, FrameSlot.dropStaged, FrameSlot.afterFrame_eq, FrameSlot.single]
  · by_cases hr : x.state = .running <;> by_cases hw : (s.buc.get n).loadWait.map LoadWait.slot = some j <;>
      simp [muted, dropped, x, hr, hw, hj, Ne.symm hj, FrameSlot.muted, FrameSlot.dropStaged]

/-- The status word of a slot shows it where it has been muted, or something staged has been dropped. -/
theorem mutedEnd_shows
    (h : (s.slot n j).state = .running ∨ (s.buc.get n).loadWait.map LoadWait.slot = some j ∧
      ((s.slot n j).stagedPayload.isSome ∨ (s.slot n j).stagedLines.isSome)) :
    (s.mutedEnd n tr).word (frameAt n j 6) = ((s.mutedEnd n tr).slot n j).statusWord := by
  suffices hs : ((s.mutedEnd n tr).view n j).Shows from hs
  have hslot : ((s.nacked n tr.slot).view n j).slot = (s.nacked n tr.slot).slot n j := rfl
  have hchanged {v : SlotView} {f : FrameSlot → FrameSlot} {c : Prop} [Decidable c] (hv : v.Shows) :
      (if c then v.changed f else v).Shows := by
    split
    · exact SlotView.changed_shows (.inl hv)
    · exact hv
  rw [mutedEnd_view]
  refine hchanged ?_
  by_cases hr : (s.slot n j).state = .running
  · exact hchanged (SlotView.muted_shows (by rw [hslot, nacked_slot]; exact hr))
  · obtain ⟨hw, hstaged⟩ := h.resolve_left hr
    rw [if_pos hw]
    refine SlotView.changed_shows (.inr (FrameSlot.dropStaged_shows ?_))
    rw [SlotView.muted_slot, hslot, nacked_slot, FrameSlot.muted, if_neg hr]
    exact hstaged

theorem mutedEnd_nacks (n : NestId) (tr : Transmission) (s : Part) :
    (s.mutedEnd n tr).word (frameAt n tr.slot 7) = place ((s.slot n tr.slot).nack + 1) 0 := by
  have hview := congrArg (·.words 7) (mutedEnd_view n tr tr.slot s)
  have hshown : (s.nacked n tr.slot).word (frameAt n tr.slot 7) = place ((s.slot n tr.slot).nack + 1) 0 := by
    simp [nacked, counted, word]
  simp only [if_pos, SlotView.changed_nacks] at hview
  refine hview.trans (Eq.trans ?_ hshown)
  split <;> simp only [SlotView.changed_nacks, SlotView.muted_nacks] <;> rfl

/-- The 16th nack leaves nothing pending where only RUNNING slots were pending, so the arbiter starts nothing. -/
theorem mutedEnd_arbitrate (h : ∀ j, (s.slot n j).pendingDue.isSome → (s.slot n j).state = .running) :
    (s.mutedEnd n tr).arbitrate n = s.mutedEnd n tr := by
  refine (arbitrate_arbitrates n _).2 (.inr (.inr (.inr fun j => ?_)))
  suffices hp : ((s.mutedEnd n tr).slot n j).pendingDue = none from hp
  rw [mutedEnd_slot]
  by_cases hr : (s.slot n j).state = .running
  · simp [hr]
  · simpa [hr] using fun hp => hr (h j hp)

/-- The words that the 16th nack writes (R22, R23, R103, R104, R108). -/
theorem mutedEnd_stores (n : NestId) (tr : Transmission) (s : Part) :
    s.StoresOnly ([nestAt n 7, nestAt n 8, ffStateAt, ffStepAt, ffTimeAt, frameAt n tr.slot 7] ++ statusWords n)
      (s.mutedEnd n tr) := by
  refine ((nacked_atBus n tr.slot s).stores.mono (by simp)).trans (((muteSlots_stores n _).mono fun i hi => ?_).trans
    ((mutedEnd_acts n tr s).stores.mono fun i hi => List.mem_append_right _ hi))
  have hwords : i ∈ nestAt n 7 :: statusWords n ++ [nestAt n 8, ffStateAt, ffStepAt, ffTimeAt] := hi
  simp only [List.cons_append, List.mem_cons, List.mem_append, List.not_mem_nil, or_false] at hwords ⊢
  tauto

theorem mutedEnd_records (n : NestId) (tr : Transmission) (s : Part) :
    s.Records n .busMute (s.nsq.get n).sequence (s.mutedEnd n tr) := by
  refine (mutedEnd_acts n tr s).records (muteSlots_records n (s.nacked n tr.slot)) fun i hi hw => ?_
  obtain ⟨k, -, rfl⟩ := List.mem_map.1 hw
  rcases List.mem_cons.1 hi with h | h
  · exact nestAt_ne_frameAt n n k 6 (by decide) h
  · have hdir := firstFault_lt h
    unfold frameAt at hdir
    omega

/-- A waiting FRAME_LOAD fails for the step as it stood before the transmission ended (R108). -/
theorem mutedEnd_completes {w : LoadWait} (h : (s.buc.get n).loadWait = some w) :
    s.Completes n .frameLoad .fail .busMute ⟨w.w11, 0, 0, 0, 0⟩ [] [] (s.mutedEnd n tr) := by
  have hsequencer := muteSlots_sequencer n (s.nacked n tr.slot)
  have hwait : (((s.nacked n tr.slot).muteSlots n).buc.get n).loadWait = some w := by
    rw [muteSlots_buc, nacked_buc]; exact h
  have hlast := changeSlot_atBus (FrameSlot.afterFrame_nack tr) (mem_statusWords n tr.slot)
    (((s.nacked n tr.slot).muteSlots n).failLoad n)
  have hfails := (failLoad_completes hwait).congr (s := s) (by rw [hsequencer]; rfl) (by rw [hsequencer]; rfl)
    (by rw [hsequencer]; rfl) (muteSlots_sent n _)
  rw [mutedEnd, muteBus_eq]
  simpa only [Completes, Sends, hlast.nsq, hlast.sent] using hfails

theorem mutedEnd_sent (h : (s.buc.get n).loadWait = none) : (s.mutedEnd n tr).sent = s.sent := by
  have hlast := changeSlot_atBus (FrameSlot.afterFrame_nack tr) (mem_statusWords n tr.slot)
    ((s.nacked n tr.slot).muteSlots n)
  have hwait : (((s.nacked n tr.slot).muteSlots n).buc.get n).loadWait = none := by
    rw [muteSlots_buc, nacked_buc]; exact h
  rw [mutedEnd, muteBus_eq, failLoad_none hwait, hlast.sent, muteSlots_sent]
  rfl

theorem mutedEnd_state (h : (s.buc.get n).mute = false) : (s.mutedEnd n tr).Shows n := by
  have hmute : ((s.nacked n tr.slot).buc.get n).mute = false := by rw [nacked_buc]; exact h
  refine (mutedEnd_acts n tr s).shows (muteSlots_shows hmute) ?_ (by simp [statusWords])
  rw [mutedEnd_buc, muteSlots_buc]
  rfl

theorem mutedEnd_same (n : NestId) (tr : Transmission) (s : Part) : s.mutedEnd n tr =
    { s with
      buc := (s.mutedEnd n tr).buc, nsq := (s.mutedEnd n tr).nsq, mem := (s.mutedEnd n tr).mem
      sent := (s.mutedEnd n tr).sent, factor := (s.mutedEnd n tr).factor, firstFault := (s.mutedEnd n tr).firstFault } := by
  have hacts := mutedEnd_acts n tr s
  have hsame := hacts.same
  have hmuted := muteSlots_same n (s.nacked n tr.slot)
  rw [hacts.factor, hacts.firstFault]
  generalize s.mutedEnd n tr = p at hsame ⊢
  generalize (s.nacked n tr.slot).muteSlots n = t at hsame hmuted ⊢
  exact hsame.trans (congrArg (fun t : Part => { t with buc := p.buc, nsq := p.nsq, mem := p.mem, sent := p.sent }) hmuted)

theorem mutedEnd_nestOnly (n : NestId) (tr : Transmission) (s : Part) : s.NestOnly n (s.mutedEnd n tr) :=
  ((nacked_atBus n tr.slot s).nestOnly.trans (muteSlots_nestOnly n _)).trans (mutedEnd_acts n tr s).nestOnly

theorem mutedEnd_setsOnly (n : NestId) (tr : Transmission) (s : Part) :
    s.SetsOnly [factorFault n, factorFirstFault] (s.mutedEnd n tr) := by
  have hsets := muteSlots_setsOnly n (s.nacked n tr.slot)
  rwa [SetsOnly, ← (mutedEnd_acts n tr s).factor] at hsets

theorem mutedEnd_step (n : NestId) (tr : Transmission) (s : Part) :
    ((s.mutedEnd n tr).nsq.get n).step = (s.nsq.get n).step := by
  rw [(mutedEnd_acts n tr s).step, muteSlots_sequencer]
  rfl

end Part

/-- Settles O38, by the count of each end; the 16th nack in a row by the stages of a mute. -/
theorem transmissionEnds : Obligations.TransmissionEnds := by
  intro n t s b f single ended counted acked htx
  have hact (how : TransmissionEnd) : exec (.transmissionEnd n how) s = s.act (·.transmissionEnds n how) := rfl
  refine ⟨answers_of_act (hact _) ?_, fun hfew => ?_, fun hlast hpending => ?_, fun il => answers_of_act (hact _) ?_⟩
  · rw [Part.transmissionEnds_acknowledged htx]
    exact Part.arbitrate_arbitrates n _
  · refine answers_of_act (hact _) ?_
    rw [Part.transmissionEnds_notAcknowledged htx, if_neg (Nat.not_le.2 hfew), Part.nacked_afterFrame]
    exact Part.arbitrate_arbitrates n _
  · refine answers_of_act (hact _) ?_
    have hbuc := Part.mutedEnd_buc n t s.part
    rw [Part.transmissionEnds_notAcknowledged htx, if_pos hlast.ge, ← Part.mutedEnd, Part.mutedEnd_arbitrate hpending]
    refine ⟨by rw [hbuc], by rw [hbuc]; exact hlast, by rw [hbuc], by rw [hbuc], by rw [hbuc], by rw [hbuc],
      fun j => ⟨Part.mutedEnd_slot n t j s.part, fun h => Part.mutedEnd_shows ?_⟩, Part.mutedEnd_records n t _,
      Part.mutedEnd_state, fun w hw => Part.mutedEnd_completes hw, Part.mutedEnd_sent, Part.mutedEnd_step n t _,
      Part.mutedEnd_nacks n t _, Part.mutedEnd_setsOnly n t _, Part.mutedEnd_stores n t _, Part.mutedEnd_nestOnly n t _,
      Part.mutedEnd_same n t _⟩
    by_cases hr : (s.part.slot n j).state = .running
    · exact .inl hr
    · simp only [hr, decide_false, Bool.false_or, Bool.false_eq_true, decide_eq_true_eq, false_or] at h
      exact .inr h
  · rw [Part.transmissionEnds_lost htx]
    refine ⟨by rw [Part.slot, Bank.get_put_same, Bank.get_put_same], fun j hj => by simp [Part.slot, Ne.symm hj], by simp [b], ?_, rfl⟩
    exact ⟨.refl n _, .refl n _, .refl n _, .put n _ _, .refl n _, .refl n _⟩

end Sys2Proof.Machine
end

section
/-! One receive filter as the operations on it see it, CAPTURE_ARM, and a CHECK_FRAME at its hand-off (R111, R112, R113). -/

namespace Sys2Proof.Machine

theorem mem_filtersOf {mask : Byte} {k : Fin 8} : k ∈ filtersOf mask ↔ mask.getLsbD k.val = true := by
  simp [filtersOf, List.mem_finRange]

theorem nodup_filtersOf (mask : Byte) : (filtersOf mask).Nodup := (List.nodup_finRange 8).filter _

/-- One bit for each ARMED filter. -/
theorem Bus.armedMask_getLsbD (b : Bus) (k : Fin 8) :
    b.armedMask.getLsbD k.val = (b.filters.get k).armed.isSome := by
  have hbit : ∀ i j : Fin 8, (1#8 <<< i.val).getLsbD j.val = decide (i = j) := by decide
  have hstep (m : Byte) (j : Fin 8) :
      (if (b.filters.get j).armed.isSome then m ||| 1#8 <<< j.val else m).getLsbD k.val =
        if j = k then (m.getLsbD k.val || (b.filters.get k).armed.isSome) else m.getLsbD k.val := by
    by_cases hj : j = k
    · subst hj
      split
      · next h => rw [BitVec.getLsbD_or, hbit]; simp [h]
      · next h => simp [h]
    · rw [if_neg hj]
      split
      · rw [BitVec.getLsbD_or, hbit]; simp [hj]
      · rfl
  have h := foldl_view (view := fun m : Byte => m.getLsbD k.val) (F := fun x => x || (b.filters.get k).armed.isSome)
    (List.nodup_finRange 8) hstep 0
  exact (h.trans (if_pos (List.mem_finRange k))).trans (by simp)

/-- A receive filter, and the words of its entry in the capture table. -/
structure FilterView where
  filter : Filter
  words : Fin 8 → W32

namespace FilterView

/-- Word `i` of the entry written. -/
def write (i : Nat) (x : W32) (v : FilterView) : FilterView :=
  { v with words := fun l => if l.val = i then x else v.words l }

@[simp] theorem write_words (i : Nat) (x : W32) (v : FilterView) (l : Fin 8) :
    (v.write i x).words l = if l.val = i then x else v.words l := rfl

@[simp] theorem write_filter (i : Nat) (x : W32) (v : FilterView) : (v.write i x).filter = v.filter := rfl

/-- w4 written (R110, R112, R113). -/
def flagsShown (v : FilterView) : FilterView := v.write 4 v.filter.record.flagsWord

/-- The whole capture record written (R110, R111). -/
def shown (v : FilterView) : FilterView :=
  let r := v.filter.record
  ((((v.write 2 (r.payload.extractLsb' 0 32)).write 3 (r.payload.extractLsb' 32 32)).write 5 r.arrival).write 7
    r.identWord).write 6 r.count |>.flagsShown

theorem shown_words (v : FilterView) :
    v.shown.words 2 = v.filter.record.payload.extractLsb' 0 32 ∧
      v.shown.words 3 = v.filter.record.payload.extractLsb' 32 32 ∧ v.shown.words 4 = v.filter.record.flagsWord ∧
      v.shown.words 5 = v.filter.record.arrival ∧ v.shown.words 6 = v.filter.record.count ∧
      v.shown.words 7 = v.filter.record.identWord := by
  simp [shown, flagsShown]

/-- DISARMED, its capture kept (R111). -/
def disarmed (v : FilterView) : FilterView := { v with filter := { v.filter with armed := none } }

/-- ARMED from its entry, with its capture record cleared (R111). -/
def armed (v : FilterView) : FilterView :=
  { v with
    filter := ⟨some ⟨bitAt (v.words 0) 31, field (v.words 0) 0 29, field (v.words 1) 0 29⟩, Reset.capture⟩ }.shown

end FilterView

namespace Part

variable {n : NestId} {k j : Fin 8} {s t : Part} {st : Step} {words : List Nat}

def capture (n : NestId) (k : Fin 8) (s : Part) : FilterView := ⟨s.filter n k, fun i => s.word (captureAt n k i)⟩

/-- The words of a capture record. -/
def recordWords (n : NestId) (k : Fin 8) : List Nat := [2, 3, 4, 5, 6, 7].map fun w => captureAt n k w

/-! ### Rules about one filter -/

theorem capture_modFilter (n : NestId) (j k : Fin 8) (f : Filter → Filter) (s : Part) : (s.modFilter n j f).capture n k =
    if j = k then { s.capture n k with filter := f (s.capture n k).filter } else s.capture n k := by
  unfold capture filter modFilter
  rw [modBuc_buc, Bank.get_modify_same, Bank.get_modify]
  split <;> rfl

/-- A word of the filter's entry written. -/
theorem capture_put {i : Nat} (hi : i < 8) (n : NestId) (j k : Fin 8) (x : W32) (s : Part) :
    (s.put (captureAt n j i) x).capture n k = if j = k then (s.capture n k).write i x else s.capture n k := by
  have hword (l : Fin 8) : (s.put (captureAt n j i) x).word (captureAt n k l) =
      if j = k ∧ l.val = i then x else s.word (captureAt n k l) := by
    rw [put_word]
    simp only [captureAt_eq_iff hi l.isLt, eq_comm (a := i)]
  unfold capture
  simp only [hword]
  by_cases h : j = k
  · simp only [h, true_and, if_true]; rfl
  · simp only [h, false_and, if_false]; rfl

theorem capture_writeCaptureFlags (n : NestId) (j k : Fin 8) (s : Part) :
    (s.writeCaptureFlags n j).capture n k = if j = k then (s.capture n k).flagsShown else s.capture n k := by
  unfold writeCaptureFlags
  rw [capture_put (by decide)]
  split
  · next h => subst h; rfl
  · rfl

theorem capture_writeCapture (n : NestId) (j k : Fin 8) (s : Part) :
    (s.writeCapture n j).capture n k = if j = k then (s.capture n k).shown else s.capture n k := by
  unfold writeCapture
  dsimp only
  rw [capture_writeCaptureFlags, capture_put (by decide), capture_put (by decide), capture_put (by decide),
    capture_put (by decide), capture_put (by decide)]
  split
  · next h => subst h; rfl
  · rfl

theorem writeCapture_atBus (hw : ∀ i ∈ recordWords n k, i ∈ words) (s : Part) : AtBus n words s (s.writeCapture n k) := by
  have hput {i : Nat} (hi : i ∈ [2, 3, 4, 5, 6, 7]) : captureAt n k i ∈ words := hw _ (List.mem_map.2 ⟨i, hi, rfl⟩)
  exact (((((AtBus.refl.put (hput (by decide))).put (hput (by decide))).put (hput (by decide))).put
    (hput (by decide))).put (hput (by decide))).put (hput (by decide))

/-! ### CAPTURE_ARM (R111) -/

/-- The filters of a mask disarmed. -/
def disarmFilters (n : NestId) (mask : Byte) (s : Part) : Part :=
  (filtersOf mask).foldl (fun s k => s.modFilter n k fun x => { x with armed := none }) s

/-- The filters of a mask armed. -/
def armFilters (n : NestId) (mask : Byte) (s : Part) : Part := (filtersOf mask).foldl (fun s k => s.armFilter n k) s

theorem handCaptureArm_eq (hp : s.powered n = true) (st : Step) :
    let t := (s.disarmFilters n (field (st.w 2) 8 8)).armFilters n (field (st.w 2) 0 8)
    s.handCaptureArm n st = (t, .done .pass .none ⟨place (t.buc.get n).armedMask 0, 0, 0, 0, 0⟩) := by
  simp only [handCaptureArm, hp, Bool.not_true, Bool.false_eq_true, if_false]
  rfl

theorem disarmFilters_capture (n : NestId) (mask : Byte) (k : Fin 8) (s : Part) : (s.disarmFilters n mask).capture n k =
    if mask.getLsbD k.val then (s.capture n k).disarmed else s.capture n k := by
  refine (foldl_view (F := FilterView.disarmed) (nodup_filtersOf mask) (fun t j => capture_modFilter n j k _ t) s).trans ?_
  simp only [mem_filtersOf]

theorem armFilter_capture (n : NestId) (j k : Fin 8) (s : Part) :
    (s.armFilter n j).capture n k = if j = k then (s.capture n k).armed else s.capture n k := by
  unfold armFilter
  dsimp only
  rw [capture_writeCapture, capture_modFilter]
  split
  · next h => subst h; rfl
  · rfl

theorem armFilters_capture (n : NestId) (mask : Byte) (k : Fin 8) (s : Part) : (s.armFilters n mask).capture n k =
    if mask.getLsbD k.val then (s.capture n k).armed else s.capture n k := by
  refine (foldl_view (F := FilterView.armed) (nodup_filtersOf mask) (fun t j => armFilter_capture n j k t) s).trans ?_
  simp only [mem_filtersOf]

theorem disarmFilters_atBus (n : NestId) (mask : Byte) (s : Part) : AtBus n words s (s.disarmFilters n mask) :=
  AtBus.refl.foldl fun _ _ _ _ => AtBus.refl.modBuc

theorem armFilters_atBus (n : NestId) (mask : Byte) (s : Part) :
    AtBus n ((List.finRange 8).flatMap fun k => if mask.getLsbD k.val then recordWords n k else []) s
      (s.armFilters n mask) :=
  AtBus.refl.foldl fun t _ k hk => AtBus.refl.modBuc.trans (writeCapture_atBus (fun i hi =>
    List.mem_flatMap.2 ⟨k, List.mem_finRange k, by rwa [if_pos (mem_filtersOf.1 hk)]⟩) _)

theorem modFilter_buc (n : NestId) (k : Fin 8) (g : Filter → Filter) (s : Part) : (s.modFilter n k g).buc.get n =
    { s.buc.get n with filters := ((s.modFilter n k g).buc.get n).filters } := by
  simp [modFilter]

theorem armFilter_buc (n : NestId) (k : Fin 8) (s : Part) : (s.armFilter n k).buc.get n =
    { s.buc.get n with filters := ((s.armFilter n k).buc.get n).filters } := modFilter_buc n k _ s

/-- The filters alone change. -/
theorem armFilters_buc (n : NestId) (arm disarm : Byte) (s : Part) :
    ((s.disarmFilters n disarm).armFilters n arm).buc.get n =
      { s.buc.get n with filters := (((s.disarmFilters n disarm).armFilters n arm).buc.get n).filters } := by
  have hdisarm : (s.disarmFilters n disarm).buc.get n =
      { s.buc.get n with filters := ((s.disarmFilters n disarm).buc.get n).filters } :=
    List.foldlRecOn (motive := fun t : Part => t.buc.get n = { s.buc.get n with filters := (t.buc.get n).filters }) _ _ rfl
      fun t ht k _ => by rw [modFilter_buc, ht]
  exact List.foldlRecOn (motive := fun t : Part => t.buc.get n = { s.buc.get n with filters := (t.buc.get n).filters }) _ _
    hdisarm fun t ht k _ => by rw [armFilter_buc, ht]

/-! ### A capture examined (R113) -/

/-- FRESH cleared, and shown. -/
def examined (n : NestId) (k : Fin 8) (s : Part) : Part :=
  (s.modFilter n k fun x => { x with record := { x.record with fresh := false } }).writeCaptureFlags n k

/-- A controller with CHECK_FRAME `c` or none. -/
def withCheck (n : NestId) (c : Option CheckFrame) (s : Part) : Part := s.modBuc n fun b => { b with check := c }

variable {c : CheckFrame}

theorem examine_accepted (h : (s.buc.get n).check = some c) (ha : c.accepts (s.filter n c.filter).record.payload = true) :
    s.examine n = ((s.examined n c.filter).withCheck n none, some (c.examine (s.filter n c.filter).record).results) := by
  simp only [examine, h]
  exact if_pos ha

theorem examine_rejected (h : (s.buc.get n).check = some c) (ha : ¬ c.accepts (s.filter n c.filter).record.payload = true) :
    s.examine n = ((s.examined n c.filter).withCheck n (c.examine (s.filter n c.filter).record), none) := by
  simp only [examine, h]
  exact if_neg ha

/-- FRESH cleared and shown, with CHECK_FRAME `x` on the controller. -/
def examinedWith (n : NestId) (k : Fin 8) (x : Option CheckFrame) (s : Part) : Part :=
  let r : Capture := { (s.filter n k).record with fresh := false }
  { s with
    buc := s.buc.put n
      { s.buc.get n with check := x, filters := (s.buc.get n).filters.put k { s.filter n k with record := r } }
    mem := s.mem.setWord (captureAt n k 4) r.flagsWord }

theorem withCheck_examined (n : NestId) (k : Fin 8) (x : Option CheckFrame) (s : Part) :
    (s.withCheck n x).examined n k = s.examinedWith n k x := by
  simp [examinedWith, withCheck, examined, modFilter, writeCaptureFlags, modBuc, Bank.modify, put, filter]

theorem examinedWith_withCheck (n : NestId) (k : Fin 8) (x y : Option CheckFrame) (s : Part) :
    (s.examinedWith n k x).withCheck n y = s.examinedWith n k y := by
  simp [examinedWith, withCheck, modBuc, Bank.modify]

/-- A CHECK_FRAME just put on the controller examines the capture that its filter holds. -/
theorem withCheck_examine_accepted (ha : c.accepts (s.filter n c.filter).record.payload = true) :
    (s.withCheck n c).examine n =
      (s.examinedWith n c.filter none, some (c.examine (s.filter n c.filter).record).results) := by
  have hfilter : (s.withCheck n c).filter n c.filter = s.filter n c.filter := by simp [withCheck, filter]
  rw [examine_accepted (c := c) (by simp [withCheck]) (by rwa [hfilter]), withCheck_examined, examinedWith_withCheck,
    hfilter]

theorem withCheck_examine_rejected (ha : ¬ c.accepts (s.filter n c.filter).record.payload = true) :
    (s.withCheck n c).examine n =
      (s.examinedWith n c.filter (c.examine (s.filter n c.filter).record), none) := by
  have hfilter : (s.withCheck n c).filter n c.filter = s.filter n c.filter := by simp [withCheck, filter]
  rw [examine_rejected (c := c) (by simp [withCheck]) (by rwa [hfilter]), withCheck_examined, examinedWith_withCheck,
    hfilter]

theorem handCheckFrame_eq (hp : s.powered n = true) (hk : (field (st.w 2) 0 8 : Byte).toNat = k.val) :
    let c : CheckFrame := ⟨k, st.w 4 ++ st.w 3, st.w 6 ++ st.w 5, 0, 0, none⟩
    s.handCheckFrame n st =
      if bitAt (st.w 2) 8 then ((s.withCheck n c).examined n k, .started)
      else if (s.filter n k).record.fresh then
        match (s.withCheck n c).examine n with
        | (t, some r) => (t, .pass r)
        | (t, none) => (t, .started)
      else (s.withCheck n c, .started) := by
  have hfilter (c : CheckFrame) : (s.withCheck n c).filter n k = s.filter n k := by simp [withCheck, filter]
  simp only [handCheckFrame, indexBelow_eq_some hk, hp, Bool.not_true, Bool.false_eq_true, if_false]
  rw [← hfilter]
  rfl

end Part
end Sys2Proof.Machine
end

section
/-! The reception of a data frame: which filters take it, and the CHECK_FRAME that waits on one (R109, R110, R113). -/

namespace Sys2Proof.Machine

/-- The identifier bits that a mask names in a format (R110). -/
theorem identOf_getLsbD (extended : Bool) (m : BitVec 29) (i : Nat) :
    (identOf extended m).getLsbD i = (m.getLsbD i && decide (i < if extended then 29 else 11)) := by
  cases extended with
  | true =>
    by_cases h : i < 29
    · simp [identOf, h]
    · simp [identOf, h, BitVec.getLsbD_of_ge m i (by omega)]
  | false =>
    have hmask : (0x7FF#29).getLsbD i = decide (i < 11) := by
      have : (0x7FF#29).toNat = 2 ^ 11 - 1 := rfl
      rw [BitVec.getLsbD, this, Nat.testBit_two_pow_sub_one]
    simp [identOf, hmask]

/-- A filter matches a frame of its format that agrees with it in every identifier bit that its mask names (R110). -/
theorem FilterDef.matchesFrame_iff (d : FilterDef) (f : Frame) : d.matchesFrame f = true ↔
    d.extended = f.extended ∧ ∀ i, i < (if f.extended then 29 else 11) → d.mask.getLsbD i = true →
      f.ident.getLsbD i = d.ident.getLsbD i := by
  simp only [matchesFrame, Bool.and_eq_true, decide_eq_true_eq]
  refine and_congr_right fun he => ?_
  rw [BitVec.eq_of_getLsbD_eq_iff]
  simp only [BitVec.getLsbD_and, identOf_getLsbD, he]
  refine ⟨fun h i hi hm => ?_, fun h i _ => ?_⟩
  · have hlt : i < 29 := by split at hi <;> omega
    simpa [hm, hi] using h i hlt
  · by_cases hi : i < if f.extended then 29 else 11
    · cases hm : d.mask.getLsbD i with
      | true => simp [h i hi hm]
      | false => simp
    · simp [hi]

/-- An ARMED filter that matches the frame. -/
def Filter.takes (f : Frame) (x : Filter) : Bool := x.armed.any (·.matchesFrame f)

/-- A filter's view once it has taken a frame, and the capture has been examined where `examine` holds (R110, R113). -/
def FilterView.taken (f : Frame) (il : BitVec 4) (now : W32) (examine : Bool) (v : FilterView) : FilterView :=
  let w := { v with filter := { v.filter with record := v.filter.record.take f il now } }.shown
  if examine then { w with filter := { w.filter with record := { w.filter.record with fresh := false } } }.flagsShown else w

namespace Part

variable {n : NestId} {k j : Fin 8} {s t u : Part} {f : Frame} {il : BitVec 4} {words : List Nat} {c : CheckFrame}

/-! ### A frame offered to one filter -/

/-- A frame taken into a filter (R110). -/
def take (n : NestId) (f : Frame) (il : BitVec 4) (k : Fin 8) (s : Part) : Part :=
  (s.modFilter n k fun x => { x with record := x.record.take f il s.timebase }).writeCapture n k

/-- A CHECK_FRAME waits on filter `k`. -/
def checks (n : NestId) (k : Fin 8) (s : Part) : Bool := decide ((s.buc.get n).check.map CheckFrame.filter = some k)

theorem checks_eq_true : s.checks n k = true ↔ ∃ c, (s.buc.get n).check = some c ∧ c.filter = k := by
  simp [checks]

theorem take_record (n : NestId) (f : Frame) (il : BitVec 4) (k : Fin 8) (s : Part) :
    ((s.take n f il k).filter n k).record = (s.filter n k).record.take f il s.timebase := by
  simp [take, writeCapture, writeCaptureFlags, modFilter, filter]

theorem take_check (n : NestId) (f : Frame) (il : BitVec 4) (k : Fin 8) (s : Part) :
    ((s.take n f il k).buc.get n).check = (s.buc.get n).check := by
  simp [take, writeCapture, writeCaptureFlags, modFilter]

/-- What the CHECK_FRAME `c` becomes with the capture that filter `k` now takes. -/
def reexamined (n : NestId) (f : Frame) (il : BitVec 4) (k : Fin 8) (c : CheckFrame) (s : Part) : CheckFrame :=
  c.examine ((s.filter n k).record.take f il s.timebase)

theorem offerFrame_passed (h : (s.filter n k).takes f = false) : s.offerFrame n f il k = s := by
  unfold offerFrame Filter.takes at *
  cases hd : (s.filter n k).armed with
  | none => rfl
  | some d => simp_all

theorem offerFrame_armed (h : (s.filter n k).takes f = true) : s.offerFrame n f il k =
    if s.checks n k then
      match (s.take n f il k).examine n with
      | (t, some r) => t.completeStep n .checkFrame .pass .none r
      | (t, none) => t
    else s.take n f il k := by
  unfold Filter.takes at h
  unfold offerFrame
  cases hd : (s.filter n k).armed with
  | none => simp [hd] at h
  | some d =>
    have hm : d.matchesFrame f = true := by simpa [hd] using h
    dsimp only
    rw [if_pos hm, checks, ← take_check n f il k s]
    simp only [decide_eq_true_eq]
    rfl

theorem offerFrame_taken (h : (s.filter n k).takes f = true) (hc : s.checks n k = false) :
    s.offerFrame n f il k = s.take n f il k := by
  rw [offerFrame_armed h, hc]
  rfl

theorem offerFrame_accepted (h : (s.filter n c.filter).takes f = true) (hc : (s.buc.get n).check = some c)
    (ha : c.accepts (payloadPrefix f.length f.payload) = true) : s.offerFrame n f il c.filter =
      (((s.take n f il c.filter).examined n c.filter).withCheck n none).completeStep n .checkFrame .pass .none
        (s.reexamined n f il c.filter c).results := by
  rw [offerFrame_armed h, if_pos (checks_eq_true.2 ⟨c, hc, rfl⟩),
    examine_accepted ((take_check ..).trans hc) (by rw [take_record]; exact ha), take_record]
  rfl

theorem offerFrame_rejected (h : (s.filter n c.filter).takes f = true) (hc : (s.buc.get n).check = some c)
    (ha : ¬ c.accepts (payloadPrefix f.length f.payload) = true) : s.offerFrame n f il c.filter =
      ((s.take n f il c.filter).examined n c.filter).withCheck n (s.reexamined n f il c.filter c) := by
  rw [offerFrame_armed h, if_pos (checks_eq_true.2 ⟨c, hc, rfl⟩),
    examine_rejected ((take_check ..).trans hc) (by rw [take_record]; exact ha), take_record]
  rfl

/-- What a frame offered to filter `k` does: the four outcomes. -/
inductive Offered (n : NestId) (f : Frame) (il : BitVec 4) (k : Fin 8) (s : Part) : Part → Prop
  | passed (h : (s.filter n k).takes f = false) : Offered n f il k s s
  | taken (h : (s.filter n k).takes f = true) (hc : s.checks n k = false) : Offered n f il k s (s.take n f il k)
  | accepted (c : CheckFrame) (h : (s.filter n k).takes f = true) (hc : (s.buc.get n).check = some c) (hk : c.filter = k) :
    Offered n f il k s ((((s.take n f il k).examined n k).withCheck n none).completeStep n .checkFrame .pass .none
      (s.reexamined n f il k c).results)
  | rejected (c : CheckFrame) (h : (s.filter n k).takes f = true) (hc : (s.buc.get n).check = some c) (hk : c.filter = k) :
    Offered n f il k s (((s.take n f il k).examined n k).withCheck n (s.reexamined n f il k c))

theorem offerFrame_offered (n : NestId) (f : Frame) (il : BitVec 4) (k : Fin 8) (s : Part) :
    Offered n f il k s (s.offerFrame n f il k) := by
  cases h : (s.filter n k).takes f with
  | false => rw [offerFrame_passed h]; exact .passed h
  | true =>
    cases hk : s.checks n k with
    | false => rw [offerFrame_taken h hk]; exact .taken h hk
    | true =>
      obtain ⟨c, hc, rfl⟩ := checks_eq_true.1 hk
      by_cases ha : c.accepts (payloadPrefix f.length f.payload) = true
      · rw [offerFrame_accepted h hc ha]; exact .accepted c h hc rfl
      · rw [offerFrame_rejected h hc ha]; exact .rejected c h hc rfl

/-! ### What it leaves -/

theorem take_capture (n : NestId) (f : Frame) (il : BitVec 4) (j k : Fin 8) (s : Part) : (s.take n f il j).capture n k =
    if j = k then (s.capture n k).taken f il s.timebase false else s.capture n k := by
  rw [take, capture_writeCapture, capture_modFilter]
  split <;> rfl

theorem examined_capture (n : NestId) (j k : Fin 8) (s : Part) : (s.examined n j).capture n k =
    if j = k then
      { s.capture n k with
        filter :=
          { (s.capture n k).filter with record := { (s.capture n k).filter.record with fresh := false } } }.flagsShown
    else s.capture n k := by
  rw [examined, capture_writeCaptureFlags, capture_modFilter]
  split <;> rfl

theorem capture_modBuc {g : Bus → Bus} (hg : ∀ b, (g b).filters = b.filters) (k : Fin 8) (s : Part) :
    (s.modBuc n g).capture n k = s.capture n k := by
  unfold capture filter
  rw [modBuc_buc, Bank.get_modify_same, hg]
  rfl

theorem withCheck_capture (n : NestId) (k : Fin 8) (x : Option CheckFrame) (s : Part) :
    (s.withCheck n x).capture n k = s.capture n k := by
  rw [withCheck, capture_modBuc]
  exact fun _ => rfl

theorem completeStep_capture (k : Fin 8) (kind : Kind) (v : Verdict) (d : Detail) (r : Results) (s : Part) :
    (s.completeStep n kind v d r).capture n k = s.capture n k := by
  simp only [capture, completeStep_word, filter, completeStep_buc]

theorem offerFrame_capture (n : NestId) (f : Frame) (il : BitVec 4) (j k : Fin 8) (s : Part) :
    (s.offerFrame n f il j).capture n k =
      if j = k ∧ (s.filter n k).takes f = true then (s.capture n k).taken f il s.timebase (s.checks n k)
      else s.capture n k := by
  have hexamined (x : Option CheckFrame) (h : (s.filter n j).takes f = true) (hc : s.checks n j = true) :
      (((s.take n f il j).examined n j).withCheck n x).capture n k =
        if j = k ∧ (s.filter n k).takes f = true then (s.capture n k).taken f il s.timebase (s.checks n k)
        else s.capture n k := by
    rw [withCheck_capture, examined_capture, take_capture]
    by_cases hj : j = k
    · subst hj; simp only [h, hc]; rfl
    · simp only [hj, false_and, if_false]
  have hoffered := offerFrame_offered n f il j s
  generalize s.offerFrame n f il j = p at hoffered ⊢
  cases hoffered with
  | passed h => rw [if_neg fun ⟨hj, ht⟩ => by subst hj; rw [h] at ht; cases ht]
  | taken h hc =>
    rw [take_capture]
    by_cases hj : j = k
    · subst hj; simp only [h, hc]; rfl
    · simp only [hj, false_and, if_false]
  | accepted c h hc hk => rw [completeStep_capture]; exact hexamined none h (checks_eq_true.2 ⟨c, hc, hk⟩)
  | rejected c h hc hk => exact hexamined _ h (checks_eq_true.2 ⟨c, hc, hk⟩)

theorem take_atBus (hw : ∀ i ∈ recordWords n k, i ∈ words) (s : Part) : AtBus n words s (s.take n f il k) :=
  AtBus.refl.modBuc.trans (writeCapture_atBus hw _)

theorem examined_atBus (hw : ∀ i ∈ recordWords n k, i ∈ words) (s : Part) : AtBus n words s (s.examined n k) :=
  AtBus.refl.modBuc.put (hw _ (by simp [recordWords]))

/-- Taken and examined, with any CHECK_FRAME left. -/
theorem reexamined_atBus (hw : ∀ i ∈ recordWords n k, i ∈ words) (x : Option CheckFrame) (s : Part) :
    AtBus n words s (((s.take n f il k).examined n k).withCheck n x) :=
  ((take_atBus hw s).trans (examined_atBus hw _)).modBuc

theorem offerFrame_acts (hw : ∀ i ∈ recordWords n k, i ∈ words) (f : Frame) (il : BitVec 4) (s : Part) :
    s.BusActs n words (s.offerFrame n f il k) := by
  have hoffered := offerFrame_offered n f il k s
  generalize s.offerFrame n f il k = p at hoffered ⊢
  cases hoffered with
  | passed => exact .refl
  | taken => exact (take_atBus hw s).acts
  | accepted => exact (reexamined_atBus hw none s).acts.completeStep ..
  | rejected c => exact (reexamined_atBus hw _ s).acts

/-- Of the controller the filters and the CHECK_FRAME alone change. -/
theorem offerFrame_buc (n : NestId) (f : Frame) (il : BitVec 4) (k : Fin 8) (s : Part) :
    (s.offerFrame n f il k).buc.get n =
      { s.buc.get n with
        check := ((s.offerFrame n f il k).buc.get n).check, filters := ((s.offerFrame n f il k).buc.get n).filters } := by
  have hoffered := offerFrame_offered n f il k s
  generalize s.offerFrame n f il k = p at hoffered ⊢
  cases hoffered with
  | passed => rfl
  | taken => simp [take, writeCapture, writeCaptureFlags, modFilter]
  | accepted c => simp [take, examined, withCheck, writeCapture, writeCaptureFlags, modFilter]
  | rejected c => simp [take, examined, withCheck, writeCapture, writeCaptureFlags, modFilter]

/-- With no CHECK_FRAME waiting on the filter, the offer reaches neither it nor the sequencer. -/
theorem offerFrame_unchecked (h : s.checks n k = false) : ((s.offerFrame n f il k).buc.get n).check = (s.buc.get n).check ∧
    (s.offerFrame n f il k).nsq = s.nsq ∧ (s.offerFrame n f il k).sent = s.sent := by
  cases ht : (s.filter n k).takes f with
  | false => rw [offerFrame_passed ht]; exact ⟨rfl, rfl, rfl⟩
  | true => rw [offerFrame_taken ht h]; exact ⟨take_check .., rfl, rfl⟩

/-! ### A frame offered to every filter -/

/-- From part `s` to part `t` frames have been offered to filters other than `k`. -/
structure ApartFrom (n : NestId) (k : Fin 8) (s t : Part) : Prop where
  capture : t.capture n k = s.capture n k
  checks : t.checks n k = s.checks n k
  time : t.timebase = s.timebase
  kept : (s.buc.get n).check = none ∨ s.checks n k = true →
    (t.buc.get n).check = (s.buc.get n).check ∧ t.nsq = s.nsq ∧ t.sent = s.sent

namespace ApartFrom

theorem refl : ApartFrom n k s s := ⟨rfl, rfl, rfl, fun _ => ⟨rfl, rfl, rfl⟩⟩

theorem trans (h : ApartFrom n k s t) (g : ApartFrom n k t u) : ApartFrom n k s u where
  capture := g.capture.trans h.capture
  checks := g.checks.trans h.checks
  time := g.time.trans h.time
  kept hs := by
    obtain ⟨hcheck, hnsq, hsent⟩ := h.kept hs
    obtain ⟨gcheck, gnsq, gsent⟩ := g.kept (hs.imp hcheck.trans h.checks.trans)
    exact ⟨gcheck.trans hcheck, gnsq.trans hnsq, gsent.trans hsent⟩

theorem filter (h : ApartFrom n k s t) : t.filter n k = s.filter n k := congrArg FilterView.filter h.capture

end ApartFrom

theorem checks_withCheck (x : Option CheckFrame) :
    (s.withCheck n x).checks n k = decide (x.map CheckFrame.filter = some k) := by
  simp [checks, withCheck]

theorem checks_other (hc : (s.buc.get n).check = some c) (hj : c.filter ≠ k) : s.checks n k = false := by
  simp [checks, hc, hj]

theorem offerFrame_checks (hj : j ≠ k) (f : Frame) (il : BitVec 4) (s : Part) :
    (s.offerFrame n f il j).checks n k = s.checks n k := by
  have hoffered := offerFrame_offered n f il j s
  generalize s.offerFrame n f il j = p at hoffered ⊢
  cases hoffered with
  | passed => rfl
  | taken => rw [checks, checks, take_check]
  | accepted c h hc hk =>
    rw [checks_other hc (by rw [hk]; exact hj), checks, completeStep_buc, ← checks, checks_withCheck]
    rfl
  | rejected c h hc hk =>
    rw [checks_other hc (by rw [hk]; exact hj), checks_withCheck]
    simp [reexamined, CheckFrame.examine, hk, hj]

theorem offerFrame_apart (hj : j ≠ k) (f : Frame) (il : BitVec 4) (s : Part) :
    ApartFrom n k s (s.offerFrame n f il j) where
  capture := (offerFrame_capture ..).trans (if_neg fun h => hj h.1)
  checks := offerFrame_checks hj f il s
  time := (offerFrame_acts (fun _ => id) f il s).timebase
  kept h := offerFrame_unchecked <| by
    rcases h with h | h
    · simp [Part.checks, h]
    · obtain ⟨c, hc, hk⟩ := checks_eq_true.1 h
      exact checks_other hc (by rw [hk]; exact hj.symm)

/-- A frame offered to every filter of the nest (R110). -/
def offerFrames (n : NestId) (f : Frame) (il : BitVec 4) (s : Part) : Part :=
  (List.finRange 8).foldl (fun s k => s.offerFrame n f il k) s

/-- Of the offers to all filters the one to filter `k` stands between offers to the others. -/
theorem offerFrames_split (n : NestId) (f : Frame) (il : BitVec 4) (k : Fin 8) (s : Part) :
    ∃ t, ApartFrom n k s t ∧ ApartFrom n k (t.offerFrame n f il k) (s.offerFrames n f il) :=
  foldl_once (P := ApartFrom n k s) (Q := fun u => ∃ t, ApartFrom n k s t ∧ ApartFrom n k (t.offerFrame n f il k) u)
    (List.nodup_finRange 8) (List.mem_finRange k) .refl (fun _ h _ _ hj => h.trans (offerFrame_apart hj f il _))
    (fun t h => ⟨t, h, .refl⟩) fun _ ⟨t, h, g⟩ _ _ hj => ⟨t, h, g.trans (offerFrame_apart hj f il _)⟩

end Part
end Sys2Proof.Machine
end

section
/-! What a received data frame leaves of the nest, and the claim on reception (R109, R110, R113). -/

namespace Sys2Proof.Machine.Part

variable {n : NestId} {k : Fin 8} {s t : Part} {f : Frame} {il : BitVec 4} {c : CheckFrame}

/-! ### Filters and CHECK_FRAME after a frame -/

theorem offerFrames_capture (n : NestId) (f : Frame) (il : BitVec 4) (k : Fin 8) (s : Part) :
    (s.offerFrames n f il).capture n k =
      if (s.filter n k).takes f then (s.capture n k).taken f il s.timebase (s.checks n k) else s.capture n k := by
  obtain ⟨t, hbefore, hafter⟩ := offerFrames_split n f il k s
  rw [hafter.capture, offerFrame_capture, hbefore.filter, hbefore.capture, hbefore.time, hbefore.checks]
  simp only [true_and]

theorem offerFrames_unchecked (h : (s.buc.get n).check = none) : ((s.offerFrames n f il).buc.get n).check = none ∧
    (s.offerFrames n f il).sent = s.sent ∧ (s.offerFrames n f il).nsq = s.nsq := by
  obtain ⟨t, hbefore, hafter⟩ := offerFrames_split n f il 0 s
  obtain ⟨hcheck, hnsq, hsent⟩ := hbefore.kept (.inl h)
  have hnone : t.checks n 0 = false := by simp [checks, hcheck, h]
  obtain ⟨gcheck, gnsq, gsent⟩ := offerFrame_unchecked (f := f) (il := il) hnone
  obtain ⟨fcheck, fnsq, fsent⟩ := hafter.kept (.inl (gcheck.trans (hcheck.trans h)))
  exact ⟨fcheck.trans (gcheck.trans (hcheck.trans h)), fsent.trans (gsent.trans hsent), fnsq.trans (gnsq.trans hnsq)⟩

/-- Just before the frame is offered to the filter of CHECK_FRAME `c`, and just after. -/
theorem offerFrames_check (hc : (s.buc.get n).check = some c) : ∃ t : Part,
    (t.buc.get n).check = some c ∧ t.nsq = s.nsq ∧ t.sent = s.sent ∧ t.filter n c.filter = s.filter n c.filter ∧
      t.timebase = s.timebase ∧ ApartFrom n c.filter (t.offerFrame n f il c.filter) (s.offerFrames n f il) := by
  obtain ⟨t, hbefore, hafter⟩ := offerFrames_split n f il c.filter s
  obtain ⟨hcheck, hnsq, hsent⟩ := hbefore.kept (.inr (checks_eq_true.2 ⟨c, hc, rfl⟩))
  exact ⟨t, hcheck.trans hc, hnsq, hsent, hbefore.filter, hbefore.time, hafter⟩

theorem offerFrames_passed (hc : (s.buc.get n).check = some c) (h : (s.filter n c.filter).takes f = false) :
    ((s.offerFrames n f il).buc.get n).check = some c ∧ (s.offerFrames n f il).sent = s.sent ∧
      (s.offerFrames n f il).nsq = s.nsq := by
  obtain ⟨t, hcheck, hnsq, hsent, hfilter, -, hafter⟩ := offerFrames_check (f := f) (il := il) hc
  rw [offerFrame_passed (by rw [hfilter]; exact h)] at hafter
  obtain ⟨fcheck, fnsq, fsent⟩ := hafter.kept (.inr (checks_eq_true.2 ⟨c, hcheck, rfl⟩))
  exact ⟨fcheck.trans hcheck, fsent.trans hsent, fnsq.trans hnsq⟩

theorem offerFrames_accepted (hc : (s.buc.get n).check = some c) (h : (s.filter n c.filter).takes f = true)
    (ha : c.accepts (payloadPrefix f.length f.payload) = true) :
    ((s.offerFrames n f il).buc.get n).check = none ∧
      s.Completes n .checkFrame .pass .none (s.reexamined n f il c.filter c).results [] [] (s.offerFrames n f il) := by
  obtain ⟨t, hcheck, hnsq, hsent, hfilter, htime, hafter⟩ := offerFrames_check (f := f) (il := il) hc
  have hafterwards : t.reexamined n f il c.filter c = s.reexamined n f il c.filter c := by
    rw [reexamined, reexamined, hfilter, htime]
  rw [offerFrame_accepted (by rw [hfilter]; exact h) hcheck ha, hafterwards] at hafter
  obtain ⟨hdone, -⟩ := completeStep_completes s (((t.take n f il c.filter).examined n c.filter).withCheck n none) n
    .checkFrame .pass .none (s.reexamined n f il c.filter c).results [] hnsq (hsent.trans (List.append_nil _).symm)
  generalize hp : (((t.take n f il c.filter).examined n c.filter).withCheck n none).completeStep n .checkFrame .pass .none
    (s.reexamined n f il c.filter c).results = p at hafter hdone
  have hnone : (p.buc.get n).check = none := by
    rw [← hp, completeStep_buc, withCheck, modBuc_buc, Bank.get_modify_same]
  obtain ⟨fcheck, fnsq, fsent⟩ := hafter.kept (.inl hnone)
  refine ⟨fcheck.trans hnone, ?_⟩
  simpa only [Completes, Sends, fnsq, fsent] using hdone

theorem offerFrames_rejected (hc : (s.buc.get n).check = some c) (h : (s.filter n c.filter).takes f = true)
    (ha : ¬ c.accepts (payloadPrefix f.length f.payload) = true) :
    ((s.offerFrames n f il).buc.get n).check = some (s.reexamined n f il c.filter c) ∧
      (s.offerFrames n f il).sent = s.sent := by
  obtain ⟨t, hcheck, hnsq, hsent, hfilter, htime, hafter⟩ := offerFrames_check (f := f) (il := il) hc
  have hafterwards : t.reexamined n f il c.filter c = s.reexamined n f il c.filter c := by
    rw [reexamined, reexamined, hfilter, htime]
  rw [offerFrame_rejected (by rw [hfilter]; exact h) hcheck ha, hafterwards] at hafter
  have hleft : ((((t.take n f il c.filter).examined n c.filter).withCheck n
      (some (s.reexamined n f il c.filter c))).buc.get n).check = some (s.reexamined n f il c.filter c) := by
    rw [withCheck, modBuc_buc, Bank.get_modify_same]
  obtain ⟨fcheck, -, fsent⟩ := hafter.kept (.inr (checks_eq_true.2 ⟨_, hleft, rfl⟩))
  exact ⟨fcheck.trans hleft, fsent.trans hsent⟩

/-! ### The rest of the nest after a frame -/

/-- The words of every capture record. -/
def allRecordWords (n : NestId) : List Nat := (List.finRange 8).flatMap fun k => recordWords n k

theorem offerFrames_acts (n : NestId) (f : Frame) (il : BitVec 4) (s : Part) :
    s.BusActs n (allRecordWords n) (s.offerFrames n f il) :=
  List.foldlRecOn (motive := fun t => s.BusActs n (allRecordWords n) t) _ _ .refl fun t ht k _ =>
    ht.trans (offerFrame_acts (fun _ hi => List.mem_flatMap.2 ⟨k, List.mem_finRange k, hi⟩) f il t)

theorem offerFrames_buc (n : NestId) (f : Frame) (il : BitVec 4) (s : Part) : (s.offerFrames n f il).buc.get n =
    { s.buc.get n with
      check := ((s.offerFrames n f il).buc.get n).check, filters := ((s.offerFrames n f il).buc.get n).filters } :=
  List.foldlRecOn
    (motive := fun t : Part =>
      t.buc.get n = { s.buc.get n with check := (t.buc.get n).check, filters := (t.buc.get n).filters })
    _ _ rfl fun t ht k _ => by rw [offerFrame_buc, ht]

namespace TxApart

variable (h : TxApart n s t)
include h

theorem filter (k : Fin 8) : t.filter n k = s.filter n k := by
  obtain ⟨x, rfl⟩ := h
  simp [Part.filter, withTx]

theorem check : (t.buc.get n).check = (s.buc.get n).check := by
  obtain ⟨x, rfl⟩ := h
  simp [withTx]

theorem timebase : t.timebase = s.timebase := by
  obtain ⟨x, rfl⟩ := h
  rfl

theorem modFilter (k : Fin 8) (g : Filter → Filter) : TxApart n (s.modFilter n k g) (t.modFilter n k g) :=
  h.modBuc fun _ x => ⟨x, rfl⟩

theorem writeCaptureFlags (k : Fin 8) : TxApart n (s.writeCaptureFlags n k) (t.writeCaptureFlags n k) := by
  unfold Part.writeCaptureFlags
  rw [h.filter]
  exact h.put _ _

theorem writeCapture (k : Fin 8) : TxApart n (s.writeCapture n k) (t.writeCapture n k) := by
  unfold Part.writeCapture
  dsimp only
  rw [h.filter]
  exact (((((h.put _ _).put _ _).put _ _).put _ _).put _ _).writeCaptureFlags k

theorem take (f : Frame) (il : BitVec 4) (k : Fin 8) : TxApart n (s.take n f il k) (t.take n f il k) := by
  rw [Part.take, Part.take, h.timebase]
  exact (h.modFilter k _).writeCapture k

theorem examined (k : Fin 8) : TxApart n (s.examined n k) (t.examined n k) := (h.modFilter k _).writeCaptureFlags k

theorem withCheck (x : Option CheckFrame) : TxApart n (s.withCheck n x) (t.withCheck n x) := h.modBuc fun _ y => ⟨y, rfl⟩

theorem completeStep (k : Kind) (v : Verdict) (d : Detail) (r : Results) :
    TxApart n (s.completeStep n k v d r) (t.completeStep n k v d r) := by
  obtain ⟨x, rfl⟩ := h
  refine ⟨x, ?_⟩
  have hsame (c : Prop) [Decidable c] {p q : Part} : (if c then p.withTx n x else q.withTx n x) =
      (if c then p else q).withTx n x := by split <;> rfl
  have hsend : (s.withTx n x).sendOutcome n v d r = (s.sendOutcome n v d r).withTx n x := by
    unfold sendOutcome
    cases hs : (s.nsq.get n).step with
    | none => simp [withTx, hs]
    | some st => simp only [withTx, hs]; rfl
  rw [Part.completeStep, Part.completeStep, ← hsame, ← hsend]
  rfl

theorem offerFrame (f : Frame) (il : BitVec 4) (k : Fin 8) : TxApart n (s.offerFrame n f il k) (t.offerFrame n f il k) := by
  have hfilter := h.filter k
  cases ht : (s.filter n k).takes f with
  | false => rwa [offerFrame_passed ht, offerFrame_passed (by rw [hfilter, ht])]
  | true =>
    rw [← hfilter] at ht
    have hchecks : t.checks n k = s.checks n k := by rw [checks, checks, h.check]
    cases hk : s.checks n k with
    | false =>
      rw [offerFrame_taken ht (hchecks.trans hk), offerFrame_taken (hfilter ▸ ht) hk]
      exact h.take f il k
    | true =>
      obtain ⟨c, hc, rfl⟩ := checks_eq_true.1 hk
      have hre : t.reexamined n f il c.filter c = s.reexamined n f il c.filter c := by
        rw [reexamined, reexamined, hfilter, h.timebase]
      by_cases ha : c.accepts (payloadPrefix f.length f.payload) = true
      · rw [offerFrame_accepted ht (h.check.trans hc) ha, offerFrame_accepted (hfilter ▸ ht) hc ha, hre]
        exact (((h.take f il _).examined _).withCheck none).completeStep ..
      · rw [offerFrame_rejected ht (h.check.trans hc) ha, offerFrame_rejected (hfilter ▸ ht) hc ha, hre]
        exact ((h.take f il _).examined _).withCheck _

theorem offerFrames (f : Frame) (il : BitVec 4) : TxApart n (s.offerFrames n f il) (t.offerFrames n f il) :=
  TxApart.foldl _ h fun _ _ k h => h.offerFrame f il k

end TxApart

end Sys2Proof.Machine.Part
end

section
/-! The claim on reception, CAPTURE_ARM and CHECK_FRAME (R109 to R113). -/

namespace Sys2Proof.Machine

theorem Filter.takes_iff (f : Frame) (x : Filter) : x.takes f = true ↔
    ∃ d, x.armed = some d ∧ d.extended = f.extended ∧
      ∀ i, i < (if f.extended then 29 else 11) → d.mask.getLsbD i = true → f.ident.getLsbD i = d.ident.getLsbD i := by
  simp only [takes, Option.any_eq_true, FilterDef.matchesFrame_iff]

/-- The capture of a frame of the bus, whose identifier is as wide as its format (R110). -/
theorem Capture.take_eq {f : Frame} (hf : f.extended = true ∨ f.ident &&& 0x7FF#29 = f.ident) (il : BitVec 4) (now : W32)
    (c : Capture) : c.take f il now =
      ⟨payloadPrefix f.length f.payload, f.length, now, c.count + 1, f.ident, f.extended, il, true,
        c.overrun || c.fresh⟩ := by
  have hident : identOf f.extended f.ident = f.ident := by
    unfold identOf
    split
    · rfl
    · next h => exact hf.resolve_left h
  rw [take, hident]

theorem CheckFrame.accepts_iff (c : CheckFrame) (payload : BitVec 64) :
    c.accepts payload = true ↔ payload &&& c.mask = c.expected &&& c.mask := decide_eq_true_iff

/-- A CHECK_FRAME counts what it examines, up to the highest count (R113). -/
theorem CheckFrame.examine_eq (c : CheckFrame) (r : Capture) : c.examine r =
    { c with
      examined := if c.examined = 0xFFFF#16 then c.examined else c.examined + 1
      unequal := if r.payload &&& c.mask = c.expected &&& c.mask ∨ c.unequal = 0xFFFF#16 then c.unequal else c.unequal + 1
      last := some r } := by
  simp only [examine, accepts_iff, bumpSaturating]
  by_cases h : r.payload &&& c.mask = c.expected &&& c.mask <;> simp [h]

namespace FilterView

/-- A capture record that is cleared reads 0 in every word (R111). -/
theorem armed_words (v : FilterView) {i : Fin 8} (hi : i ∈ ([2, 3, 4, 5, 6, 7] : List (Fin 8))) : v.armed.words i = 0 := by
  have hhigh : Reset.capture.payload.extractLsb' 32 32 = 0 := by decide
  have hflags : Reset.capture.flagsWord = 0 := by decide
  have hident : Reset.capture.identWord = 0 := by decide
  obtain ⟨h2, h3, h4, h5, h6, h7⟩ := { v with filter := v.armed.filter }.shown_words
  simp only [List.mem_cons, List.not_mem_nil, or_false] at hi
  rcases hi with rfl | rfl | rfl | rfl | rfl | rfl
  exacts [h2, h3.trans hhigh, h4.trans hflags, h5, h6, h7.trans hident]

theorem taken_filter (f : Frame) (il : BitVec 4) (now : W32) (examine : Bool) (v : FilterView) :
    (v.taken f il now examine).filter =
      ⟨v.filter.armed, { v.filter.record.take f il now with fresh := !examine }⟩ := by
  cases examine <;> rfl

/-- The words of the capture slot show the capture, w4 also that it has been examined (R110, R113). -/
theorem taken_words (f : Frame) (il : BitVec 4) (now : W32) (examine : Bool) (v : FilterView) :
    let r := v.filter.record.take f il now
    let w := v.taken f il now examine
    w.words 2 = r.payload.extractLsb' 0 32 ∧ w.words 3 = r.payload.extractLsb' 32 32 ∧ w.words 5 = r.arrival ∧
      w.words 6 = r.count ∧ w.words 7 = r.identWord ∧ w.words 4 = w.filter.record.flagsWord := by
  intro r w
  obtain ⟨h2, h3, h4, h5, h6, h7⟩ := { v with filter := { v.filter with record := r } }.shown_words
  cases examine with
  | false => exact ⟨h2, h3, h5, h6, h7, h4⟩
  | true => exact ⟨h2, h3, h5, h6, h7, rfl⟩

end FilterView

namespace Part

variable {n : NestId} {k : Fin 8} {s t : Part} {f : Frame} {il : BitVec 4} {c : CheckFrame} {st : Step}

/-! ### CAPTURE_ARM (R111) -/

/-- A filter named in both masks is disarmed and then armed. -/
theorem armed_filter (n : NestId) (arm disarm : Byte) (k : Fin 8) (s : Part) :
    ((s.disarmFilters n disarm).armFilters n arm).filter n k =
      if arm.getLsbD k.val then
        ⟨some ⟨bitAt (s.word (captureAt n k 0)) 31, field (s.word (captureAt n k 0)) 0 29,
          field (s.word (captureAt n k 1)) 0 29⟩, Reset.capture⟩
      else if disarm.getLsbD k.val then { s.filter n k with armed := none } else s.filter n k := by
  have hview := congrArg FilterView.filter (armFilters_capture n arm k (s.disarmFilters n disarm))
  rw [disarmFilters_capture] at hview
  refine hview.trans ?_
  cases arm.getLsbD k.val <;> cases disarm.getLsbD k.val <;> rfl

theorem armed_words {arm disarm : Byte} {w : Nat} (ha : arm.getLsbD k.val = true) (hw : w ∈ [2, 3, 4, 5, 6, 7]) :
    ((s.disarmFilters n disarm).armFilters n arm).word (captureAt n k w) = 0 := by
  have hview := congrArg FilterView.words (armFilters_capture n arm k (s.disarmFilters n disarm))
  rw [if_pos ha] at hview
  have hlt : w < 8 := by
    simp only [List.mem_cons, List.not_mem_nil, or_false] at hw
    omega
  refine (congrFun hview ⟨w, hlt⟩).trans (FilterView.armed_words _ ?_)
  simpa [Fin.ext_iff] using hw

/-! ### The end of a frame -/

/-- A data frame taken by the filters, and the receiver IDLE. -/
def received (n : NestId) (f : Frame) (il : BitVec 4) (s : Part) : Part :=
  (s.offerFrames n f il).modBuc n fun b => { b with rx := none }

theorem receptionEnds_data (h : (s.buc.get n).rx = some il) (f : Frame) :
    s.receptionEnds n (.data f) = (s.received n f il).arbitrate n := by
  simp only [receptionEnds, h]
  rfl

theorem received_buc (n : NestId) (f : Frame) (il : BitVec 4) (s : Part) : (s.received n f il).buc.get n =
    { s.buc.get n with
      rx := none, check := ((s.received n f il).buc.get n).check
      filters := ((s.received n f il).buc.get n).filters } := by
  simp only [received, modBuc_buc, Bank.get_modify_same]
  rw [offerFrames_buc]

theorem received_check : ((s.received n f il).buc.get n).check = ((s.offerFrames n f il).buc.get n).check := by
  simp [received]

theorem received_sent : (s.received n f il).sent = (s.offerFrames n f il).sent := by rw [received, modBuc_sent]

theorem received_nsq : (s.received n f il).nsq = (s.offerFrames n f il).nsq := by rw [received, modBuc_nsq]

theorem received_acts (n : NestId) (f : Frame) (il : BitVec 4) (s : Part) :
    s.BusActs n (allRecordWords n) (s.received n f il) :=
  (offerFrames_acts n f il s).trans (AtBus.refl.modBuc).acts

theorem received_capture (n : NestId) (f : Frame) (il : BitVec 4) (k : Fin 8) (s : Part) :
    (s.received n f il).capture n k =
      if (s.filter n k).takes f then (s.capture n k).taken f il s.timebase (s.checks n k) else s.capture n k := by
  rw [received, capture_modBuc, offerFrames_capture]
  exact fun _ => rfl

/-- A busy or OFF controller, or one with nothing pending, starts nothing after a frame (R100). -/
theorem received_arbitrate (h : (s.buc.get n).on = false ∨ (s.buc.get n).tx.isSome ∨
      ∀ j, (s.slot n j).pendingDue = none) : (s.received n f il).arbitrate n = s.received n f il := by
  have hon : ((s.received n f il).buc.get n).on = (s.buc.get n).on := by rw [received_buc]
  have htx : ((s.received n f il).buc.get n).tx = (s.buc.get n).tx := by rw [received_buc]
  have hslots : ((s.received n f il).buc.get n).slots = (s.buc.get n).slots := by rw [received_buc]
  refine (arbitrate_arbitrates n _).2 ?_
  rw [hon, htx, hslots]
  rcases h with h | h | h
  exacts [.inl h, .inr (.inl h), .inr (.inr (.inr h))]

/-- The arbiter runs on what a frame makes of an idle controller as of one with a transmission in progress (R100). -/
theorem received_arbitrates (h : (s.buc.get n).rx = some il) (htx : (s.buc.get n).tx = none) (t : Transmission) :
    (((s.withTx n (some t)).receptionEnds n (.data f)).withTx n none).Arbitrates n (s.receptionEnds n (.data f)) := by
  have hapart : TxApart n s (s.withTx n (some t)) := ⟨some t, rfl⟩
  have hrx : ((s.withTx n (some t)).buc.get n).rx = some il := by simp [withTx, h]
  rw [receptionEnds_data h, receptionEnds_data hrx]
  refine ((hapart.offerFrames f il).modBuc fun b x => ⟨x, rfl⟩).arbitrates ?_ ?_
  · rw [modBuc_buc, Bank.get_modify_same, offerFrames_buc]; exact htx
  · rw [modBuc_buc, Bank.get_modify_same, offerFrames_buc]; simp [withTx]

/-- A frame without payload for the filters leaves the receiver IDLE (R109). -/
theorem receptionEnds_other (h : (s.buc.get n).rx = some il) {how : ReceptionEnd} (hhow : how = .remote ∨ how = .error) :
    s.receptionEnds n how = ({ s with buc := s.buc.put n { s.buc.get n with rx := none } } : Part).arbitrate n := by
  rcases hhow with rfl | rfl <;> (simp only [receptionEnds, h]; rfl)

theorem receptionEnds_idle (h : (s.buc.get n).rx = none) (how : ReceptionEnd) : s.receptionEnds n how = s := by
  simp only [receptionEnds, h]

theorem received_passed (h : ¬ (s.filter n k).takes f = true) : (s.received n f il).filter n k = s.filter n k := by
  suffices hv : ((s.received n f il).capture n k).filter = (s.capture n k).filter from hv
  rw [received_capture, if_neg h]

/-- What filter `k` holds once it has taken a frame of the bus, and the words of its capture slot. -/
theorem received_taken (h : (s.filter n k).takes f = true) (hf : f.extended = true ∨ f.ident &&& 0x7FF#29 = f.ident) :
    let r := (s.filter n k).record
    let p := s.received n f il
    p.filter n k = ⟨(s.filter n k).armed,
        ⟨payloadPrefix f.length f.payload, f.length, s.timebase, r.count + 1, f.ident, f.extended, il, !s.checks n k,
          r.overrun || r.fresh⟩⟩ ∧
      p.word (captureAt n k 2) = (payloadPrefix f.length f.payload).extractLsb' 0 32 ∧
      p.word (captureAt n k 3) = (payloadPrefix f.length f.payload).extractLsb' 32 32 ∧
      p.word (captureAt n k 5) = s.timebase ∧ p.word (captureAt n k 6) = r.count + 1 ∧
      p.word (captureAt n k 7) = (place f.ident 0 ||| flag f.extended 31) ∧
      p.word (captureAt n k 4) = (p.filter n k).record.flagsWord := by
  intro r p
  have hview : p.capture n k = _ := received_capture n f il k s
  clear_value p
  obtain ⟨h2, h3, h5, h6, h7, h4⟩ := (s.capture n k).taken_words f il s.timebase (s.checks n k)
  have hfilter := (s.capture n k).taken_filter f il s.timebase (s.checks n k)
  have hrecord : (s.capture n k).filter.record.take f il s.timebase = _ := Capture.take_eq hf il s.timebase r
  rw [if_pos h] at hview
  rw [← hview] at h2 h3 h4 h5 h6 h7 hfilter
  rw [hrecord] at h2 h3 h5 h6 h7 hfilter
  exact ⟨hfilter, h2, h3, h5, h6, h7, h4⟩

theorem received_unchecked (h : (s.buc.get n).check = none) : ((s.received n f il).buc.get n).check = none ∧
    (s.received n f il).sent = s.sent ∧ (s.received n f il).nsq = s.nsq := by
  rw [received_check, received_sent, received_nsq]
  exact offerFrames_unchecked h

theorem received_unexamined (hc : (s.buc.get n).check = some c) (h : ¬ (s.filter n c.filter).takes f = true) :
    ((s.received n f il).buc.get n).check = some c ∧ (s.received n f il).sent = s.sent ∧
      (s.received n f il).nsq = s.nsq := by
  rw [received_check, received_sent, received_nsq]
  exact offerFrames_passed hc (Bool.eq_false_iff.2 h)

theorem received_examined (hc : (s.buc.get n).check = some c) (h : (s.filter n c.filter).takes f = true)
    (hf : f.extended = true ∨ f.ident &&& 0x7FF#29 = f.ident) :
    let r := (s.filter n c.filter).record
    let payload := payloadPrefix f.length f.payload
    let right := payload &&& c.mask = c.expected &&& c.mask
    let after : CheckFrame :=
      { c with
        examined := if c.examined = 0xFFFF#16 then c.examined else c.examined + 1
        unequal := if right ∨ c.unequal = 0xFFFF#16 then c.unequal else c.unequal + 1
        last := some ⟨payload, f.length, s.timebase, r.count + 1, f.ident, f.extended, il, true, r.overrun || r.fresh⟩ }
    (right → ((s.received n f il).buc.get n).check = none ∧
        s.Completes n .checkFrame .pass .none after.results [] [] (s.received n f il)) ∧
      (¬ right → ((s.received n f il).buc.get n).check = some after ∧ (s.received n f il).sent = s.sent) := by
  intro r payload right after
  have hafter : s.reexamined n f il c.filter c = after := by
    rw [reexamined, CheckFrame.examine_eq, Capture.take_eq hf]
  rw [← hafter, received_check, received_sent]
  simp only [Completes, Sends, received_sent, received_nsq]
  exact ⟨fun hright => offerFrames_accepted hc h ((c.accepts_iff payload).2 hright),
    fun hwrong => offerFrames_rejected hc h (mt (c.accepts_iff payload).1 hwrong)⟩

/-! ### CHECK_FRAME at its hand-off (R112, R113) -/

/-- A first capture that is the expected one passes. -/
theorem first_accepted {r : Capture} (hx : c.examined = 0) (hu : c.unequal = 0)
    (h : r.payload &&& c.mask = c.expected &&& c.mask) : (c.examine r).results =
      ⟨r.payload.extractLsb' 0 32, r.payload.extractLsb' 32 32, 1, r.arrival, wordOf r.length.val ||| flag r.overrun 8⟩ := by
  rw [CheckFrame.examine_eq, hx, hu]
  simp [CheckFrame.results, h, place]

theorem first_rejected {r : Capture} (hx : c.examined = 0) (hu : c.unequal = 0)
    (h : ¬ r.payload &&& c.mask = c.expected &&& c.mask) :
    c.examine r = { c with examined := 1, unequal := 1, last := some r } := by
  rw [CheckFrame.examine_eq, hx, hu]
  simp [h]

/-- A fresh-only CHECK_FRAME discards the capture that stands, and waits. -/
theorem handCheckFrame_freshOnly (hp : s.powered n = true) (hk : (field (st.w 2) 0 8 : Byte).toNat = k.val)
    (h : bitAt (st.w 2) 8 = true) : s.handCheckFrame n st =
      (s.examinedWith n k (some ⟨k, st.w 4 ++ st.w 3, st.w 6 ++ st.w 5, 0, 0, none⟩), .started) := by
  rw [handCheckFrame_eq hp hk, if_pos h, withCheck_examined]

theorem handCheckFrame_waits (hp : s.powered n = true) (hk : (field (st.w 2) 0 8 : Byte).toNat = k.val)
    (h : ¬ bitAt (st.w 2) 8 = true) (hfresh : ¬ (s.filter n k).record.fresh = true) : s.handCheckFrame n st =
      (s.withCheck n (some ⟨k, st.w 4 ++ st.w 3, st.w 6 ++ st.w 5, 0, 0, none⟩), .started) := by
  rw [handCheckFrame_eq hp hk, if_neg h, if_neg hfresh]

theorem handCheckFrame_passes (hp : s.powered n = true) (hk : (field (st.w 2) 0 8 : Byte).toNat = k.val)
    (h : ¬ bitAt (st.w 2) 8 = true) (hfresh : (s.filter n k).record.fresh = true) :
    let r := (s.filter n k).record
    let c : CheckFrame := ⟨k, st.w 4 ++ st.w 3, st.w 6 ++ st.w 5, 0, 0, none⟩
    r.payload &&& c.mask = c.expected &&& c.mask → s.handCheckFrame n st =
      (s.examinedWith n k none, .done .pass .none ⟨r.payload.extractLsb' 0 32, r.payload.extractLsb' 32 32, 1, r.arrival,
        wordOf r.length.val ||| flag r.overrun 8⟩) := by
  intro r c hright
  have hexamine := withCheck_examine_accepted (s := s) (n := n) (c := c) ((c.accepts_iff r.payload).2 hright)
  rw [handCheckFrame_eq hp hk, if_neg h, if_pos hfresh, hexamine, first_accepted rfl rfl hright]
  rfl

theorem handCheckFrame_starts (hp : s.powered n = true) (hk : (field (st.w 2) 0 8 : Byte).toNat = k.val)
    (h : ¬ bitAt (st.w 2) 8 = true) (hfresh : (s.filter n k).record.fresh = true) :
    let r := (s.filter n k).record
    let c : CheckFrame := ⟨k, st.w 4 ++ st.w 3, st.w 6 ++ st.w 5, 0, 0, none⟩
    ¬ r.payload &&& c.mask = c.expected &&& c.mask → s.handCheckFrame n st =
      (s.examinedWith n k (some { c with examined := 1, unequal := 1, last := some r }), .started) := by
  intro r c hwrong
  have hexamine := withCheck_examine_rejected (s := s) (n := n) (c := c) (mt (c.accepts_iff r.payload).1 hwrong)
  rw [handCheckFrame_eq hp hk, if_neg h, if_pos hfresh, hexamine, first_rejected rfl rfl hwrong]

end Part

/-- Settles O39, by the fold over the filters, of which each takes the frame, and its CHECK_FRAME examines it, at its own
turn. -/
theorem receptionFillsTheMatchingFilters : Obligations.ReceptionFillsTheMatchingFilters := by
  refine ⟨fun n il s => ?_, fun b f => ⟨rfl, rfl, rfl⟩, fun n st s hp => ?_, fun n k st s hp hk => ?_, fun n il s => ?_⟩
  · intro b
    refine ⟨fun hon => answers_of_act (f := (·.receptionStarts n il)) rfl ?_, fun hoff => ?_, fun hrx how => ?_⟩
    · exact if_pos hon
    · exact exec_eq_next (f := (·.receptionStarts n il)) rfl (if_neg (by simp [b, hoff]))
    · exact exec_eq_next (f := (·.receptionEnds n how)) rfl (Part.receptionEnds_idle hrx how)
  · intro b arm disarm p
    obtain ⟨hpart, hanswer⟩ := Prod.ext_iff.1 (Part.handCaptureArm_eq hp st)
    have hp : p = (s.disarmFilters n disarm).armFilters n arm := hpart
    have hat := (Part.disarmFilters_atBus n disarm s).trans (Part.armFilters_atBus n arm (s.disarmFilters n disarm))
    rw [hp]
    exact ⟨fun k => Part.armed_filter n arm disarm k s, fun k w ha hw => Part.armed_words ha hw,
      fun k => Bus.armedMask_getLsbD _ k, hanswer, Part.armFilters_buc n arm disarm s, hat.stores, hat.nestOnly, hat.same⟩
  · intro b x r c right examined
    exact ⟨fun honly => Part.handCheckFrame_freshOnly hp hk honly, fun hany =>
      ⟨fun hfresh => Part.handCheckFrame_waits hp hk (by simp [hany]) (Bool.eq_false_iff.1 hfresh),
        fun hfresh => Part.handCheckFrame_passes hp hk (by simp [hany]) hfresh,
        fun hfresh => Part.handCheckFrame_starts hp hk (by simp [hany]) hfresh⟩⟩
  · intro b hrx
    refine ⟨fun how hhow => answers_of_act (f := (·.receptionEnds n how)) rfl ?_, fun f hf => ?_⟩
    · rw [Part.receptionEnds_other hrx hhow]
      exact Part.arbitrate_arbitrates n _
    · intro takes taken
      have htakes (k : Fin 8) : (s.part.filter n k).takes f = true ↔ takes k := Filter.takes_iff f _
      refine ⟨fun t x htx hx => ?_, fun hquiet => ?_⟩
      · have hpart := congrArg State.part (Host.Outcome.next.inj hx)
        refine answers_of_act (f := (·.receptionEnds n (.data f))) rfl ?_
        rw [← hpart]
        exact Part.received_arbitrates hrx htx t
      · refine answers_of_act (f := (·.receptionEnds n (.data f))) rfl ?_
        rw [Part.receptionEnds_data hrx, Part.received_arbitrate hquiet]
        have hacts := Part.received_acts n f il s.part
        refine ⟨fun k hk => Part.received_passed (mt (htakes k).1 hk), fun k hk => ?_,
          fun hc => Part.received_unchecked hc,
          fun c hc hk => Part.received_unexamined hc (mt (htakes c.filter).1 hk),
          fun c hc hk => Part.received_examined hc ((htakes c.filter).2 hk) hf,
          Part.received_buc n f il s.part, hacts.kept, hacts.stores, hacts.nestOnly, hacts.same⟩
        have htaken := Part.received_taken (il := il) ((htakes k).2 hk) hf
        rw [Part.checks, ← decide_not] at htaken
        exact htaken

end Sys2Proof.Machine
end
